-- ==== Sys2Proof/Word.lean ====
section
/-! DEFINITION. The word types of the 3140 (spec/00_scope.md, Units): only their names; every operation
on them stands in `Sys2Proof/Machine/Num.lean`. -/

namespace Sys2Proof

/-- One byte of a frame's payload (spec/09, The frame). -/
abbrev Byte := BitVec 8

/-- A value of the 32-bit tick counter, 0.1 µs a tick (R1). -/
abbrev Tick := BitVec 32

/-- A set of bed zones, bit n for zone n (spec/00_scope.md, Sets of zones and stations). -/
abbrev ZoneSet := BitVec 16

end Sys2Proof
end

