-- ==== Sys2Proof/Syntax.lean ====
section
/-! DEFINITION. The commands of the 3140: one constructor for each row of spec/opcode_table.json, with the
row's operands. Every command carries the tick at which it is taken (log entry 1), but for RESET_END, at which
the tick counter starts anew (log entry 7). -/

namespace Sys2Proof

/-- A frame as the line controller takes it (R164): what the interpreter receives of it.
`tick` is the tick at the end of the end field; `quiet` the quiet count (R151) read at that bit, 7 after an
acknowledged frame. The kind is the row's. -/
structure RxFrame where
  cls : BitVec 3
  sender : BitVec 5
  payload : List Byte
  sof : Tick
  tick : Tick
  quiet : Nat := 7
  deriving DecidableEq, Repr

/-- What begins a full reset from outside (R183). -/
inductive ResetCause where
  | pin
  | powerOn
  | lowSupply
  deriving DecidableEq, Repr

/-- The nine strap inputs as they are read at the release of reset (R148, R182). -/
structure Straps where
  number : BitVec 5
  fast : Bool
  axes : BitVec 3
  deriving DecidableEq, Repr

/-- The two ends of travel of an axis (R10). -/
inductive TravelEnd where
  | min
  | max
  deriving DecidableEq, Repr

/-- The outcome of the read of one sensor slot (R24): no answer or a failed check, or a value in mK. -/
inductive SensorRead where
  | failed
  | value (mK : Int)
  deriving DecidableEq, Repr

/-- The commands: the rows of spec/opcode_table.json, in the table's order. -/
inductive Instr where
  | fullReset (cause : ResetCause) (tick : Tick)
  | resetEnd (straps : Straps)
  | scaleTransition (axis : Fin 4) (phaseA phaseB : Bool) (tick : Tick)
  | endOfTravelInput (axis : Fin 4) (travelEnd : TravelEnd) (active : Bool) (tick : Tick)
  | servoSample (tick : Tick)
  | settleTimeout (tick : Tick)
  | referenceMark (axis : Fin 4) (tick : Tick)
  | driveEnableFall (tick : Tick)
  | driveEnableRise (tick : Tick)
  | triggerDeflected (tick : Tick)
  | triggerSeated (tick : Tick)
  | reseatTimerExpiry (tick : Tick)
  | sensorSlotEnd (read : SensorRead) (tick : Tick)
  | peerTimerExpiry (tick : Tick)
  | permitTimerExpiry (tick : Tick)
  | companionTimerExpiry (point : BitVec 16) (tick : Tick)
  | claimWindowExpiry (tick : Tick)
  | tentativeHoldExpiry (tick : Tick)
  | lockStateInput (locked unlocked : Bool) (tick : Tick)
  | lidStateInput (port : Fin 8) (openIn closedIn : Bool) (tick : Tick)
  | presenceInput (port : Fin 8) (active : Bool) (tick : Tick)
  | identityReadStart (tick : Tick)
  | identityReadComplete (value : Byte) (tick : Tick)
  | lidTimerExpiry (tick : Tick)
  | lockTimerExpiry (tick : Tick)
  | identifyTimerExpiry (tick : Tick)
  | muteTimerExpiry (tick : Tick)
  | listenQuietCount (tick : Tick)
  | attemptStart (tick : Tick)
  | arbitrationLost (tick : Tick)
  | attemptSuccess (tick : Tick)
  | attemptFailed (quiet : Nat) (tick : Tick)
  | frameReceiveError (bits : List Bool) (sof : Tick) (tick : Tick)
  | duplicateNumber (sof : Tick) (tick : Tick)
  | halt (f : RxFrame)
  | touchReceived (f : RxFrame)
  | zoneObjectReceived (f : RxFrame)
  | helloReceived (f : RxFrame)
  | zoneReleaseReceived (f : RxFrame)
  | zoneClaimReceived (f : RxFrame)
  | companionReceived (f : RxFrame)
  | permit (f : RxFrame)
  | tempReceived (f : RxFrame)
  | pointReceived (f : RxFrame)
  | replyReceived (f : RxFrame)
  | statusReceived (f : RxFrame)
  | noticeReceived (f : RxFrame)
  | movePosition (f : RxFrame)
  | moveProbe (f : RxFrame)
  | reference (f : RxFrame)
  | clear (f : RxFrame)
  | probeChange (f : RxFrame)
  | probeSet (f : RxFrame)
  | datum (f : RxFrame)
  | arm (f : RxFrame)
  | disarm (f : RxFrame)
  | restart (f : RxFrame)
  | queryStation (f : RxFrame)
  | queryAxis (f : RxFrame)
  | queryZones (f : RxFrame)
  | queryChannel (f : RxFrame)
  | queryProbe (f : RxFrame)
  | queryPort (f : RxFrame)
  | queryPoints (f : RxFrame)
  | setupStation (f : RxFrame)
  | setupAxis (f : RxFrame)
  | setupScale (f : RxFrame)
  | setupMap (f : RxFrame)
  | setupZones (f : RxFrame)
  | setupThermal (f : RxFrame)
  | setupLinks (f : RxFrame)
  | setupRack (f : RxFrame)
  | unusedKindFrame (f : RxFrame)
  deriving DecidableEq, Repr

end Sys2Proof
end

