-- ==== Sys2Proof/Config.lean ====
section
/-! DEFINITION. What one 3140 fixes: the durations of its timers in ticks of 0.1 µs, and the free values,
which the spec leaves open (they have no body, so nothing can be proved of the value they take). -/

namespace Sys2Proof.Config

/-- 5 ms, the re-seat timer (R105). -/
def reseatTicks : Nat := 50000
/-- 25 ms, the companion timer (R115). -/
def companionTicks : Nat := 250000
/-- 16 ms, the claim window (R91, R99). -/
def windowTicks : Nat := 160000
/-- 5 s, the recency timer of the peer record (R35). -/
def peerTicks : Nat := 50000000
/-- 500 ms, the settle wait (R71). -/
def settleTicks : Nat := 5000000
/-- 2 s, the lid timers (R135, R136, R137, R140). -/
def lidTicks : Nat := 20000000
/-- 500 ms, the lock timers (R136, R138). -/
def lockTicks : Nat := 5000000
/-- 100 ms, the identify timer (R139). -/
def identifyTicks : Nat := 1000000
/-- 200 ms, the MUTE timer (R158). -/
def muteTicks : Nat := 2000000
/-- Ticks in a millisecond (R1). -/
def msTicks : Nat := 10000

/-- Free value: the 32-bit count that stands where an exact sum leaves the signed 32-bit range, which no rule
gives (R17, R18; log entry 9). Applied to the number of the command and to the exact sum. -/
opaque outOfRange : Nat → Int → BitVec 32

/-- Free value: the three bytes of a TOUCH age that does not fit them, which no rule gives (R116; log entry 9). -/
opaque ageField : Nat → Nat → BitVec 24

end Sys2Proof.Config
end

