-- ==== Sys2Proof/Machine/State.lean ====
section
/-! DEFINITION. Everything the spec gives the 3140 to hold, as plain data, block by block, with the value of
each item after a full reset. Positions, coordinates and temperatures are `Int`: R3 names signed 64-bit intermediates,
and the model computes exactly everywhere (log entry 38). What the spec carries as bits (tags, ticks, wrapping counters,
zone sets) is a bit vector. Stations, probe ids and other numbers taken from frames are `Nat`. -/

namespace Sys2Proof.Machine

/-! ### Why a step can stop -/

/-- A stop of the machine itself. The spec gives the part none: a motion fault (R9), a failed phase (R141), a
receive error (R150) and a strap fault (R148) are states it goes on from. No meaning raises this constructor;
it is safe, since no step answers it. -/
inductive Fault where
  | machineStopped
  deriving DecidableEq, Repr

/-- A refusal of the model. Every command of the table has its meaning, so no step answers it; it is safe. -/
inductive Refusal where
  | notModelled (mnemonic : String)
  deriving DecidableEq, Repr

/-! ### Axis channels (spec/01, spec/03) -/

/-- Kind of an axis record (R5). -/
inductive AxisKind where
  | linear
  | angular
  deriving DecidableEq, Repr

/-- Role of an axis record (R5). -/
inductive Role where
  | other
  | zoneAxis
  | reachAxis
  deriving DecidableEq, Repr

/-- Cause of a motion fault (R9). -/
inductive FaultCause where
  | encoder
  | overrange
  | endMin
  | endMax
  | following
  | notFound
  deriving DecidableEq, Repr

/-- End state of a channel (R10). -/
inductive EndState where
  | none
  | atMin
  | atMax
  | atBoth
  deriving DecidableEq, Repr

/-- The axis record (spec/01, The axis record). -/
structure AxisRecord where
  setUp : Bool
  kind : AxisKind
  role : Role
  softMin : Int
  softMax : Int
  maxSpeed : Nat
  followLimit : Nat
  window : Nat
  refValue : Int
  searchNeg : Bool
  refSpeed : Nat
  deriving DecidableEq, Repr

/-- R22: not set up, LINEAR, OTHER, every number 0, search direction +. -/
def AxisRecord.afterReset : AxisRecord :=
  { setUp := false, kind := .linear, role := .other, softMin := 0, softMax := 0, maxSpeed := 0,
    followLimit := 0, window := 0, refValue := 0, searchNeg := false, refSpeed := 0 }

/-- The compensation record (spec/03, Parameters). `none` stands for 255. -/
structure CompRecord where
  alpha : Int
  scaleChannel : Option (Fin 16)
  origin : Int
  shift : Nat
  tip : Option (Fin 3)
  bedOffset : Int
  nodes : Vector Int 65
  datum : Int
  deriving DecidableEq, Repr

/-- R55. -/
def CompRecord.afterReset : CompRecord :=
  { alpha := 0, scaleChannel := none, origin := 0, shift := 22, tip := none, bedOffset := 0,
    nodes := Vector.replicate 65 0, datum := 0 }

/-- One entry of a history ring (R14). -/
structure Sample where
  tick : Tick
  count : Int
  deriving DecidableEq, Repr

/-- One axis channel: its record, its compensation record and its running state (spec/01). `ring` is oldest
first. The end state and the amplifier enable are computed from other fields (`endState`, `ampOn`). -/
structure Axis where
  record : AxisRecord
  comp : CompRecord
  position : Int
  demand : Int
  referenced : Bool
  ring : List Sample
  driveOut : Int
  followErr : Int
  deriving DecidableEq, Repr

/-- R22, R55. -/
def Axis.afterReset : Axis :=
  { record := AxisRecord.afterReset, comp := CompRecord.afterReset, position := 0, demand := 0,
    referenced := false, ring := [], driveOut := 0, followErr := 0 }

/-- What the capture latch holds once loaded (R15): the tick of the edge and every channel's position. -/
structure Capture where
  tick : Tick
  counts : Vector Int 4
  deriving DecidableEq, Repr

/-- The stored part of the motion state: DISABLED and FAULTED are entered and left by events (R57); the other
states are computed from the permit and the queue. -/
inductive Gate where
  | normal
  | disabled
  | faulted
  deriving DecidableEq, Repr

/-- The motion state (R57), with the codes of R198 in this order. -/
inductive Motion where
  | idle
  | waiting
  | moving
  | held
  | faulted
  | disabled
  deriving DecidableEq, Repr

/-! ### Temperature (spec/02) -/

/-- Quality of a figure (spec/02). -/
inductive Quality where
  | fresh
  | stale
  | absent
  deriving DecidableEq, Repr

/-- A figure: a value in mK and its quality (spec/02). -/
structure Figure where
  value : Int
  quality : Quality
  deriving DecidableEq, Repr

/-- State of a sensor channel (spec/02, Channel states). -/
inductive ChannelState where
  | unused
  | settling
  | valid
  | held
  | faulted
  deriving DecidableEq, Repr

/-- A sensor channel record (spec/02, Channel states). -/
structure Channel where
  state : ChannelState
  average : Int
  last : Int
  rejects : Nat
  heldAge : Nat
  settle : Nat
  deriving DecidableEq, Repr

/-- R39. -/
def Channel.afterReset : Channel :=
  { state := .unused, average := 0, last := 0, rejects := 0, heldAge := 0, settle := 0 }

/-- Source of the workpiece figure (R34). -/
inductive Source where
  | localChannels
  | peer
  deriving DecidableEq, Repr

/-- Standing of the peer record (R35). -/
inductive PeerStanding where
  | neverHeard
  | heard
  | gone
  deriving DecidableEq, Repr

/-- The peer record (R35). `timer` is the deadline of the recency timer while it runs. -/
structure Peer where
  standing : PeerStanding
  figure : Int
  quality : Quality
  timer : Option Nat
  deriving DecidableEq, Repr

/-- R39. -/
def Peer.afterReset : Peer :=
  { standing := .neverHeard, figure := 20000, quality := .absent, timer := none }

/-- The temperature unit. `slot` is the slot of the round that is running and `reading` says whether the
channel of that slot is being read in it (R23, R26). -/
structure Thermal where
  mask : BitVec 16
  shift : Nat
  channels : Vector Channel 16
  slot : Fin 16
  reading : Bool
  alphaW : Int
  source : Source
  entries : Vector (Option (Fin 16)) 4
  peerStation : Nat
  publish : Bool
  peer : Peer
  deriving DecidableEq, Repr

/-- R39, R23. -/
def Thermal.afterReset : Thermal :=
  { mask := 0, shift := 0, channels := Vector.replicate 16 Channel.afterReset, slot := 0, reading := false,
    alphaW := 0, source := .localChannels, entries := Vector.replicate 4 none, peerStation := 0,
    publish := false, peer := Peer.afterReset }

/-! ### Segments and motion (spec/04) -/

/-- Who issued a segment (spec/04, The segment record). -/
inductive Issuer where
  | room
  | probeUnit
  deriving DecidableEq, Repr

/-- Kind of a segment, with the codes of spec/09 in this order. -/
inductive SegKind where
  | position
  | probe
  | reference
  | rackTravel
  | rackInsert
  deriving DecidableEq, Repr

/-- State of a segment in the queue. A segment that is ENDED has left the queue (R56). -/
inductive SegState where
  | queued
  | waiting
  | claiming
  | moving
  | stopping
  deriving DecidableEq, Repr

/-- Outcome of a segment, with the codes of spec/09 in this order. -/
inductive SegOutcome where
  | arrived
  | unsettled
  | touched
  | missed
  | halted
  | lapsed
  | collision
  | conflict
  | motionFault
  | drivesOff
  deriving DecidableEq, Repr

/-- The trajectory of a MOVING or STOPPING segment (R17, R68 to R71): where it started, the path length `len`,
the path speed, the progress `s` and speed `u` in 1/65,536 count, whether its demand has arrived (or come to
rest, for a REFERENCE), the settle deadline, and whether its reference mark has been taken. -/
structure Trajectory where
  start : Vector Int 4
  len : Nat
  pathSpeed : Nat
  s : Nat
  u : Nat
  arrived : Bool
  settle : Option Nat
  marked : Bool
  deriving DecidableEq, Repr

/-- The trajectory of a segment that has not gone MOVING. -/
def Trajectory.none : Trajectory :=
  { start := Vector.replicate 4 0, len := 0, pathSpeed := 0, s := 0, u := 0, arrived := false,
    settle := Option.none, marked := false }

/-- A segment record (spec/04, The segment record). `axis` is the axis of a REFERENCE; `flushed` counts the
segments removed behind it while it was head, saturating at 7 (R75). -/
structure Segment where
  number : BitVec 8
  issuer : Issuer
  kind : SegKind
  axis : Fin 4
  targets : Vector Int 4
  searchEnd : Option (Vector Int 4)
  speed : Nat
  needed : Option ZoneSet
  decelerating : Bool
  state : SegState
  outcome : Option SegOutcome
  flushed : Nat
  traj : Trajectory
  deriving DecidableEq, Repr

/-- State of the permit (R78). -/
inductive Permit where
  | none
  | valid
  | lapsed
  deriving DecidableEq, Repr

/-- The motion sequencer: the queue, oldest first, the segment counter, and the permit with the deadline of its
timer (spec/04). -/
structure Sequencer where
  queue : List Segment
  counter : BitVec 8
  permit : Permit
  permitTimer : Option Nat
  deriving DecidableEq, Repr

/-- R82. -/
def Sequencer.afterReset : Sequencer :=
  { queue := [], counter := 0, permit := .none, permitTimer := Option.none }

/-! ### Zones (spec/05) -/

/-- Standing of a hold (R88). -/
inductive Standing where
  | tentative
  | firm
  deriving DecidableEq, Repr

/-- A hold of one zone: holder, standing and when it began, on the unwrapped tick counter (R88). The age in
milliseconds is computed (`holdAge`). -/
structure Hold where
  holder : Nat
  standing : Standing
  since : Nat
  deriving DecidableEq, Repr

/-- The own claim record (R89). `outlived` says that the head for which a QUEUED claim was made has ended, the claim being
kept since its frame was past withdrawal then (R90, R155). -/
inductive Claim where
  | none
  | queued (zones : ZoneSet) (outlived : Bool)
  | window (zones : ZoneSet) (began : Nat)
  deriving DecidableEq, Repr

/-- The zone unit: boundaries b1 to b15 (index 0 is b1) and which are loaded, the zone view (`none` is a free
zone) and the own claim record (spec/05). -/
structure ZoneUnit where
  boundaries : Vector Int 15
  loaded : Vector Bool 15
  view : Vector (Option Hold) 16
  claim : Claim
  deriving DecidableEq, Repr

/-- R104. -/
def ZoneUnit.afterReset : ZoneUnit :=
  { boundaries := Vector.replicate 15 0, loaded := Vector.replicate 15 false,
    view := Vector.replicate 16 Option.none, claim := .none }

/-! ### Touches and points (spec/06) -/

/-- Re-seat state of the trigger (R105). -/
inductive Reseat where
  | spent
  | ready
  deriving DecidableEq, Repr

/-- The flags of a point record (spec/06, The point record), CLAMPED in bit 7 of the POINT frame down to
DECELERATING in bit 0. -/
structure PointFlags where
  clamped : Bool
  mapOutside : Bool
  thermalStale : Bool
  thermalAbsent : Bool
  unqualified : Bool
  companionPresent : Bool
  companionMissing : Bool
  decelerating : Bool
  deriving DecidableEq, Repr

/-- State of a point record (spec/06). -/
inductive PointState where
  | awaiting
  | ready
  | offered
  deriving DecidableEq, Repr

/-- A point record (spec/06, The point record). `coords` holds one coordinate for each channel of the mask, in
channel order; `timer` is the deadline of the companion timer while it runs. -/
structure PointRecord where
  number : BitVec 16
  segment : BitVec 8
  probe : Nat
  flags : PointFlags
  mask : BitVec 4
  coords : List Int
  companion : Option Int
  state : PointState
  expected : Nat
  captureTick : Tick
  announced : Bool
  timer : Option Nat
  deriving DecidableEq, Repr

/-- A pending companion request (R120). -/
structure Request where
  toucher : Nat
  point : BitVec 16
  instant : Tick
  deriving DecidableEq, Repr

/-- The capture unit (spec/06): re-seat state and timer, point buffer, oldest first, point counter, pending
companion requests. -/
structure CaptureUnit where
  reseat : Reseat
  reseatTimer : Option Nat
  points : List PointRecord
  counter : BitVec 16
  requests : List Request
  deriving DecidableEq, Repr

/-! ### Probes and the rack (spec/07) -/

/-- Location of a probe record, with the codes of R202 in this order. -/
inductive Location where
  | onHead
  | inPort
  | absent
  | unknown
  deriving DecidableEq, Repr

/-- A probe record; id 0 is an empty record and `none` stands for home port 255 (R126). -/
structure ProbeRecord where
  id : Nat
  home : Option (Fin 8)
  location : Location
  tip : Vector Int 3
  allowance : Nat
  qualified : Bool
  touches : Nat
  deriving DecidableEq, Repr

/-- An empty record (R126). -/
def ProbeRecord.empty : ProbeRecord :=
  { id := 0, home := none, location := .absent, tip := Vector.replicate 3 0, allowance := 0,
    qualified := false, touches := 0 }

/-- A port record (R130). The lid state and the presence are computed from the pins. -/
structure Port where
  configured : Bool
  approach : Vector Int 3
  insertAxis : Fin 4
  insertDepth : Int
  lidOpen : Bool
  deriving DecidableEq, Repr

/-- R130, R147. -/
def Port.afterReset : Port :=
  { configured := false, approach := Vector.replicate 3 0, insertAxis := 0, insertDepth := 0, lidOpen := false }

/-- The lock state of the head (R129). -/
inductive LockState where
  | locked
  | unlocked
  | moving
  deriving DecidableEq, Repr

/-- The lid state of a port, with the codes of R203 in this order (R131). -/
inductive LidState where
  | closed
  | opening
  | opened
  | closing
  deriving DecidableEq, Repr

/-- The thirteen phases of a probe change, in order (spec/07). -/
inductive Phase where
  | travelDrop
  | openDrop
  | insert
  | unlock
  | detach
  | closeDrop
  | travelPick
  | openPick
  | engage
  | lock
  | identify
  | withdraw
  | closePick
  deriving DecidableEq, Repr

/-- Outcome of a change, with the codes of spec/09 in this order. -/
inductive ChangeOutcome where
  | done
  | failed
  | aborted
  deriving DecidableEq, Repr

/-- Cause of a change's end, with the codes of spec/09 in this order. -/
inductive ChangeCause where
  | none
  | collision
  | lidFault
  | lockFault
  | dropFault
  | presenceFault
  | pickFault
  | wrongProbe
  | settleFault
  | conflict
  | motionFault
  | drivesOff
  | halted
  | mute
  | lapsed
  deriving DecidableEq, Repr

/-- The deferred expiry of the change record (R143). -/
inductive DeferredExpiry where
  | none
  | timer
  | hello
  deriving DecidableEq, Repr

/-- An outcome with its phase number (0 for DONE), cause and, for WRONG PROBE, the id read (R146). -/
structure ChangeResult where
  outcome : ChangeOutcome
  phase : Nat
  cause : ChangeCause
  idRead : Nat
  deriving DecidableEq, Repr

/-- The change record (R133, R143, R146). `segArrived` says that the segment of the phase running has ended
ARRIVED, `readBegun` that an identity read has begun since the phase came to wait for one (R136, R139). `result` is
the outcome taken by the change in progress, `last` the last one taken since reset (R203). -/
structure Change where
  active : Bool
  target : Nat
  oldId : Nat
  drop : Option (Fin 8)
  pick : Option (Fin 8)
  phase : Option Phase
  timer : Option Nat
  deferred : ChangeCause
  expiry : DeferredExpiry
  segArrived : Bool
  readBegun : Bool
  result : Option ChangeResult
  last : Option ChangeResult
  deriving DecidableEq, Repr

/-- The change record when no change is in progress; `last` is kept for STATUS (R146). DESIGN CHOICE (log entry 52): the
target id and the old probe id that a STATUS carries then are 0, after a change has ended too (R203). -/
def Change.idle (last : Option ChangeResult) : Change :=
  { active := false, target := 0, oldId := 0, drop := none, pick := none, phase := none, timer := none,
    deferred := .none, expiry := .none, segArrived := false, readBegun := false, result := none, last := last }

/-- The probe unit (spec/07). `unlockOut` is the lock output, true for UNLOCK; `reading` says that an identity read is in
progress. -/
structure ProbeUnit where
  table : Vector ProbeRecord 16
  ports : Vector Port 8
  unlockOut : Bool
  identity : Nat
  reading : Bool
  change : Change
  deriving DecidableEq, Repr

/-- R147, R129: the lock output keeps the level it had; a read begins at the end of reset. -/
def ProbeUnit.afterReset (unlockOut : Bool) : ProbeUnit :=
  { table := Vector.replicate 16 ProbeRecord.empty, ports := Vector.replicate 8 Port.afterReset,
    unlockOut := unlockOut, identity := 0, reading := true, change := Change.idle none }

/-! ### Slots and notices (spec/09) -/

/-- What the TOUCH slot holds; the age is formed at each attempt from the capture tick (R162). -/
structure TouchFrame where
  point : BitVec 16
  probe : Nat
  captureTick : Tick
  deriving DecidableEq, Repr

/-- What an OBJECT slot holds (R93). -/
structure ObjectFrame where
  claimant : Nat
  zones : ZoneSet
  deriving DecidableEq, Repr

/-- Status of a companion answer, with the codes of spec/09 in this order (R120). -/
inductive CompanionStatus where
  | ok
  | beyondHistory
  | notReferenced
  deriving DecidableEq, Repr

/-- What a COMPANION slot holds (R122). -/
structure CompanionFrame where
  dest : Nat
  point : BitVec 16
  value : Int
  status : CompanionStatus
  deriving DecidableEq, Repr

/-- What the POINT slot holds (R123). -/
structure PointFrame where
  number : BitVec 16
  segment : BitVec 8
  probe : Nat
  flags : PointFlags
  mask : BitVec 4
  coords : List Int
  companion : Option Int
  deriving DecidableEq, Repr

/-- Reply codes, with the codes of spec/09 in this order. -/
inductive ReplyCode where
  | accepted
  | done
  | wrongState
  | badValue
  | outOfRange
  | notReferenced
  | busy
  | queueFull
  | notController
  deriving DecidableEq, Repr

/-- What a REPLY slot holds (R171). -/
structure ReplyFrame where
  dest : Nat
  kind : Nat
  code : ReplyCode
  detail : Nat
  deriving DecidableEq, Repr

/-- What the STATUS slot holds: the content is fixed when it is built (R170). -/
structure StatusFrame where
  dest : Nat
  sect : Nat
  index : Nat
  content : List Byte
  deriving DecidableEq, Repr

/-- A notice with the detail of its kind (spec/09, Notice details). -/
inductive Notice where
  | driveChange (high : Bool)
  | motionFault (axis : Fin 4) (cause : FaultCause)
  | collision (segment : BitVec 8) (kind : SegKind) (probe : Nat)
  | zoneConflict (station : Nat) (zones : ZoneSet) (late : Bool)
  | probeChangeEnd (target : Nat) (result : ChangeResult)
  | permitLapsed (hello : Bool)
  | segmentEnd (number : BitVec 8) (outcome : SegOutcome) (flushed : Nat)
  | thermal (channel : Fin 16) (state : ChannelState)
  | lineRejoined (mutes : Nat) (ms : Nat)
  deriving DecidableEq, Repr

/-- What the NOTICE slot holds (R179). -/
structure NoticeFrame where
  notice : Notice
  count : Nat
  deriving DecidableEq, Repr

/-- A notice latch (R178). -/
structure Latch where
  pending : Bool
  count : Nat
  detail : Option Notice
  deriving DecidableEq, Repr

/-- R180. -/
def Latch.afterReset : Latch := { pending := false, count := 0, detail := none }

/-- A slot whose owner may change the frame in it: the frame, and the amendment held beside it while an attempt
carrying the frame is in flight (R175). -/
structure Slot (α : Type) where
  frame : Option α
  amend : Option α
  deriving DecidableEq, Repr

/-- An empty slot with no amendment. -/
def Slot.empty {α : Type} : Slot α := { frame := none, amend := none }

/-- The fifteen transmit slots (R173). HELLO's content is formed at the attempt (R160), so its slot is only empty
or held. -/
structure Slots where
  touch : Option TouchFrame
  objects : Vector (Slot ObjectFrame) 3
  hello : Bool
  release : Slot ZoneSet
  claim : Option ZoneSet
  companions : Vector (Slot CompanionFrame) 2
  point : Option PointFrame
  replies : Vector (Option ReplyFrame) 2
  temp : Slot Figure
  status : Option StatusFrame
  notice : Option NoticeFrame
  deriving DecidableEq, Repr

/-- R180. -/
def Slots.empty : Slots :=
  { touch := none, objects := Vector.replicate 3 Slot.empty, hello := false, release := Slot.empty,
    claim := none, companions := Vector.replicate 2 Slot.empty, point := none,
    replies := Vector.replicate 2 none, temp := Slot.empty, status := none, notice := none }

/-- The slots by name (R173). -/
inductive SlotId where
  | touch
  | object (i : Fin 3)
  | hello
  | release
  | claim
  | companion (i : Fin 2)
  | point
  | reply (i : Fin 2)
  | temp
  | status
  | notice
  deriving DecidableEq, Repr

/-! ### The gauge line (spec/08) -/

/-- The line states, LISTEN in its two phases (R160). -/
inductive LineState where
  | listenIntegrating
  | listenAnnouncing
  | idle
  | receiving
  | arbitrating
  | sending
  | mute
  | offline
  deriving DecidableEq, Repr

/-- The attempt in flight (R154): the slot, the kind and the payload bytes fixed at its start of frame, its
timestamp, the unwrapped tick at which the last bit of its tag ends, and a withdrawal held until the tag ends (R155). -/
structure Attempt where
  slot : SlotId
  kind : Nat
  payload : List Byte
  sof : Tick
  tagSent : Nat
  withdrawn : Bool
  deriving DecidableEq, Repr

/-- The line controller (spec/08). `idleAt` is the moment from which the line is idle, were every bit up to it recessive,
and `none` while a frame is followed (R151); `quiet` is the quiet count at the last bit that a command told of; `acked` the
level driven in the acknowledge slot of the last frame followed (R156). -/
structure Line where
  number : Nat
  fast : Bool
  state : LineState
  strapFault : Bool
  failures : Nat
  mutes : Nat
  muteStart : Option Nat
  muteTimer : Option Nat
  quiet : Nat
  lastSof : Tick
  idleAt : Option Nat
  attempt : Option Attempt
  acked : Bool
  deriving DecidableEq, Repr

/-- R148: 0 and 31 are no valid station number. -/
def Straps.fault (x : Straps) : Bool := x.number == 0 || x.number == 31

/-- R182: 5, 6 and 7 are read as 4. -/
def Straps.count (x : Straps) : Nat := min x.axes.toNat 4

/-- R166. The line is idle once 11 bits have been read recessive (R151). -/
def Line.afterReset (x : Straps) : Line :=
  { number := x.number.toNat, fast := x.fast,
    state := if Straps.fault x then .offline else .listenIntegrating, strapFault := Straps.fault x,
    failures := 0, mutes := 0, muteStart := none, muteTimer := none, quiet := 0, lastSof := 0,
    idleAt := some (if x.fast then 107 else 214), attempt := none, acked := false }

/-! ### Station control (spec/10) -/

/-- Station mode (R181). -/
inductive Mode where
  | setup
  | run
  | offline
  deriving DecidableEq, Repr

/-- Station control (spec/10). `none` stands for 255. -/
structure Station where
  mode : Mode
  controller : Nat
  permitTime : Nat
  accel : Nat
  stopDecel : Nat
  probeCap : Nat
  halfWidth : Int
  freeReach : Int
  rackZone : Option (Fin 16)
  companion : Nat
  serveSet : BitVec 32
  serveAxis : Option (Fin 4)
  restartPending : Bool
  deriving DecidableEq, Repr

/-- R184. -/
def Station.afterReset (strapFault : Bool) : Station :=
  { mode := if strapFault then .offline else .setup, controller := 0, permitTime := 0, accel := 1,
    stopDecel := 1, probeCap := 0, halfWidth := 0, freeReach := 0, rackZone := none, companion := 0,
    serveSet := 0, serveAxis := none, restartPending := false }

/-! ### Input pins -/

/-- Inputs of one axis channel (spec/00, Pins). -/
structure ChannelPins where
  phaseA : Bool
  phaseB : Bool
  atMin : Bool
  atMax : Bool
  deriving DecidableEq, Repr

/-- Inputs of one rack port (spec/00, Pins). -/
structure PortPins where
  openIn : Bool
  closedIn : Bool
  present : Bool
  deriving DecidableEq, Repr

/-- The levels of the local inputs (spec/00, Pins). -/
structure Pins where
  channels : Vector ChannelPins 4
  ports : Vector PortPins 8
  driveEnable : Bool
  deflected : Bool
  locked : Bool
  unlocked : Bool
  deriving DecidableEq, Repr

/-- DESIGN CHOICE (log entry 6): the inputs at `State.reset`. Drive-enable is high, every other input inactive, the
trigger SEATED. -/
def Pins.atReset : Pins :=
  { channels := Vector.replicate 4 { phaseA := false, phaseB := false, atMin := false, atMax := false },
    ports := Vector.replicate 8 { openIn := false, closedIn := false, present := false },
    driveEnable := true, deflected := false, locked := false, unlocked := false }

/-- DESIGN CHOICE (log entry 6): the straps at `State.reset`: station 3, three axes, 1 Mbit/s. -/
def strapsAtReset : Straps := { number := 3, fast := true, axes := 3 }

/-! ### The whole machine -/

/-- The state of one 3140. `uptime` is the tick counter of R1 without its wrap (log entry 1), `freeIx` numbers the
free values (log entry 9), `axisCount` is the strapped axis count (R182), `latch` the capture latch (R15), `gate` the
stored part of the motion state (R57), and `pending` the commands that wait, the front one first. -/
structure State where
  uptime : Nat
  freeIx : Nat
  inReset : Bool
  pins : Pins
  axisCount : Nat
  axes : Vector Axis 4
  latch : Option Capture
  faultPending : Bool
  gate : Gate
  thermal : Thermal
  motion : Sequencer
  zones : ZoneUnit
  capture : CaptureUnit
  probes : ProbeUnit
  line : Line
  slots : Slots
  notices : Vector Latch 9
  overrun : Bool
  overrunSince : Bool
  station : Station
  pending : List Instr
  deriving DecidableEq, Repr

/-- The machine right after a full reset from power-on has ended (R183), with the straps and input levels of log
entry 6. -/
def State.reset : State :=
  { uptime := 0
    freeIx := 0
    inReset := false
    pins := Pins.atReset
    axisCount := Straps.count strapsAtReset
    axes := Vector.replicate 4 Axis.afterReset
    latch := none
    faultPending := false
    gate := .normal
    thermal := Thermal.afterReset
    motion := Sequencer.afterReset
    zones := ZoneUnit.afterReset
    capture := { reseat := .spent, reseatTimer := some Config.reseatTicks, points := [], counter := 0, requests := [] }
    probes := ProbeUnit.afterReset false
    line := Line.afterReset strapsAtReset
    slots := Slots.empty
    notices := Vector.replicate 9 Latch.afterReset
    overrun := false
    overrunSince := false
    station := Station.afterReset (Straps.fault strapsAtReset)
    pending := [] }

end Sys2Proof.Machine
end

