-- ==== Sys2Proof/Machine/Num.lean ====
section
/-! DEFINITION. Arithmetic, byte order and table helpers that every block uses: the rounding of R2, the tick
comparison of R1, big-endian fields (spec/09, The frame), zone sets, and tables built entry by entry. -/

namespace Sys2Proof.Machine

/-! ### Numbers -/

/-- Round half away from zero (R2): the magnitude of the quotient is floor((|x| + D/2) / D). -/
def roundDiv (x : Int) (d : Nat) : Int :=
  let q : Nat := (2 * x.natAbs + d) / (2 * d)
  if x < 0 then -(q : Int) else q

/-- One binary digit at a time, from bit `k` downward: the largest r below 2^(k+1) added to `r` with square at
most `n`. -/
def isqrtFrom (n : Nat) : Nat → Nat → Nat
  | 0, r => if (r + 1) * (r + 1) ≤ n then r + 1 else r
  | k + 1, r => isqrtFrom n k (if (r + 2 ^ (k + 1)) * (r + 2 ^ (k + 1)) ≤ n then r + 2 ^ (k + 1) else r)

/-- Integer square root, rounded down (R2). -/
def isqrt (n : Nat) : Nat := isqrtFrom n (Nat.log2 n / 2) 0

/-- Quotient rounded up (R70). -/
def ceilDiv (n d : Nat) : Nat := (n + d - 1) / d

/-- `x` brought into `lo` to `hi`. -/
def clampInt (lo hi x : Int) : Int := max lo (min hi x)

/-- The signed 32-bit range of positions (spec/00_scope.md, Units). -/
def inInt32 (x : Int) : Bool := decide (-2147483648 ≤ x) && decide (x ≤ 2147483647)

/-- A value clamped to a magnitude, with whether the clamp acted (R46, R47, R48). -/
def clampMag (m x : Int) : Int × Bool :=
  if x > m then (m, true) else if x < -m then (-m, true) else (x, false)

/-! ### Ticks (R1) -/

/-- `a` is later than `b`: their difference modulo 2^32 is 1 to 2^31 − 1. -/
def Tick.later (a b : Tick) : Bool :=
  let d := (a - b).toNat
  decide (1 ≤ d) && decide (d < 2147483648)

/-- `a` is earlier than `b`: their difference modulo 2^32 is 2^31 or above. -/
def Tick.earlier (a b : Tick) : Bool := decide (2147483648 ≤ (a - b).toNat)

/-! ### Bytes, most significant first -/

/-- Byte `i` of a payload; 0 where the payload is too short (the callers check the length first). -/
def byteAt (p : List Byte) (i : Nat) : Nat := (p.getD i 0).toNat

/-- Two bytes, unsigned. -/
def u16At (p : List Byte) (i : Nat) : Nat := byteAt p i * 256 + byteAt p (i + 1)

/-- Three bytes, unsigned. -/
def u24At (p : List Byte) (i : Nat) : Nat := u16At p i * 256 + byteAt p (i + 2)

/-- Four bytes, unsigned. -/
def u32At (p : List Byte) (i : Nat) : Nat := u16At p i * 65536 + u16At p (i + 2)

/-- Two bytes, two's complement. -/
def s16At (p : List Byte) (i : Nat) : Int := (BitVec.ofNat 16 (u16At p i)).toInt

/-- Four bytes, two's complement. -/
def s32At (p : List Byte) (i : Nat) : Int := (BitVec.ofNat 32 (u32At p i)).toInt

/-- One byte. -/
def put8 (n : Nat) : List Byte := [BitVec.ofNat 8 n]

/-- Two bytes. -/
def put16 (n : Nat) : List Byte := [BitVec.ofNat 8 (n / 256), BitVec.ofNat 8 n]

/-- Three bytes. -/
def put24 (n : Nat) : List Byte := BitVec.ofNat 8 (n / 65536) :: put16 n

/-- Four bytes. -/
def put32 (n : Nat) : List Byte := put16 (n / 65536) ++ put16 n

/-- Four bytes, two's complement. -/
def putS32 (x : Int) : List Byte := put32 (BitVec.ofInt 32 x).toNat

/-- One byte, 1 for true. -/
def putBool (b : Bool) : List Byte := put8 (if b then 1 else 0)

/-! ### Tables built entry by entry -/

/-- A table of four. -/
def tab4 {α : Type} (f : Fin 4 → α) : Vector α 4 := #v[f 0, f 1, f 2, f 3]

/-- A table of eight. -/
def tab8 {α : Type} (f : Fin 8 → α) : Vector α 8 := #v[f 0, f 1, f 2, f 3, f 4, f 5, f 6, f 7]

/-- A table of fifteen. -/
def tab15 {α : Type} (f : Fin 15 → α) : Vector α 15 :=
  #v[f 0, f 1, f 2, f 3, f 4, f 5, f 6, f 7, f 8, f 9, f 10, f 11, f 12, f 13, f 14]

/-- A table of sixteen. -/
def tab16 {α : Type} (f : Fin 16 → α) : Vector α 16 :=
  #v[f 0, f 1, f 2, f 3, f 4, f 5, f 6, f 7, f 8, f 9, f 10, f 11, f 12, f 13, f 14, f 15]

/-- The four channels, in order. -/
def axisIds : List (Fin 4) := [0, 1, 2, 3]

/-- The eight ports, in order. -/
def portIds : List (Fin 8) := [0, 1, 2, 3, 4, 5, 6, 7]

/-- The fifteen boundaries, in order. -/
def boundaryIds : List (Fin 15) := [0, 1, 2, 3, 4, 5, 6, 7, 8, 9, 10, 11, 12, 13, 14]

/-- Zones, sensor channels or probe records, in order. -/
def ids16 : List (Fin 16) := [0, 1, 2, 3, 4, 5, 6, 7, 8, 9, 10, 11, 12, 13, 14, 15]

/-- The index `n` where the table has it. -/
def finOf (k n : Nat) : Option (Fin k) := if h : n < k then some ⟨n, h⟩ else none

/-! ### Zone sets -/

/-- The set of the zones that `p` holds of. -/
def zoneSet (p : Fin 16 → Bool) : ZoneSet := BitVec.ofFnLE p

/-- Zone `z` is in the set. -/
def ZoneSet.has (x : ZoneSet) (z : Fin 16) : Bool := x.getLsbD z.val

/-- Every zone of `x` is in `y`. -/
def ZoneSet.within (x y : ZoneSet) : Bool := x &&& ~~~y == 0

end Sys2Proof.Machine
end

