-- ==== Sys2Proof/Machine/Ops.lean ====
section
/-! DEFINITION. The operations every block shares: the passing of time, what is computed from the pins and the
stored state (amplifier enable, motion state, lid and lock states), notice latches, slots and their amendments. -/

namespace Sys2Proof.Machine

/-! ### Time -/

/-- The tick counter: the low 32 bits of the unwrapped count (R1, log entry 1). -/
def State.tick (s : State) : Tick := BitVec.ofNat 32 s.uptime

/-- The moment of a tick not after the present one (R1). -/
def State.momentOf (s : State) (t : Tick) : Nat := s.uptime - (s.tick - t).toNat

/-- How many ticks ago the tick `t` was, modulo 2^32 (R1). -/
def State.ago (s : State) (t : Tick) : Nat := (s.tick - t).toNat

/-- A timer is due: it runs and its deadline has been reached. -/
def State.due (s : State) (timer : Option Nat) : Bool :=
  match timer with
  | some d => decide (d ≤ s.uptime)
  | none => false

/-- The line controller's own progress with time: the tag of an attempt is won once the time of its bits is over with none of
them lost (R154; a loss at its last bit has the tick of that bit's end), and a joined station is IDLE once the line is idle
(R151, R156). Log entry 23. -/
def Line.progress (now : Nat) (l : Line) : Line :=
  match l.attempt, l.idleAt with
  | some a, _ => if l.state = .arbitrating ∧ a.tagSent < now then { l with state := .sending } else l
  | none, some d => if d ≤ now ∧ (l.state = .receiving ∨ l.state = .sending) then { l with state := .idle } else l
  | none, none => l

/-- Time passes up to the tick `t` at which a command is taken (log entry 1). Each command has a number of its own
for the free values (log entry 9). -/
def advance (t : Tick) (s : State) : State :=
  let now := s.uptime + (t - s.tick).toNat
  { s with uptime := now, freeIx := s.freeIx + 1, line := s.line.progress now }

/-- An exact count as a signed 32-bit count: itself in range, a free value outside (log entry 9). -/
def fit32 (n : Nat) (x : Int) : Int := if inInt32 x then x else (Config.outOfRange n x).toInt

/-! ### What is computed from pins and stored state -/

/-- A channel is live when it is strapped (R4). -/
def State.live (s : State) (i : Fin 4) : Bool := decide (i.val < s.axisCount)

/-- The live channels, in order. -/
def State.liveAxes (s : State) : List (Fin 4) := axisIds.filter s.live

/-- The live channel that byte `n` of a frame names (R4). -/
def State.liveAxis? (s : State) (n : Nat) : Option (Fin 4) :=
  match finOf 4 n with
  | some i => if s.live i then some i else none
  | none => none

/-- Axis `i`. -/
def State.axis (s : State) (i : Fin 4) : Axis := s.axes.get i

/-- The channels changed one by one. -/
def State.mapAxes (f : Fin 4 → Axis → Axis) (s : State) : State :=
  { s with axes := tab4 fun i => f i (s.axes.get i) }

/-- One channel changed. -/
def State.setAxis (i : Fin 4) (a : Axis) (s : State) : State := { s with axes := s.axes.set i.val a }

/-- End state of a channel (R10). -/
def endState (s : State) (i : Fin 4) : EndState :=
  match (s.pins.channels.get i).atMin, (s.pins.channels.get i).atMax with
  | false, false => .none
  | true, false => .atMin
  | false, true => .atMax
  | true, true => .atBoth

/-- The amplifier enables of the live channels (R12); off while a reset lasts (R183). -/
def ampOn (s : State) : Bool :=
  !s.inReset && s.station.mode == .run && s.pins.driveEnable && s.gate == .normal && s.line.state != .offline

/-- The motion state (R57). -/
def motionState (s : State) : Motion :=
  match s.gate with
  | .disabled => .disabled
  | .faulted => .faulted
  | .normal =>
    if s.station.mode = .run ∧ s.motion.permit = .lapsed then .held
    else match s.motion.queue with
      | [] => .idle
      | seg :: _ => if seg.state = .moving ∨ seg.state = .stopping then .moving else .waiting

/-- The lock state of the head (R129). -/
def lockState (s : State) : LockState :=
  match s.pins.locked, s.pins.unlocked with
  | true, false => .locked
  | false, true => .unlocked
  | _, _ => .moving

/-- The lid state of a port (R131). -/
def lidState (s : State) (p : Fin 8) : LidState :=
  let pins := s.pins.ports.get p
  if (s.probes.ports.get p).lidOpen then (if pins.openIn then .opened else .opening)
  else (if pins.closedIn then .closed else .closing)

/-- The presence of a port is PRESENT (R130). -/
def present (s : State) (p : Fin 8) : Bool := (s.pins.ports.get p).present

/-- The line controller is joined: IDLE, RECEIVING, ARBITRATING or SENDING (R173). -/
def LineState.joined (l : LineState) : Bool :=
  match l with
  | .idle | .receiving | .arbitrating | .sending => true
  | _ => false

/-- The line can carry the part's frames: it is neither MUTE nor LISTEN nor OFFLINE. -/
def joined (s : State) : Bool := s.line.state.joined

/-- Ticks of one bit (R149). -/
def bitTicks (s : State) : Nat := if s.line.fast then 10 else 20

/-- Ticks from the reading of a bit to its end: a bit is read at 7 tenths of its time (R149). -/
def readLead (s : State) : Nat := if s.line.fast then 3 else 6

/-- The channel whose record holds role ZONE AXIS (R5: at most one). -/
def zoneAxis? (s : State) : Option (Fin 4) := s.liveAxes.find? fun i => (s.axis i).record.role == .zoneAxis

/-- The channel whose record holds role REACH AXIS (R5: at most one). -/
def reachAxis? (s : State) : Option (Fin 4) := s.liveAxes.find? fun i => (s.axis i).record.role == .reachAxis

/-- The probe record located ON HEAD, with its index (R126: at most one). -/
def onHead? (s : State) : Option (Fin 16 × ProbeRecord) :=
  (ids16.map fun i => (i, s.probes.table.get i)).find? fun r => r.2.location == .onHead

/-! ### Notice latches (R178) -/

/-- The latch of a notice: the kind number less 1 (spec/09, Coded fields). -/
def Notice.latchIx (n : Notice) : Fin 9 :=
  match n with
  | .driveChange _ => 0
  | .motionFault _ _ => 1
  | .collision _ _ _ => 2
  | .zoneConflict _ _ _ => 3
  | .probeChangeEnd _ _ => 4
  | .permitLapsed _ => 5
  | .segmentEnd _ _ _ => 6
  | .thermal _ _ => 7
  | .lineRejoined _ _ => 8

/-- One event on its latch (R178). -/
def Latch.event (n : Notice) (l : Latch) : Latch :=
  if l.pending then { pending := true, count := min 255 (l.count + 1), detail := some n }
  else { pending := true, count := 1, detail := some n }

/-- An event is latched (R178). -/
def latchNotice (n : Notice) (s : State) : State :=
  { s with notices := s.notices.set n.latchIx.val ((s.notices.get n.latchIx).event n) }

/-! ### Slots and amendments (R174, R175) -/

/-- An attempt carrying the frame of this slot is in flight (R154). -/
def inFlight (s : State) (id : SlotId) : Bool :=
  match s.line.attempt with
  | some a => a.slot == id
  | none => false

/-- The withdrawal of a frame whose attempt is in flight is held while its tag is being sent; past a tag that is won it has no
effect (R155). -/
def holdWithdrawal (s : State) : State :=
  { s with line := { s.line with
      attempt := s.line.attempt.map fun a => { a with withdrawn := a.withdrawn || decide (s.uptime ≤ a.tagSent) } } }

/-- The owner places or changes a frame: an empty slot takes it, a waiting frame is changed at once, and the change of a
frame in flight is held beside it (R175). -/
def Slot.put {α : Type} (flying : Bool) (merge : α → α → α) (x : α) (sl : Slot α) : Slot α :=
  match sl.frame with
  | none => { frame := some x, amend := none }
  | some y =>
    if flying then
      { sl with amend := some (match sl.amend with
          | none => x
          | some a => merge a x) }
    else { sl with frame := some (merge y x) }

/-- The attempt was lost or failed: the amendment is applied to the frame (R175). -/
def Slot.afterLoss {α : Type} (merge : α → α → α) (sl : Slot α) : Slot α :=
  match sl.frame, sl.amend with
  | some y, some a => { frame := some (merge y a), amend := none }
  | f, _ => { frame := f, amend := none }

/-- The attempt succeeded: the amendment becomes a frame of its own (R175). -/
def Slot.afterSuccess {α : Type} (sl : Slot α) : Slot α := { frame := sl.amend, amend := none }

/-- A later value replaces an earlier one (TEMP and COMPANION amendments). -/
def takeLater {α : Type} (_ y : α) : α := y

/-- Zones are united (RELEASE amendments). -/
def uniteZones (x y : ZoneSet) : ZoneSet := x ||| y

/-- Zones are united against the same claimant (OBJECT amendments). -/
def uniteObject (x y : ObjectFrame) : ObjectFrame := { x with zones := x.zones ||| y.zones }

/-- A REPLY is placed in the lowest-numbered empty reply slot (R169); the interpreter has found one. -/
def placeReply (r : ReplyFrame) (s : State) : State :=
  if (s.slots.replies.get 0).isNone then
    { s with slots := { s.slots with replies := s.slots.replies.set 0 (some r) } }
  else { s with slots := { s.slots with replies := s.slots.replies.set 1 (some r) } }

/-- Both reply slots hold a frame (R169). -/
def repliesHeld (s : State) : Bool := (s.slots.replies.get 0).isSome && (s.slots.replies.get 1).isSome

/-- A command or QUERY is turned away for want of a slot (R172). -/
def setOverrun (s : State) : State := { s with overrun := true, overrunSince := true }

end Sys2Proof.Machine
end

