-- ==== Sys2Proof/Machine/Thermal.lean ====
section
/-! DEFINITION. The temperature unit: the filter and states of a sensor channel, the figures, the round of the
chain and publishing (spec/02). -/

namespace Sys2Proof.Machine

/-- The value of a figure that is not available (spec/02): the reference temperature. -/
def absentFigure : Figure := { value := 20000, quality := .absent }

/-- The sample of a good read; a value outside −10,000 to 60,000 is a failure (R24). -/
def goodSample (read : SensorRead) : Option Int :=
  match read with
  | .failed => none
  | .value v => if -10000 ≤ v ∧ v ≤ 60000 then some v else none

/-- One filter step: the difference shifted right by `f` places, toward minus infinity, is added (R25). -/
def filterStep (f : Nat) (average sample : Int) : Int := average + (sample - average) / (2 ^ f : Nat)

/-- The sample is within 1,500 mK of the average (R28, R29). -/
def nearAverage (average sample : Int) : Bool := decide ((sample - average).natAbs ≤ 1500)

/-- A read that was not accepted in SETTLING or HELD: the held age rises, and above 5 the channel becomes FAULTED
(R30). Answers the record and whether THERMAL is latched. -/
def notAccepted (ch : Channel) : Channel × Bool :=
  let age := min 255 (ch.heldAge + 1)
  if age > 5 then ({ ch with state := .faulted, heldAge := age, rejects := 0, settle := 0 }, true)
  else ({ ch with heldAge := age }, false)

/-- A good read applied to a channel record (R27 to R31), the last-sample field written first (R24). -/
def applyGood (f : Nat) (v : Int) (ch0 : Channel) : Channel × Bool :=
  let ch := { ch0 with last := v }
  match ch.state with
  | .unused => (ch0, false)
  | .settling =>
    let average := if ch.settle = 0 then v else filterStep f ch.average v
    if ch.settle + 1 ≥ 4 then
      ({ ch with state := .valid, average := average, settle := 0, rejects := 0, heldAge := 0 }, false)
    else ({ ch with average := average, settle := ch.settle + 1, heldAge := 0 }, false)
  | .valid =>
    if nearAverage ch.average v then
      ({ ch with average := filterStep f ch.average v, rejects := 0, heldAge := 0 }, false)
    else ({ ch with state := .held, rejects := 1, heldAge := 1 }, false)
  | .held =>
    if nearAverage ch.average v then
      ({ ch with state := .valid, average := filterStep f ch.average v, rejects := 0, heldAge := 0 }, false)
    else if ch.rejects ≥ 3 then
      ({ ch with state := .valid, average := v, rejects := 0, heldAge := 0 }, false)
    else notAccepted { ch with rejects := ch.rejects + 1 }
  | .faulted => ({ ch with state := .settling, average := v, settle := 1, heldAge := 0 }, true)

/-- A failed read applied to a channel record (R27 to R31). -/
def applyFailed (ch : Channel) : Channel × Bool :=
  match ch.state with
  | .unused => (ch, false)
  | .settling => notAccepted ch
  | .valid => ({ ch with state := .held, heldAge := 1, rejects := 0 }, false)
  | .held => notAccepted ch
  | .faulted => ({ ch with heldAge := min 255 (ch.heldAge + 1) }, false)

/-- The outcome of a read applied to a channel record, with whether THERMAL is latched with the new state. -/
def applyRead (f : Nat) (read : SensorRead) (ch : Channel) : Channel × Bool :=
  match goodSample read with
  | some v => applyGood f v ch
  | none => applyFailed ch

/-! ### Figures -/

/-- The figure a single channel gives as a scale channel (R32). -/
def channelFigure (ch : Channel) : Figure :=
  match ch.state with
  | .valid => { value := ch.average, quality := .fresh }
  | .held => { value := ch.average, quality := .stale }
  | _ => absentFigure

/-- The scale figure of an axis (R32). -/
def scaleFigure (s : State) (i : Fin 4) : Figure :=
  match (s.axis i).comp.scaleChannel with
  | some c => channelFigure (s.thermal.channels.get c)
  | none => absentFigure

/-- The listed channels of a LOCAL source. -/
def listedChannels (t : Thermal) : List Channel := t.entries.toList.filterMap fun e => e.map t.channels.get

/-- A channel contributes to the workpiece figure when it is VALID or HELD (R33). -/
def contributes (ch : Channel) : Bool := ch.state == .valid || ch.state == .held

/-- The workpiece figure of a LOCAL source (R33). -/
def localFigure (t : Thermal) : Figure :=
  let listed := listedChannels t
  let used := listed.filter contributes
  if used = [] then absentFigure
  else
    { value := roundDiv ((used.map Channel.average).sum) used.length
      quality := if listed.all (fun ch => ch.state == .valid) then .fresh else .stale }

/-- The workpiece figure of a PEER source (R36). A recency timer that has expired has no deadline. -/
def peerFigure (p : Peer) : Figure :=
  match p.standing with
  | .neverHeard | .gone => absentFigure
  | .heard =>
    match p.quality with
    | .absent => absentFigure
    | .stale => { value := p.figure, quality := .stale }
    | .fresh => { value := p.figure, quality := if p.timer.isSome then .fresh else .stale }

/-- The workpiece figure of the station (R33, R36). -/
def workFigure (s : State) : Figure :=
  match s.thermal.source with
  | .localChannels => localFigure s.thermal
  | .peer => peerFigure s.thermal.peer

/-! ### The chain -/

/-- The end of a round: a publishing station queues its TEMP, or replaces the waiting one (R38). -/
def roundEnd (s : State) : State :=
  if s.thermal.publish && joined s then
    { s with slots := { s.slots with
        temp := s.slots.temp.put (inFlight s .temp) takeLater (localFigure s.thermal) } }
  else s

/-- The outcome of the read of the slot that ends (R23, R24). -/
def applySlot (read : SensorRead) (s : State) : State :=
  if s.thermal.reading then
    let c := s.thermal.slot
    let r := applyRead s.thermal.shift read (s.thermal.channels.get c)
    let s1 := { s with thermal := { s.thermal with channels := s.thermal.channels.set c.val r.1 } }
    if r.2 then latchNotice (.thermal c r.1.state) s1 else s1
  else s

/-- The slot ends: its read is applied, the round ends with slot 15, and the next slot begins, with a read if its
channel is enabled (R23). -/
def endSlot (read : SensorRead) (s : State) : State :=
  let c := s.thermal.slot
  let s1 := applySlot read s
  let s2 := if c = 15 then roundEnd s1 else s1
  let next : Fin 16 := c + 1
  { s2 with thermal := { s2.thermal with slot := next, reading := s2.thermal.mask.getLsbD next.val } }

/-- A new enable mask and filter shift applied to the channel records (R26). -/
def applyMask (mask : BitVec 16) (shift : Nat) (t : Thermal) : Thermal :=
  { t with
    mask := mask
    shift := min shift 6
    channels := tab16 fun c =>
      if mask.getLsbD c.val then
        (if t.mask.getLsbD c.val then t.channels.get c else { Channel.afterReset with state := .settling })
      else Channel.afterReset
    reading := t.reading && mask.getLsbD t.slot.val }

end Sys2Proof.Machine
end

