-- ==== Sys2Proof/Machine/Compensation.lean ====
section
/-! DEFINITION. The compensation engine: the forward correction of a raw count and the inverse correction of a
target (spec/03). -/

namespace Sys2Proof.Machine

/-- Map node `j` of an axis. -/
def mapNode (c : CompRecord) (j : Nat) : Int := c.nodes[j]?.getD 0

/-- The map error at a raw count, with whether the count lies outside the map (R44, R45). -/
def mapError (c : CompRecord) (x : Int) : Int × Bool :=
  let d := x - c.origin
  if d < 0 then (mapNode c 0, true)
  else
    let i := d.toNat / 2 ^ c.shift
    if 64 ≤ i then (mapNode c 64, true)
    else
      let f : Int := d - (i * 2 ^ c.shift : Nat)
      (mapNode c i + roundDiv ((mapNode c (i + 1) - mapNode c i) * f) (2 ^ c.shift), false)

/-- A thermal term: the exact product divided once by 10^12, clamped to ±1,000,000 (R46, R47). -/
def thermalTerm (length coefficient temperature : Int) : Int × Bool :=
  clampMag 1000000 (roundDiv (length * coefficient * (temperature - 20000)) 1000000000000)

/-- The tip component of the on-head probe that the axis selects, 0 where there is none (R48, R52). -/
def tipOf (s : State) (c : CompRecord) : Int :=
  match c.tip, onHead? s with
  | some k, some (_, r) => r.tip.get k
  | _, _ => 0

/-- What a forward correction returns (R43). -/
structure Correction where
  value : Int
  mapOutside : Bool
  clamped : Bool
  stale : Bool
  absent : Bool
  deriving DecidableEq, Repr

/-- The figures a correction of a LINEAR axis uses (R49). -/
def figuresUsed (s : State) (i : Fin 4) : List Figure :=
  (if (s.axis i).comp.alpha = 0 then [] else [scaleFigure s i]) ++
    (if s.thermal.alphaW = 0 then [] else [workFigure s])

/-- The forward correction of raw count `x` on axis `i`, with the tip or with the tip left out (R43 to R50). -/
def forward (s : State) (i : Fin 4) (x : Int) (withTip : Bool) : Correction :=
  let c := (s.axis i).comp
  let e := mapError c x
  let p1 := x + e.1
  match (s.axis i).record.kind with
  | .angular =>
    let v := clampMag 2000000000 p1
    { value := v.1, mapOutside := e.2, clamped := v.2, stale := false, absent := false }
  | .linear =>
    let sc := thermalTerm p1 c.alpha (scaleFigure s i).value
    let w := thermalTerm (p1 + sc.1 - c.datum) s.thermal.alphaW (workFigure s).value
    let p2 := p1 + sc.1 - w.1
    let v := clampMag 2000000000 (p2 + if withTip then tipOf s c else 0)
    let used := figuresUsed s i
    let absent := used.any fun f => f.quality == .absent
    { value := v.1, mapOutside := e.2, clamped := sc.2 || w.2 || v.2,
      stale := !absent && used.any fun f => f.quality == .stale, absent := absent }

/-- The inverse correction of target `t` on axis `i`: the raw target, not clamped (R52, R53). -/
def inverse (s : State) (i : Fin 4) (t : Int) : Int :=
  let c := (s.axis i).comp
  match (s.axis i).record.kind with
  | .angular => t - (mapError c t).1
  | .linear =>
    let q := t - tipOf s c
    let e := (mapError c q).1
    let p1 := q + e
    let sc := (thermalTerm p1 c.alpha (scaleFigure s i).value).1
    let w := (thermalTerm (p1 + sc - c.datum) s.thermal.alphaW (workFigure s).value).1
    q - (e + sc - w)

end Sys2Proof.Machine
end

