-- ==== Sys2Proof/Machine/Flags.lean ====
section
/-! DEFINITION. The flags of a point record and the code numbers of spec/09 and spec/10, as they stand in frames
and STATUS content. -/

namespace Sys2Proof.Machine

/-- No flag set. -/
def PointFlags.none : PointFlags :=
  { clamped := false, mapOutside := false, thermalStale := false, thermalAbsent := false, unqualified := false,
    companionPresent := false, companionMissing := false, decelerating := false }

/-- The flags byte of a POINT: CLAMPED in bit 7 down to DECELERATING in bit 0 (spec/09, The frame). -/
def PointFlags.code (f : PointFlags) : Nat :=
  f.clamped.toNat * 128 + f.mapOutside.toNat * 64 + f.thermalStale.toNat * 32 + f.thermalAbsent.toNat * 16 +
    f.unqualified.toNat * 8 + f.companionPresent.toNat * 4 + f.companionMissing.toNat * 2 + f.decelerating.toNat

def ReplyCode.code : ReplyCode → Nat
  | .accepted => 0 | .done => 1 | .wrongState => 2 | .badValue => 3 | .outOfRange => 4
  | .notReferenced => 5 | .busy => 6 | .queueFull => 7 | .notController => 8

def SegKind.code : SegKind → Nat
  | .position => 0 | .probe => 1 | .reference => 2 | .rackTravel => 3 | .rackInsert => 4

def SegOutcome.code : SegOutcome → Nat
  | .arrived => 0 | .unsettled => 1 | .touched => 2 | .missed => 3 | .halted => 4 | .lapsed => 5
  | .collision => 6 | .conflict => 7 | .motionFault => 8 | .drivesOff => 9

def FaultCause.code : FaultCause → Nat
  | .encoder => 0 | .overrange => 1 | .endMin => 2 | .endMax => 3 | .following => 4 | .notFound => 5

def ChangeOutcome.code : ChangeOutcome → Nat
  | .done => 0 | .failed => 1 | .aborted => 2

def ChangeCause.code : ChangeCause → Nat
  | .none => 0 | .collision => 1 | .lidFault => 2 | .lockFault => 3 | .dropFault => 4 | .presenceFault => 5
  | .pickFault => 6 | .wrongProbe => 7 | .settleFault => 8 | .conflict => 9 | .motionFault => 10
  | .drivesOff => 11 | .halted => 12 | .mute => 13 | .lapsed => 14

def ChannelState.code : ChannelState → Nat
  | .unused => 0 | .settling => 1 | .valid => 2 | .held => 3 | .faulted => 4

def Quality.code : Quality → Nat
  | .fresh => 0 | .stale => 1 | .absent => 2

def CompanionStatus.code : CompanionStatus → Nat
  | .ok => 0 | .beyondHistory => 1 | .notReferenced => 2

def AxisKind.code : AxisKind → Nat
  | .linear => 0 | .angular => 1

def Role.code : Role → Nat
  | .other => 0 | .zoneAxis => 1 | .reachAxis => 2

def EndState.code : EndState → Nat
  | .none => 0 | .atMin => 1 | .atMax => 2 | .atBoth => 3

def Motion.code : Motion → Nat
  | .idle => 0 | .waiting => 1 | .moving => 2 | .held => 3 | .faulted => 4 | .disabled => 5

def Permit.code : Permit → Nat
  | .none => 0 | .valid => 1 | .lapsed => 2

/-- HELLO mode and STATUS mode; OFFLINE has no code, since an OFFLINE station sends nothing (R165). -/
def Mode.code : Mode → Nat
  | .setup => 0 | .run => 1 | .offline => 0

/-- The line state of R198; OFFLINE has no code, since no QUERY reaches an OFFLINE station (R187). -/
def LineState.code : LineState → Nat
  | .listenIntegrating => 0 | .listenAnnouncing => 1 | .idle => 2 | .receiving => 3 | .arbitrating => 4
  | .sending => 5 | .mute => 6 | .offline => 6

def Location.code : Location → Nat
  | .onHead => 0 | .inPort => 1 | .absent => 2 | .unknown => 3

def LidState.code : LidState → Nat
  | .closed => 0 | .opening => 1 | .opened => 2 | .closing => 3

def LockState.code : LockState → Nat
  | .locked => 0 | .unlocked => 1 | .moving => 2

def PeerStanding.code : PeerStanding → Nat
  | .neverHeard => 0 | .heard => 1 | .gone => 2

def PointState.code : PointState → Nat
  | .awaiting => 0 | .ready => 1 | .offered => 2

/-- The number of a phase, 1 to 13 (spec/07). -/
def Phase.number : Phase → Nat
  | .travelDrop => 1 | .openDrop => 2 | .insert => 3 | .unlock => 4 | .detach => 5 | .closeDrop => 6
  | .travelPick => 7 | .openPick => 8 | .engage => 9 | .lock => 10 | .identify => 11 | .withdraw => 12
  | .closePick => 13

/-- The kind number of a notice (spec/09, Coded fields). -/
def Notice.kindCode (n : Notice) : Nat := n.latchIx.val + 1

/-- The detail bytes of a notice (spec/09, Notice details). -/
def Notice.detail : Notice → List Byte
  | .driveChange high => putBool high
  | .motionFault axis cause => put8 axis.val ++ put8 cause.code
  | .collision segment kind probe => put8 segment.toNat ++ put8 kind.code ++ put8 probe
  | .zoneConflict station zones late => put8 station ++ put16 zones.toNat ++ putBool late
  | .probeChangeEnd target r =>
    put8 target ++ put8 r.outcome.code ++ put8 r.phase ++ put8 r.cause.code ++ put8 r.idRead
  | .permitLapsed hello => putBool hello
  | .segmentEnd number outcome flushed => put8 number.toNat ++ put8 outcome.code ++ put8 flushed
  | .thermal channel state => put8 channel.val ++ put8 state.code
  | .lineRejoined mutes ms => put8 mutes ++ put16 ms

end Sys2Proof.Machine
end

