-- ==== Sys2Proof/Machine/Zones.lean ====
section
/-! DEFINITION. The zone unit: bed geometry, needed sets, the zone view, the own claim record, objections and
releases (spec/05). -/

namespace Sys2Proof.Machine

/-! ### Geometry (R84, R85) -/

/-- The zone of a bed position: the number of boundaries at or below it (R84). -/
def zoneOf (b : Vector Int 15) (x : Int) : Nat := (b.toList.filter fun v => decide (v ≤ x)).length

/-- The zones of the bed positions from `lo` to `hi`, both ends included (R84): the zone of `lo`, and each zone that
begins at a boundary within the interval. Empty zones are never among them. -/
def overlapped (b : Vector Int 15) (lo hi : Int) : ZoneSet :=
  zoneSet fun z =>
    decide (lo ≤ hi) && (decide (zoneOf b lo = z.val) ||
      b.toList.any fun v => decide (lo ≤ v) && decide (v ≤ hi) && decide (zoneOf b v = z.val))

/-- The present demand positions. -/
def demands (s : State) : Vector Int 4 := tab4 fun i => (s.axis i).demand

/-- The bed position for a set of axis positions (R85). -/
def bedPosition (s : State) (pos : Vector Int 4) : Int :=
  match zoneAxis? s, reachAxis? s with
  | some z, _ => pos.get z + (s.axis z).comp.bedOffset
  | none, some r => (s.axis r).comp.bedOffset
  | none, none => 0

/-! ### The view (R88) -/

/-- The station itself is the holder. -/
def heldBySelf (s : State) (h : Option Hold) : Bool :=
  match h with
  | some x => x.holder == s.line.number
  | none => false

/-- The station itself is the holder, FIRM. -/
def firmToSelf (s : State) (h : Option Hold) : Bool :=
  match h with
  | some x => x.holder == s.line.number && x.standing == .firm
  | none => false

/-- Another station is the holder. -/
def heldByOther (s : State) (h : Option Hold) : Bool :=
  match h with
  | some x => x.holder != s.line.number
  | none => false

/-- The zones whose entry satisfies `p`. -/
def viewZones (s : State) (p : Option Hold → Bool) : ZoneSet := zoneSet fun z => p (s.zones.view.get z)

/-- Zones the station holds FIRM in its own view. -/
def firmZones (s : State) : ZoneSet := viewZones s (firmToSelf s)

/-- Zones the station holds in its own view, at either standing. -/
def ownZones (s : State) : ZoneSet := viewZones s (heldBySelf s)

/-- Zones another station holds in the view. -/
def otherZones (s : State) : ZoneSet := viewZones s (heldByOther s)

/-- Zones free in the view. -/
def freeZones (s : State) : ZoneSet := viewZones s Option.isNone

/-- Every entry of the view changed. -/
def mapView (f : Fin 16 → Option Hold → Option Hold) (s : State) : State :=
  { s with zones := { s.zones with view := tab16 fun z => f z (s.zones.view.get z) } }

/-- The age of a hold in whole milliseconds, saturating at 65,535 (R88). -/
def holdAge (s : State) (h : Hold) : Nat := min 65535 ((s.uptime - h.since) / Config.msTicks)

/-! ### Needed sets (R86, R87, R64) -/

/-- An axis, where there is one, is not referenced. -/
def unreferenced (s : State) (i : Option (Fin 4)) : Bool :=
  match i with
  | some a => !(s.axis a).referenced
  | none => false

/-- The stationary needed set at a set of axis positions (R86). -/
def stationarySet (s : State) (pos : Vector Int 4) : ZoneSet :=
  match reachAxis? s with
  | none => 0
  | some r =>
    if unreferenced s (some r) || unreferenced s (zoneAxis? s) then firmZones s
    else if pos.get r ≤ s.station.freeReach then 0
    else
      let p := bedPosition s pos
      overlapped s.zones.boundaries (p - s.station.halfWidth) (p + s.station.halfWidth)

/-- The zone axis stands still from `start` to `stop`, or there is none (R87). -/
def zoneAxisStill (s : State) (start stop : Vector Int 4) : Bool :=
  match zoneAxis? s with
  | none => true
  | some z => decide (start.get z = stop.get z)

/-- The needed set of a segment from `start` to `stop` (R87). -/
def travelSet (s : State) (start stop : Vector Int 4) : ZoneSet :=
  match reachAxis? s with
  | none => 0
  | some r =>
    if zoneAxisStill s start stop && decide (stop.get r ≤ start.get r) then 0
    else if max (start.get r) (stop.get r) ≤ s.station.freeReach then 0
    else
      let a := bedPosition s start
      let b := bedPosition s stop
      overlapped s.zones.boundaries (min a b - s.station.halfWidth) (max a b + s.station.halfWidth)

/-- Where a segment's line ends: the search end of a PROBE segment, otherwise the raw targets (R64, R68). -/
def Segment.lineEnd (seg : Segment) : Vector Int 4 := seg.searchEnd.getD seg.targets

/-- The needed set of a segment that becomes head now (R64). -/
def neededSet (s : State) (seg : Segment) : ZoneSet :=
  match seg.kind with
  | .reference =>
    if reachAxis? s = none ∨ reachAxis? s = some seg.axis then 0 else stationarySet s (demands s)
  | _ => travelSet s (demands s) seg.lineEnd

/-! ### The queue's head -/

/-- The queue replaced. -/
def setQueue (q : List Segment) (s : State) : State := { s with motion := { s.motion with queue := q } }

/-- The head changed. -/
def mapHead (f : Segment → Segment) (s : State) : State :=
  match s.motion.queue with
  | [] => s
  | seg :: rest => setQueue (f seg :: rest) s

/-- A segment that has become head forms its needed set and is WAITING (R64). -/
def formHead (s : State) : State :=
  mapHead (fun seg =>
    if seg.state = .queued then { seg with needed := some (neededSet s seg), state := .waiting } else seg) s

/-- A CLAIMING head returns to WAITING (R67). -/
def unclaimHead (s : State) : State :=
  mapHead (fun seg => if seg.state = .claiming then { seg with state := .waiting } else seg) s

/-! ### Own claim (R89, R90) -/

/-- The own claim record replaced. -/
def setClaim (c : Claim) (s : State) : State := { s with zones := { s.zones with claim := c } }

/-- A QUEUED claim is withdrawn (R90). While its attempt is in flight the withdrawal is held until the tag ends, and past a
won tag it has no effect (R155). -/
def withdrawClaim (s : State) : State :=
  match s.zones.claim with
  | .queued _ _ =>
    if inFlight s .claim then holdWithdrawal s
    else unclaimHead (setClaim .none { s with slots := { s.slots with claim := none } })
  | _ => s

/-- The head ends: a QUEUED claim that was made for it is withdrawn, and one whose frame is in flight outlives it. A claim that
has outlived its own head stays (R90, R155, R157). -/
def headEndsClaim (s : State) : State :=
  match s.zones.claim with
  | .queued zones false => if inFlight s .claim then setClaim (.queued zones true) (holdWithdrawal s) else withdrawClaim s
  | _ => s

/-- The check at the end of every frame taken: a queued claim that another station now holds a zone of is withdrawn
(R90). -/
def overlapCheck (s : State) : State :=
  match s.zones.claim with
  | .queued zones _ => if zones &&& otherZones s = 0 then s else withdrawClaim s
  | _ => s

/-- A claim is made for the free zones of a needed set (R89, R66). -/
def makeClaim (zones : ZoneSet) (s : State) : State :=
  setClaim (.queued zones false) { s with slots := { s.slots with claim := some zones } }

/-- The own claim frame has been sent: its zones become TENTATIVE to the station and the window begins (R91). -/
def claimSent (s : State) : State :=
  match s.zones.claim with
  | .queued zones _ =>
    setClaim (.window zones s.uptime) (mapView (fun z h =>
      if ZoneSet.has zones z && h.isNone then
        some { holder := s.line.number, standing := .tentative, since := s.uptime }
      else h) s)
  | _ => s

/-- A claim in its window fails (R96, R103). -/
def failWindow (s : State) : State :=
  match s.zones.claim with
  | .window _ _ => unclaimHead (setClaim .none s)
  | _ => s

/-- The claim in its window has become firm (R98). -/
def firmClaim (s : State) : State :=
  unclaimHead (setClaim .none (mapView (fun _ h => match h with
    | some x => if x.holder = s.line.number then some { x with standing := .firm } else some x
    | none => none) s))

/-! ### Objections (R92, R93, R95) -/

/-- The three OBJECT slots, in order. -/
def objectIds : List (Fin 3) := [0, 1, 2]

/-- The objection slot to use against a claimant: the one that already names it, else the lowest empty one (R93). -/
def objectSlot (s : State) (claimant : Nat) : Option (Fin 3) :=
  let named := objectIds.find? fun i =>
    match (s.slots.objects.get i).frame with
    | some x => x.claimant == claimant
    | none => false
  match named with
  | some i => some i
  | none => objectIds.find? fun i => (s.slots.objects.get i).frame.isNone

/-- An objection is placed, or ZONE CONFLICT is latched with cause NOT SENT (R93). -/
def placeObjection (claimant : Nat) (zones : ZoneSet) (s : State) : State :=
  if joined s then
    match objectSlot s claimant with
    | some i =>
      let x : ObjectFrame := { claimant := claimant, zones := zones }
      { s with slots := { s.slots with
          objects := s.slots.objects.set i.val
            ((s.slots.objects.get i).put (inFlight s (.object i)) uniteObject x) } }
    | none => latchNotice (.zoneConflict claimant zones false) s
  else latchNotice (.zoneConflict claimant zones false) s

/-- One entry of the view at the end of a claim frame from `c` (R92). -/
def claimedEntry (c : Nat) (now : Nat) (h : Option Hold) : Option Hold :=
  match h with
  | none => some { holder := c, standing := .tentative, since := now }
  | some x => if x.holder = c ∧ x.standing = .tentative then some { x with since := now } else some x

/-- A ZONE CLAIM heard from station `c` for the set `zones` (R92). -/
def hearClaim (c : Nat) (zones : ZoneSet) (s : State) : State :=
  let objected := zones &&& ownZones s
  let s1 := mapView (fun z h => if ZoneSet.has zones z then claimedEntry c s.uptime h else h) s
  if objected = 0 then s1 else placeObjection c objected s1

/-- One entry of the view when an objection of `o` against `c` is applied by a receiver (R95). -/
def objectedEntry (self o c now : Nat) (named : Bool) (h : Option Hold) : Option Hold :=
  let h1 := match h with
    | some x => if x.holder = c ∧ x.standing = .tentative then none else some x
    | none => none
  if named then
    match h1 with
    | some x =>
      if x.holder = self ∧ self ≠ c then some x else some { holder := o, standing := .firm, since := now }
    | none => some { holder := o, standing := .firm, since := now }
  else h1

/-- The zones of `zones` that the station holds FIRM, the zones a late objection takes (R97). -/
def firmAmong (zones : ZoneSet) (s : State) : ZoneSet := zones &&& firmZones s

/-- A ZONE OBJECT heard, applied to the view (R95). -/
def hearObject (o c : Nat) (zones : ZoneSet) (s : State) : State :=
  mapView (fun z h => objectedEntry s.line.number o c s.uptime (ZoneSet.has zones z) h) s

/-- One entry of the view when the station's own objection against `c` has been sent (R94): a zone the station holds
becomes FIRM and keeps its start, any other zone of the set is recorded FIRM to it from now (log entry 17). -/
def ownObjectEntry (self c now : Nat) (named : Bool) (h : Option Hold) : Option Hold :=
  let h1 := match h with
    | some x => if x.holder = c ∧ x.standing = .tentative then none else some x
    | none => none
  if named then
    match h1 with
    | some x =>
      if x.holder = self then some { x with standing := .firm }
      else some { holder := self, standing := .firm, since := now }
    | none => some { holder := self, standing := .firm, since := now }
  else h1

/-- The own objection applied to the own view (R94). -/
def applyOwnObject (x : ObjectFrame) (s : State) : State :=
  mapView (fun z h => ownObjectEntry s.line.number x.claimant s.uptime (ZoneSet.has x.zones z) h) s

/-! ### Releases (R81, R100, R101, R102) -/

/-- Zones of `zones` held by station `c`, at either standing, go free (R101). -/
def freeHeldBy (c : Nat) (zones : ZoneSet) (s : State) : State :=
  mapView (fun z h => match h with
    | some x => if x.holder = c ∧ ZoneSet.has zones z then none else some x
    | none => none) s

/-- Every zone. -/
def allZones : ZoneSet := 0xFFFF

/-- Zones held by the station are released in one ZONE RELEASE, unless the set is empty or the line cannot carry it
(R100). -/
def releaseZones (zones : ZoneSet) (s : State) : State :=
  if zones = 0 ∨ joined s = false then s
  else
    let s1 := freeHeldBy s.line.number zones s
    { s1 with slots := { s1.slots with release := s1.slots.release.put (inFlight s1 .release) uniteZones zones } }

/-- The keep set (R81): empty in SETUP, otherwise the stationary needed set at the present demand positions with the
needed set of the head. -/
def keepSet (s : State) : ZoneSet :=
  if s.station.mode = .setup then 0
  else
    stationarySet s (demands s) ||| (match s.motion.queue with
      | [] => 0
      | seg :: _ => seg.needed.getD (neededSet s seg))

/-- Auto-release: the zones held FIRM outside the keep set are released (R81, R100). -/
def autoRelease (s : State) : State := releaseZones (firmZones s &&& ~~~keepSet s) s

end Sys2Proof.Machine
end

