-- ==== Sys2Proof/Machine/Motion.lean ====
section
/-! DEFINITION. The motion sequencer: joining and leaving the queue, the evaluation of the head, the trajectory and
the drive demand (spec/04, spec/01). What ends or stops a segment, with its effects on a probe change, stands in
`Sys2Proof/Machine/Ends.lean`. -/

namespace Sys2Proof.Machine

/-! ### Path arithmetic (R61, R68) -/

/-- The change on each axis from `a` to `b`. -/
def deltas (a b : Vector Int 4) : Vector Int 4 := tab4 fun i => b.get i - a.get i

/-- The live channels of a kind. -/
def axesOfKind (s : State) (k : AxisKind) : List (Fin 4) := s.liveAxes.filter fun i => (s.axis i).record.kind == k

/-- The sum of the squares of the changes of the LINEAR axes. -/
def linearSquares (s : State) (d : Vector Int 4) : Nat :=
  ((axesOfKind s .linear).map fun i => (d.get i).natAbs * (d.get i).natAbs).sum

/-- The path length (R68). -/
def pathLength (s : State) (d : Vector Int 4) : Nat :=
  if linearSquares s d = 0 then ((axesOfKind s .angular).map fun i => (d.get i).natAbs).foldl max 0
  else isqrt (linearSquares s d)

/-- The path speed: the segment's speed, lowered on each axis that moves (R68). -/
def pathSpeed (s : State) (speed len : Nat) (d : Vector Int 4) : Nat :=
  s.liveAxes.foldl (fun v i =>
    if d.get i = 0 then v else min v (max 1 ((s.axis i).record.maxSpeed * len / (d.get i).natAbs))) speed

/-! ### Joining the queue -/

/-- The raw end of a queued segment (R59). -/
def rawEnd (s : State) (seg : Segment) : Vector Int 4 :=
  match seg.kind with
  | .reference => seg.targets.set seg.axis.val (s.axis seg.axis).record.refValue
  | _ => seg.targets

/-- The start point of a segment that is accepted now (R59). -/
def startPoint (s : State) : Vector Int 4 :=
  match s.motion.queue.getLast? with
  | some seg => rawEnd s seg
  | none => demands s

/-- A segment record as it joins the queue (R62), under the next segment number (R56). -/
def newSegment (s : State) (issuer : Issuer) (kind : SegKind) (axis : Fin 4) (targets : Vector Int 4)
    (searchEnd : Option (Vector Int 4)) (speed : Nat) : Segment :=
  { number := s.motion.counter, issuer := issuer, kind := kind, axis := axis, targets := targets,
    searchEnd := searchEnd, speed := speed, needed := none, decelerating := false, state := .queued,
    outcome := none, flushed := 0, traj := Trajectory.none }

/-- A segment joins at the tail and the counter advances, wrapping from 255 to 0 (R56); it becomes head at once if the queue
was empty (R64). -/
def enqueue (seg : Segment) (s : State) : State :=
  formHead { s with motion := { s.motion with queue := s.motion.queue ++ [seg], counter := s.motion.counter + 1 } }

/-! ### The head (R65, R66, R68) -/

/-- The segment goes MOVING: its trajectory begins at the present demand positions (R65, R68, R69). -/
def startMoving (s : State) (seg : Segment) : Segment :=
  let start := demands s
  let d := deltas start seg.lineEnd
  let len := pathLength s d
  let speed := match seg.kind with
    | .reference => seg.speed
    | _ => pathSpeed s seg.speed len d
  { seg with
    state := .moving
    traj := { Trajectory.none with start := start, len := len, pathSpeed := speed } }

/-- The conditions of R65 other than the zones. -/
def mayMove (s : State) (seg : Segment) : Bool :=
  s.motion.permit == .valid && s.gate == .normal && joined s &&
    (seg.kind != .probe || decide (s.capture.points.length ≤ 15))

/-- One evaluation of the head while it is WAITING or CLAIMING (R65, R66). -/
def evaluateHead (s : State) : State :=
  match s.motion.queue with
  | [] => s
  | seg :: rest =>
    if seg.state = .waiting ∨ seg.state = .claiming then
      let needed := seg.needed.getD 0
      if ZoneSet.within needed (firmZones s) then
        (if mayMove s seg then setQueue (startMoving s seg :: rest) s
         else setQueue ({ seg with state := .waiting } :: rest) s)
      else if needed &&& otherZones s ≠ 0 then setQueue ({ seg with state := .waiting } :: rest) s
      else
        match s.zones.claim with
        | .none =>
          let wanted := needed &&& freeZones s
          if joined s ∧ wanted ≠ 0 then
            makeClaim wanted (setQueue ({ seg with state := .claiming } :: rest) s)
          else setQueue ({ seg with state := .waiting } :: rest) s
        | _ => s
    else s

/-! ### Leaving the queue (R56, R74, R75) -/

/-- The segments behind the head are removed, and counted on the head (R74, R75). -/
def flushBehind (s : State) : State :=
  match s.motion.queue with
  | [] => s
  | seg :: rest => setQueue [{ seg with flushed := min 7 (seg.flushed + rest.length) }] s

/-- The head ends with outcome `o`: SEGMENT END is latched for a segment of the room, a claim still queued for it is
withdrawn (R90), and the segment behind it becomes head (R56, R64, R75). -/
def removeHead (o : SegOutcome) (s : State) : State :=
  match s.motion.queue with
  | [] => s
  | seg :: rest =>
    let s1 := if seg.issuer = .room then latchNotice (.segmentEnd seg.number o seg.flushed) s else s
    formHead (setQueue rest (headEndsClaim s1))

/-! ### Trajectory (R17, R69, R70) -/

/-- The distance left, in 1/65,536 count (R69). -/
def Trajectory.left (t : Trajectory) : Nat := t.len * 65536 - t.s

/-- Steps 2 and 3 with the new speed chosen: the progress rises by the mean of the speeds, not beyond the end
(R69). -/
def Trajectory.advanceTo (t : Trajectory) (u : Nat) (bounded : Bool) : Trajectory :=
  let s := t.s + (t.u + u) / 2
  { t with u := u, s := if bounded then min s (t.len * 65536) else s }

/-- One servo period of a MOVING segment with an end (R69), with whether the speed fell. -/
def Trajectory.step (accel : Nat) (t : Trajectory) : Trajectory × Bool :=
  let a := accel * 4096
  if t.left ≤ t.u * t.u / (2 * a) then (t.advanceTo (t.u - a) true, decide (t.u - a < t.u))
  else (t.advanceTo (min (t.u + a) (t.pathSpeed * 16384)) true, false)

/-- One servo period of a controlled stop (R70); `bounded` for a segment that has an end. -/
def Trajectory.stop (decel : Nat) (bounded : Bool) (t : Trajectory) : Trajectory :=
  let d := decel * 4096
  let g := t.left
  let fall := if bounded ∧ 0 < g ∧ g < t.u * t.u / (2 * d) then ceilDiv (t.u * t.u) (2 * g) else d
  t.advanceTo (t.u - fall) bounded

/-- One servo period of a reference search (R69): the speed always rises and the progress is not limited. -/
def Trajectory.search (accel : Nat) (t : Trajectory) : Trajectory :=
  t.advanceTo (min (t.u + accel * 4096) (t.pathSpeed * 16384)) false

/-- The demand is at rest (R70). A REFERENCE segment has no end. -/
def atRest (seg : Segment) : Bool :=
  seg.traj.u == 0 || (seg.kind != .reference && seg.traj.s == seg.traj.len * 65536)

/-- The trajectory of the head over one servo period (R17, R69, R70). DESIGN CHOICE (log entry 41): a segment without travel
arrives in its first period. -/
def stepSegment (s : State) (seg : Segment) : Segment :=
  let bounded := seg.kind != .reference
  match seg.state with
  | .stopping => { seg with traj := seg.traj.stop s.station.stopDecel bounded }
  | .moving =>
    if seg.traj.arrived then seg
    else if seg.kind = .reference then
      (if seg.traj.marked then
        let t := seg.traj.stop s.station.stopDecel false
        if t.u = 0 then { seg with traj := { t with arrived := true, settle := some (s.uptime + Config.settleTicks) } }
        else { seg with traj := t }
      else { seg with traj := seg.traj.search s.station.accel })
    else
      let r := seg.traj.step s.station.accel
      let t := r.1
      let dec := seg.decelerating || r.2
      if t.s = t.len * 65536 then
        { seg with decelerating := dec
                   traj := { t with arrived := true, settle := some (s.uptime + Config.settleTicks) } }
      else { seg with decelerating := dec, traj := t }
  | _ => seg

/-- The demand of axis `i` along the head's path (R17, R69). DESIGN CHOICE (log entry 38): the product Δ × s is formed
exactly, beyond the 64 bits of R3 too. -/
def pathDemand (s : State) (seg : Segment) (i : Fin 4) : Int :=
  let t := seg.traj
  match seg.kind with
  | .reference =>
    if i = seg.axis then
      (if (s.axis i).record.searchNeg then t.start.get i - roundDiv t.s 65536 else t.start.get i + roundDiv t.s 65536)
    else t.start.get i
  | _ =>
    let d := seg.lineEnd.get i - t.start.get i
    if t.len = 0 then seg.lineEnd.get i else t.start.get i + roundDiv (d * t.s) (t.len * 65536)

/-- A segment whose trajectory gives the demand positions. -/
def Segment.driving (seg : Segment) : Bool := seg.state == .moving || seg.state == .stopping

/-- Step 3 of the servo sample (R12, R14): with the amplifiers on, the demand follows the trajectory of a driving head
and holds without one; with them off it follows the position. -/
def takeDemands (s : State) : State :=
  if ampOn s then
    match s.motion.queue with
    | [] => s
    | seg :: rest =>
      if seg.driving then
        let seg' := stepSegment s seg
        (setQueue (seg' :: rest) s).mapAxes fun i a =>
          if s.live i then { a with demand := fit32 s.freeIx (pathDemand s seg' i) } else a
      else s
  else s.mapAxes fun i a => if s.live i then { a with demand := a.position } else a

/-! ### The servo sample (R11, R13, R14) -/

/-- Steps 1 and 2: the position joins the ring, which keeps the latest 64 entries (R14). -/
def appendSample (t : Tick) (a : Axis) : Axis :=
  let ring := a.ring ++ [{ tick := t, count := a.position }]
  { a with ring := if 64 < ring.length then ring.drop 1 else ring }

/-- The following error of a channel (R11). -/
def Axis.error (a : Axis) : Int := a.demand - a.position

/-- The drive demand of a period (R13): feed-forward and correction, clamped. -/
def driveDemand (previous : Int) (a : Axis) : Int :=
  clampInt (-32767) 32767 (4 * (a.demand - previous) + roundDiv a.error 64)

/-- The head's unmarked reference search has travelled beyond 2^31 − 1 counts on axis `i` (R18). DEDUCED (log entry 39): a
search that is STOPPING is no search any more. -/
def searchRanOut (s : State) (i : Fin 4) : Bool :=
  match s.motion.queue with
  | [] => false
  | seg :: _ =>
    seg.kind == .reference && seg.state == .moving && !seg.traj.marked && seg.axis == i &&
      decide (2147483647 < roundDiv seg.traj.s 65536)

/-- The motion faults that channel `i` finds in step 4 (R10, R11, R18), `previous` being the demand of the period
before. -/
def sampleFaults (s : State) (previous : Int) (i : Fin 4) : List (Fin 4 × FaultCause) :=
  let a := s.axis i
  let pins := s.pins.channels.get i
  (if a.record.setUp && decide (a.record.followLimit < a.error.natAbs) then [(i, .following)] else []) ++
    (if pins.atMax && decide (previous < a.demand) then [(i, .endMax)] else []) ++
    (if pins.atMin && decide (a.demand < previous) then [(i, .endMin)] else []) ++
    (if searchRanOut s i then [(i, .notFound)] else [])

/-- The axes that moved in a segment (R71). -/
def movedAxes (s : State) (seg : Segment) : List (Fin 4) :=
  match seg.kind with
  | .reference => [seg.axis]
  | _ => s.liveAxes.filter fun i => decide (seg.lineEnd.get i ≠ seg.traj.start.get i)

/-- Every axis that moved lies within its in-position window of its demand (R71). -/
def inPosition (s : State) (seg : Segment) : Bool :=
  (movedAxes s seg).all fun i => decide ((s.axis i).error.natAbs ≤ (s.axis i).record.window)

/-- Drives off: the drive demands are 0 and the demand positions are at the positions, at a motion fault as R9 says. DESIGN
CHOICE (log entry 53): at a fall of drive-enable and on entering OFFLINE between two servo samples (R12, R19, R22) the demands
take the positions at once too, before auto-release (R81) reads them. -/
def dropDrives (s : State) : State :=
  s.mapAxes fun i a => if s.live i then { a with demand := a.position, driveOut := 0, followErr := 0 } else a

/-- The amplifier enables go off with the demand positions kept: the drive demands are 0, and the next servo period takes the
demands to the positions (R12, R22, R195). -/
def cutDrives (s : State) : State :=
  s.mapAxes fun i a => if s.live i then { a with driveOut := 0, followErr := 0 } else a

/-- The amplifiers come on where the axes stand (R12, R20, R21, R193). DESIGN CHOICE (log entry 51): where they come on between
two servo samples, the feed-forward of the first period (R13) measures the change of the demand from the position at that
moment, and not from the demand of the period before. -/
def holdAtPositions (s : State) : State :=
  if ampOn s then s.mapAxes fun i a => if s.live i then { a with demand := a.position } else a else s

end Sys2Proof.Machine
end

