-- ==== Sys2Proof/Machine/Change.lean ====
section
/-! DEFINITION. The probe unit: the locations of probe records, the acceptance checks of a probe change, its thirteen
phases, its outcome and its end (spec/07). What stops a segment under a change stands in
`Sys2Proof/Machine/Ends.lean`. -/

namespace Sys2Proof.Machine

/-! ### Records -/

/-- The change record replaced. -/
def setChange (c : Change) (s : State) : State := { s with probes := { s.probes with change := c } }

/-- The change record changed. -/
def mapChange (f : Change → Change) (s : State) : State := setChange (f s.probes.change) s

/-- Every probe record changed. -/
def mapProbes (f : ProbeRecord → ProbeRecord) (s : State) : State :=
  { s with probes := { s.probes with table := tab16 fun i => f (s.probes.table.get i) } }

/-- The record that holds a non-zero id takes a location; id 0 names no record (R126). -/
def setLocation (id : Nat) (l : Location) (s : State) : State :=
  if id = 0 then s else mapProbes (fun r => if r.id = id then { r with location := l } else r) s

/-- The record that holds a non-zero id (R126: at most one). -/
def recordOf? (s : State) (id : Nat) : Option ProbeRecord :=
  if id = 0 then none else (s.probes.table.toList).find? fun r => r.id == id

/-- A lid output commanded (R131). -/
def setLid (p : Fin 8) (opened : Bool) (s : State) : State :=
  { s with probes := { s.probes with
      ports := s.probes.ports.set p.val { s.probes.ports.get p with lidOpen := opened } } }

/-- Every lid commanded CLOSED but those of which `keep` holds. -/
def closeLidsBut (keep : Fin 8 → Bool) (s : State) : State :=
  { s with probes := { s.probes with
      ports := tab8 fun p =>
        let r := s.probes.ports.get p
        if keep p then r else { r with lidOpen := false } } }

/-- The lock output commanded (R129). -/
def setLock (unlock : Bool) (s : State) : State := { s with probes := { s.probes with unlockOut := unlock } }

/-! ### Where the change stands -/

/-- The change is inside a commit stretch (R136, R138). -/
def inCommit (s : State) : Bool :=
  let c := s.probes.change
  c.active && c.result.isNone &&
    match c.phase with
    | some .unlock | some .detach | some .lock => true
    | _ => false

/-- The head stands in port `p` (R131). -/
def headStands (c : Change) (p : Fin 8) : Bool :=
  match c.phase with
  | some .insert | some .unlock => c.drop == some p
  | some .detach => c.drop == some p && !c.segArrived
  | some .engage | some .lock | some .identify => c.pick == some p
  | some .withdraw => c.pick == some p && !c.segArrived
  | _ => false

/-- The number of the phase running, 0 when idle (R203). -/
def Change.phaseNumber (c : Change) : Nat :=
  match c.phase with
  | some ph => ph.number
  | none => 0

/-- A segment issued by the probe unit stands in the queue. -/
def rackSegment (s : State) : Bool := s.motion.queue.any fun seg => seg.issuer == .probeUnit

/-! ### Outcome and end (R141 to R146) -/

/-- A deferred expiry is taken: the permit lapses and PERMIT LAPSED is latched with its cause (R143). -/
def takeDeferredExpiry (s : State) : State :=
  match s.probes.change.expiry with
  | .none => s
  | e =>
    latchNotice (.permitLapsed (e == .hello))
      (mapChange (fun c => { c with expiry := .none })
        { s with motion := { s.motion with permit := .lapsed, permitTimer := none } })

/-- The outcome is taken (R141, R142, R146); a deferred cause is dropped with it. -/
def takeResult (r : ChangeResult) (s : State) : State :=
  mapChange (fun c => { c with result := some r, last := some r, timer := none, deferred := .none }) s

/-- Every open lid is commanded CLOSED but that of the port in which the head stands (R141). -/
def closeLids (s : State) : State := closeLidsBut (headStands s.probes.change) s

/-- The locations of the probes of a change that ends FAILED or ABORTED in the phase running (R141); `proven` after a
passed DETACH check. The other rows of the table name the locations that the records hold already. -/
def settleLocations (proven : Bool) (s : State) : State :=
  let c := s.probes.change
  match c.phase with
  | some .unlock => setLocation c.oldId .unknown s
  | some .detach => if proven then s else setLocation c.oldId .unknown s
  | some .lock | some .identify => setLocation c.target .unknown s
  | _ => s

/-- The change ends: PROBE CHANGE END is latched, the record returns to idle and auto-release runs (R146). -/
def endChange (r : ChangeResult) (s : State) : State :=
  let c := s.probes.change
  autoRelease (latchNotice (.probeChangeEnd c.target r) (setChange (Change.idle c.last) s))

/-- A change that has taken its outcome ends once its segment has left the queue (R146). -/
def finishChange (s : State) : State :=
  let c := s.probes.change
  match c.active, c.result with
  | true, some r => if rackSegment s then s else endChange r s
  | _, _ => s

/-- The phase running fails: the outcome with its cause, the locations, the lids outside a commit stretch, and the
deferred expiry (R141, R143). A segment of the change still in the queue is the caller's. DEDUCED (log entry 45): a failing
DETACH end check fails inside the first commit stretch. -/
def failTaken (cause : ChangeCause) (idRead : Nat) (s : State) : State :=
  let r : ChangeResult :=
    { outcome := .failed, phase := s.probes.change.phaseNumber, cause := cause, idRead := idRead }
  let s1 := settleLocations false s
  let s2 := if inCommit s then s1 else closeLids s1
  takeDeferredExpiry (takeResult r s2)

/-- The change is aborted in the phase running (R142); `proven` as for `settleLocations`. -/
def abortTaken (cause : ChangeCause) (proven : Bool) (s : State) : State :=
  let r : ChangeResult := { outcome := .aborted, phase := s.probes.change.phaseNumber, cause := cause, idRead := 0 }
  takeResult r (closeLids (settleLocations proven s))

/-- A phase that has no segment in the queue fails, and the change ends. -/
def failEnded (cause : ChangeCause) (idRead : Nat) (s : State) : State := finishChange (failTaken cause idRead s)

/-! ### Rack segments (R134) -/

/-- The approach axes: the first three live channels of kind LINEAR (spec/07, Ports). -/
def approachAxes (s : State) : List (Fin 4) := (axesOfKind s .linear).take 3

/-- The place of a channel among the approach axes. -/
def approachIx? (s : State) (i : Fin 4) : Option (Fin 3) :=
  match finOf 3 ((approachAxes s).idxOf i) with
  | some k => if k.val < (approachAxes s).length then some k else none
  | none => none

/-- The axis positions with the approach axes at `pt` and the others at their present demand positions. -/
def rackTargets (s : State) (pt : Vector Int 3) : Vector Int 4 :=
  tab4 fun i => match approachIx? s i with
    | some k => pt.get k
    | none => (s.axis i).demand

/-- The insert target of a port (R130). -/
def insertTarget (s : State) (p : Port) : Vector Int 3 :=
  match approachIx? s p.insertAxis with
  | some k => p.approach.set k.val (p.approach.get k + p.insertDepth)
  | none => p.approach

/-- The speed of a RACK-TRAVEL segment: the largest max speed among the approach axes (R134). -/
def travelSpeed (s : State) : Nat := ((approachAxes s).map fun i => (s.axis i).record.maxSpeed).foldl max 0

/-- A rack segment is issued (R134). -/
def issueRack (kind : SegKind) (pt : Vector Int 3) (speed : Nat) (s : State) : State :=
  enqueue (newSegment s .probeUnit kind 0 (rackTargets s pt) none speed) s

/-- RACK-TRAVEL to the approach point of a port. -/
def issueTravel (p : Option (Fin 8)) (s : State) : State :=
  match p with
  | some p => issueRack .rackTravel (s.probes.ports.get p).approach (travelSpeed s) s
  | none => s

/-- RACK-INSERT into a port. -/
def issueInsert (p : Option (Fin 8)) (s : State) : State :=
  match p with
  | some p => issueRack .rackInsert (insertTarget s (s.probes.ports.get p)) s.station.probeCap s
  | none => s

/-- RACK-INSERT back to the approach point of a port. -/
def issueBack (p : Option (Fin 8)) (s : State) : State :=
  match p with
  | some p => issueRack .rackInsert (s.probes.ports.get p).approach s.station.probeCap s
  | none => s

/-! ### The phases, from the last to the first (R133, R135 to R140). A phase whose end condition holds as it begins ends
at once (log entry 26). -/

/-- A phase begins with its timer, where it has one. -/
def enterPhase (ph : Phase) (timer : Option Nat) (s : State) : State :=
  mapChange (fun c => { c with phase := some ph, timer := timer.map (s.uptime + ·), segArrived := false,
                               readBegun := false }) s

/-- The lid of a port has the state `l`. -/
def lidIs (s : State) (p : Option (Fin 8)) (l : LidState) : Bool :=
  match p with
  | some p => lidState s p == l
  | none => false

/-- A lid output of the change commanded. -/
def commandLid (p : Option (Fin 8)) (opened : Bool) (s : State) : State :=
  match p with
  | some p => setLid p opened s
  | none => s

/-- CLOSE-PICK has ended: the change is DONE (R140, R146). -/
def closePickEnded (s : State) : State :=
  finishChange (takeResult { outcome := .done, phase := 0, cause := .none, idRead := 0 } s)

/-- CLOSE-PICK (R140). -/
def beginClosePick (s : State) : State :=
  let pick := s.probes.change.pick
  let s1 := enterPhase .closePick (some Config.lidTicks) (commandLid pick false s)
  if lidIs s1 pick .closed then closePickEnded s1 else s1

/-- WITHDRAW (R140). -/
def beginWithdraw (s : State) : State := issueBack s.probes.change.pick (enterPhase .withdraw none s)

/-- IDENTIFY (R139). -/
def beginIdentify (s : State) : State := enterPhase .identify (some Config.identifyTicks) s

/-- A commit stretch has ended with its phase completed: a deferred expiry is taken, and a deferred cause aborts the
change; otherwise the next phase begins (R142, R143). -/
def stretchEnded (proven : Bool) (next : State → State) (s : State) : State :=
  let cause := s.probes.change.deferred
  if cause = .none then next (takeDeferredExpiry s)
  else finishChange (takeDeferredExpiry (abortTaken cause proven s))

/-- LOCK has ended (R138). -/
def lockEnded (s : State) : State := stretchEnded false beginIdentify s

/-- LOCK (R138). -/
def beginLock (s : State) : State :=
  let s1 := enterPhase .lock (some Config.lockTicks) (setLock false s)
  if lockState s1 = .locked then lockEnded s1 else s1

/-- ENGAGE (R137). -/
def beginEngage (s : State) : State := issueInsert s.probes.change.pick (enterPhase .engage none s)

/-- OPEN-PICK (R137). -/
def beginOpenPick (s : State) : State :=
  let pick := s.probes.change.pick
  let s1 := enterPhase .openPick (some Config.lidTicks) (commandLid pick true s)
  if lidIs s1 pick .opened && lockState s1 == .unlocked then beginEngage s1 else s1

/-- TRAVEL-PICK (R137). -/
def beginTravelPick (s : State) : State := issueTravel s.probes.change.pick (enterPhase .travelPick none s)

/-- CLOSE-DROP (R136). -/
def beginCloseDrop (s : State) : State :=
  let drop := s.probes.change.drop
  let s1 := enterPhase .closeDrop (some Config.lidTicks) (commandLid drop false s)
  if lidIs s1 drop .closed then beginTravelPick s1 else s1

/-- DETACH (R136). -/
def beginDetach (s : State) : State := issueBack s.probes.change.drop (enterPhase .detach none s)

/-- UNLOCK (R136). -/
def beginUnlock (s : State) : State :=
  let s1 := enterPhase .unlock (some Config.lockTicks) (setLock true s)
  if lockState s1 = .unlocked then beginDetach s1 else s1

/-- INSERT (R135). -/
def beginInsert (s : State) : State := issueInsert s.probes.change.drop (enterPhase .insert none s)

/-- OPEN-DROP (R135). -/
def beginOpenDrop (s : State) : State :=
  let drop := s.probes.change.drop
  let s1 := enterPhase .openDrop (some Config.lidTicks) (commandLid drop true s)
  if lidIs s1 drop .opened then beginInsert s1 else s1

/-- TRAVEL-DROP (R135). -/
def beginTravelDrop (s : State) : State := issueTravel s.probes.change.drop (enterPhase .travelDrop none s)

/-! ### What the phases wait for -/

/-- The segment of the phase running has ended ARRIVED (R135 to R140). -/
def rackArrived (s0 : State) : State :=
  let s := mapChange (fun c => { c with segArrived := true, readBegun := false }) s0
  match s.probes.change.phase with
  | some .travelDrop => beginOpenDrop s
  | some .insert => beginUnlock s
  | some .travelPick => beginOpenPick s
  | some .engage => beginLock s
  | some .withdraw =>
    match s.probes.change.pick with
    | some p => if present s p then failEnded .presenceFault 0 s else beginClosePick s
    | none => s
  | _ => s

/-- The segment of the change has ended with outcome `o` and left the queue (R134). -/
def afterRackEnd (o : SegOutcome) (s : State) : State :=
  if s.probes.change.result.isSome then finishChange s
  else
    match o with
    | .arrived => rackArrived s
    | .unsettled => failEnded .settleFault 0 s
    | .collision => failEnded .collision 0 s
    | .conflict => failEnded .conflict 0 s
    | .motionFault => failEnded .motionFault 0 s
    | .drivesOff => failEnded .drivesOff 0 s
    | .touched | .missed | .halted | .lapsed => s

/-- DETACH's end check, at the completion of an identity read that began after its segment arrived (R136). -/
def detachCheck (s : State) : State :=
  let c := s.probes.change
  if s.probes.identity ≠ 0 then failEnded .dropFault 0 s
  else
    match c.drop with
    | some p =>
      if present s p then stretchEnded true beginCloseDrop (setLocation c.oldId .inPort s)
      else failEnded .presenceFault 0 s
    | none => s

/-- IDENTIFY at the completion of an identity read that began after the phase (R139). -/
def identifyCheck (s : State) : State :=
  let c := s.probes.change
  let id := s.probes.identity
  if id = c.target then beginWithdraw (setLocation c.target .onHead s)
  else if id = 0 then failEnded .pickFault 0 s
  else failEnded .wrongProbe id (setLocation id .onHead s)

/-- An identity read has completed; it serves a phase that waits for one that began in time (R136, R139). -/
def identityRead (s : State) : State :=
  let c := s.probes.change
  if c.active && c.result.isNone && c.readBegun then
    match c.phase with
    | some .detach => detachCheck s
    | some .identify => identifyCheck s
    | _ => s
  else s

/-- The phase running waits for an identity read that has yet to begin (R136, R139). -/
def awaitsRead (c : Change) : Bool :=
  c.active && c.result.isNone &&
    match c.phase with
    | some .detach => c.segArrived
    | some .identify => true
    | _ => false

/-- A lid input or the lock state has changed: a phase that waits for it ends if its condition now holds (R135 to
R140). -/
def inputsChanged (s : State) : State :=
  let c := s.probes.change
  if c.active && c.result.isNone then
    match c.phase with
    | some .openDrop => if lidIs s c.drop .opened then beginInsert s else s
    | some .unlock => if lockState s = .unlocked then beginDetach s else s
    | some .closeDrop => if lidIs s c.drop .closed then beginTravelPick s else s
    | some .openPick => if lidIs s c.pick .opened && lockState s == .unlocked then beginEngage s else s
    | some .lock => if lockState s = .locked then lockEnded s else s
    | some .closePick => if lidIs s c.pick .closed then closePickEnded s else s
    | _ => s
  else s

/-! ### Acceptance (R132, R133) -/

/-- A point lies outside the soft limits of an approach axis. -/
def outsideLimits (s : State) (pt : Vector Int 3) : Bool :=
  (approachAxes s).any fun i =>
    match approachIx? s i with
    | some k => decide (pt.get k < (s.axis i).record.softMin) || decide ((s.axis i).record.softMax < pt.get k)
    | none => false

/-- The configured port record of a home port. -/
def configuredPort? (s : State) (home : Option (Fin 8)) : Option (Fin 8 × Port) :=
  match home with
  | some p => if (s.probes.ports.get p).configured then some (p, s.probes.ports.get p) else none
  | none => none

/-- Step 8 of R132 for one port. -/
def checkPort (s : State) (rackZone : Fin 16) (p : Port) (phase : Nat) : Option (ReplyCode × Nat) :=
  if (approachIx? s p.insertAxis).isNone then some (.badValue, phase)
  else if outsideLimits s p.approach || outsideLimits s (insertTarget s p) then some (.outOfRange, phase)
  else if !ZoneSet.has (stationarySet s (rackTargets s p.approach)) rackZone then some (.badValue, phase)
  else none

/-- The checks of a PROBE CHANGE that end without a change (R132), or the ports of an accepted one. -/
inductive ChangeCheck where
  | answer (code : ReplyCode) (detail : Nat)
  | accept (drop : Option (Fin 8)) (pick : Fin 8)
  deriving DecidableEq, Repr

/-- Steps 7 and 8 of R132, the target's port being `pick`. -/
def checkDrop (s : State) (dropCheck pickCheck : Fin 8 × Port → Option (ReplyCode × Nat)) (target : Fin 8 × Port) :
    ChangeCheck :=
  if s.probes.identity = 0 then
    match pickCheck target with
    | some r => .answer r.1 r.2
    | none => .accept none target.1
  else
    match onHead? s with
    | some (_, old) =>
      if old.id ≠ s.probes.identity then .answer .badValue 1
      else
        match configuredPort? s old.home with
        | none => .answer .badValue 1
        | some drop =>
          if lockState s ≠ .locked ∨ present s drop.1 then .answer .busy 1
          else
            match dropCheck drop, pickCheck target with
            | some r, _ => .answer r.1 r.2
            | none, some r => .answer r.1 r.2
            | none, none => .accept (some drop.1) target.1
    | none => .answer .badValue 1

/-- The checks of R132 after the mode and controller checks. -/
def checkChange (s : State) (p : List Byte) : ChangeCheck :=
  if p.length ≠ 2 ∨ byteAt p 1 = 0 then .answer .badValue 0
  else if s.probes.change.active ∨ motionState s ≠ .idle ∨ s.motion.queue ≠ [] then .answer .busy 0
  else
    match recordOf? s (byteAt p 1) with
    | none => .answer .badValue 7
    | some target =>
      if target.location = .onHead then .answer .done 0
      else if target.location ≠ .inPort then .answer .badValue 7
      else
        match configuredPort? s target.home with
        | none => .answer .badValue 7
        | some port =>
          match s.station.rackZone with
          | none => .answer .badValue 0
          | some z =>
            if (approachAxes s).length < 3 ∨ s.station.probeCap = 0 then .answer .badValue 0
            else checkDrop s (fun q => checkPort s z q.2 1) (fun q => checkPort s z q.2 7) port

/-- An accepted change begins (R133). -/
def acceptChange (target : Nat) (drop : Option (Fin 8)) (pick : Fin 8) (s : State) : State :=
  let c : Change := { Change.idle s.probes.change.last with
    active := true, target := target, oldId := s.probes.identity, drop := drop, pick := some pick }
  let s1 := closeLidsBut (fun p => drop == some p || pick == p) (setChange c s)
  if s.probes.identity ≠ 0 then beginTravelDrop s1
  else
    beginTravelPick (setLock true
      (mapProbes (fun r => if r.location = .onHead then { r with location := .unknown } else r) s1))

end Sys2Proof.Machine
end

