-- ==== Sys2Proof/Machine/Ends.lean ====
section
/-! DEFINITION. What ends or stops the head segment and what follows for a probe change, the permit, the slots and the
drives: controlled stops, motion faults, drives off, permit expiry, HALT, the entries into MUTE and OFFLINE, and the
beginning of a full reset (spec/01, spec/04, spec/07, spec/08, spec/09). -/

namespace Sys2Proof.Machine

/-! ### The head's end -/

/-- The head ends with outcome `o`: it leaves the queue, the probe unit learns the outcome of its own segment, and
auto-release runs (R71, R75, R81, R134). -/
def endHead (o : SegOutcome) (s : State) : State :=
  match s.motion.queue with
  | [] => s
  | seg :: _ =>
    let s1 := removeHead o s
    autoRelease (if seg.issuer = .probeUnit then afterRackEnd o s1 else s1)

/-- A stopping cause of outcome `o` acts on a MOVING head that has speed to shed (R70, R73). -/
def stopMoving (o : SegOutcome) (seg : Segment) : Segment := { seg with state := .stopping, outcome := some o }

/-- A controlled-stop cause of outcome `o` (R70, R72, R73, R74). Every cause but TOUCHED flushes the queue behind the
head, and auto-release follows the flush. DESIGN CHOICE (log entry 54): with no head in the queue there is no flush, and
auto-release does not run (R73, R74, R81). -/
def controlledStop (o : SegOutcome) (s : State) : State :=
  match s.motion.queue with
  | [] => s
  | seg :: _ =>
    let s1 := if o = .touched then s else flushBehind s
    match seg.state with
    | .stopping => if o = .touched then s1 else autoRelease s1
    | .moving =>
      if seg.traj.arrived || atRest seg then endHead o s1
      else if o = .touched then mapHead (stopMoving o) s1
      else autoRelease (mapHead (stopMoving o) s1)
    | .queued | .waiting | .claiming => endHead o s1

/-- A cause that ends the head at once with the queue flushed (R73, R74); with no head nothing is done (log entry 54). -/
def endAtOnce (o : SegOutcome) (s : State) : State := endHead o (flushBehind s)

/-- A needed zone has left the station's hold (R73, R97; log entry 25). -/
def zonesLost (lost : ZoneSet) (s : State) : State :=
  match s.motion.queue with
  | [] => s
  | seg :: _ =>
    if (seg.state = .moving ∨ seg.state = .stopping) ∧ seg.needed.getD 0 &&& lost ≠ 0 then
      controlledStop .conflict s
    else s

/-! ### A probe change -/

/-- A phase fails while a segment of the change may still be in the queue (R141; log entry 31). -/
def failPhase (cause : ChangeCause) (idRead : Nat) (s : State) : State :=
  let s1 := failTaken cause idRead s
  finishChange (if rackSegment s1 then controlledStop .halted s1 else s1)

/-- The drives lose power, or a motion fault is found, during a change (R144). An outcome taken before stands, and the
records still become UNKNOWN (log entry 18). -/
def changePowerLost (cause : ChangeCause) (s : State) : State :=
  let c := s.probes.change
  if c.active then
    let s1 := setLocation c.target .unknown (setLocation c.oldId .unknown s)
    if c.result.isSome then s1
    else
      takeDeferredExpiry
        (takeResult { outcome := .failed, phase := c.phaseNumber, cause := cause, idRead := 0 } s1)
  else s

/-- An aborting cause HALTED or MUTE reaches the change: deferred inside a commit stretch, taken at once outside
(R142). -/
def abortChange (cause : ChangeCause) (s : State) : State :=
  let c := s.probes.change
  if c.active && c.result.isNone then
    if inCommit s then
      (if c.deferred = .halted ∨ c.deferred = .mute then s else mapChange (fun c => { c with deferred := cause }) s)
    else abortTaken cause false s
  else s

/-! ### Drives (R9, R19, R22) -/

/-- Drives off: motion DISABLED, drive demands 0, the change failed, the queue ended and flushed (R19, R22; that the demands take
the positions in this step is log entry 53). -/
def drivesOff (s : State) : State :=
  finishChange (endAtOnce .drivesOff (changePowerLost .drivesOff (dropDrives { s with gate := .disabled })))

/-- A motion fault found on axis `i` (R9). -/
def motionFault (i : Fin 4) (cause : FaultCause) (s : State) : State :=
  let s1 := { s with faultPending := true, gate := if s.pins.driveEnable then .faulted else s.gate }
  latchNotice (.motionFault i cause)
    (finishChange (endAtOnce .motionFault (changePowerLost .motionFault (dropDrives s1))))

/-- An encoder fault clears its channel's referenced flag and is a motion fault (R8). -/
def encoderFault (i : Fin 4) (cause : FaultCause) (s : State) : State :=
  motionFault i cause (s.setAxis i { s.axis i with referenced := false })

/-! ### Permit (R79, R143) -/

/-- The permit expires, by its timer or by a HELLO of the controlling station. -/
def permitExpire (hello : Bool) (s : State) : State :=
  if s.motion.permit ≠ .valid then s
  else if inCommit s then
    mapChange (fun c => { c with
        deferred := if c.deferred = .none then .lapsed else c.deferred
        expiry := if c.expiry = .none then (if hello then .hello else .timer) else c.expiry })
      { s with motion := { s.motion with permitTimer := none } }
  else
    let s1 := latchNotice (.permitLapsed hello)
      { s with motion := { s.motion with permit := .lapsed, permitTimer := none } }
    let c := s1.probes.change
    let s2 := if c.active && c.result.isNone then abortTaken .lapsed false s1 else s1
    finishChange (controlledStop .lapsed s2)

/-- The permit timer restarts from now (R78); a deferred expiry is cancelled (R143). -/
def permitRenew (s : State) : State :=
  let s1 := { s with motion := { s.motion with
    permit := .valid, permitTimer := some (s.uptime + s.station.permitTime * Config.msTicks) } }
  if s1.probes.change.expiry = .none then s1
  else mapChange (fun c => { c with
    expiry := .none, deferred := if c.deferred = .lapsed then .none else c.deferred }) s1

/-! ### HALT and MUTE on motion (R76, R77, R142) -/

/-- Motion stops as by a HALT with the change's cause given: inside a commit stretch it is deferred whole. -/
def haltMotion (cause : ChangeCause) (s : State) : State :=
  if inCommit s then abortChange cause s
  else finishChange (controlledStop .halted (withdrawClaim (abortChange cause s)))

/-! ### Full reset (R183) -/

/-- A full reset begins: drive demands 0, lids CLOSED, strap fault off, nothing driven on the line, and after power-on the
lock output LOCK (R129, R183). -/
def beginReset (powerOn : Bool) (s : State) : State :=
  let s1 := closeLidsBut (fun _ => false) s
  { s1 with
    inReset := true
    axes := tab4 fun i => { s1.axes.get i with driveOut := 0 }
    line := { s1.line with attempt := none, strapFault := false, acked := false }
    probes := { s1.probes with unlockOut := if powerOn then false else s1.probes.unlockOut } }

/-- A pending restart is carried out (R186). -/
def restartNow (s : State) : State := if s.station.restartPending then beginReset false s else s

/-! ### The slots emptied (R177) -/

/-- A NOTICE in its slot returns to its latch (R177). -/
def returnNotice (s : State) : State :=
  match s.slots.notice with
  | none => s
  | some f =>
    let l := s.notices.get f.notice.latchIx
    let l1 : Latch :=
      if l.pending then { l with count := min 255 (l.count + f.count) }
      else { pending := true, count := f.count, detail := some f.notice }
    { s with notices := s.notices.set f.notice.latchIx.val l1 }

/-- An OFFERED record returns to READY (R124). -/
def PointRecord.unoffer (r : PointRecord) : PointRecord := if r.state = .offered then { r with state := .ready } else r

/-- A QUEUED claim returns to NONE with its slot (R77, R90, R177). -/
def dropQueuedClaim (s : State) : State :=
  match s.zones.claim with
  | .queued _ _ => unclaimHead (setClaim .none s)
  | _ => s

/-- Every slot is emptied with its amendment, a frame in flight is cut off, and the owners learn it (R120, R124, R177). -/
def emptySlots (s : State) : State :=
  let s1 := returnNotice s
  dropQueuedClaim
    { s1 with
      slots := Slots.empty
      line := { s1.line with attempt := none }
      capture := { s1.capture with points := s1.capture.points.map PointRecord.unoffer, requests := [] } }

/-! ### MUTE and OFFLINE -/

/-- The line controller enters MUTE (R158, R77, R103, R124, R142, R186). -/
def enterMute (s : State) : State :=
  let s1 := { s with line := { s.line with
    state := .mute
    mutes := min 255 (s.line.mutes + 1)
    muteStart := if s.line.mutes = 0 then some s.uptime else s.line.muteStart
    muteTimer := some (s.uptime + Config.muteTicks) } }
  restartNow (haltMotion .mute (emptySlots s1))

/-- The station enters OFFLINE on a duplicate number (R163, R165, R187, R22, R144, R186; log entry 19). -/
def enterOffline (s : State) : State :=
  let s1 := { s with
    line := { s.line with state := .offline, strapFault := true, muteTimer := none, idleAt := none }
    station := { s.station with mode := .offline } }
  restartNow (drivesOff (emptySlots s1))

end Sys2Proof.Machine
end

