-- ==== Sys2Proof/Machine/Capture.lean ====
section
/-! DEFINITION. The capture unit: the trigger, touches and collisions, point records, the exchange with a companion on
both sides, and the loading of the TOUCH and POINT slots (spec/06). -/

namespace Sys2Proof.Machine

/-- The capture unit changed. -/
def mapCapture (f : CaptureUnit → CaptureUnit) (s : State) : State := { s with capture := f s.capture }

/-- The point buffer changed. -/
def mapPoints (f : List PointRecord → List PointRecord) (s : State) : State :=
  mapCapture (fun c => { c with points := f c.points }) s

/-! ### The capture latch (R15) -/

/-- The latch takes the tick and the position of every live channel; an inert channel has no place in it. -/
def loadLatch (s : State) : State :=
  let counts := tab4 fun i => if s.live i then (s.axis i).position else 0
  { s with latch := some { tick := s.tick, counts := counts } }

/-! ### Points (R108, R111 to R115) -/

/-- The flags of the corrections of one point, gathered (R49). -/
def gatherFlags (cs : List Correction) : PointFlags :=
  let absent := cs.any fun c => c.absent
  { PointFlags.none with
    clamped := cs.any fun c => c.clamped
    mapOutside := cs.any fun c => c.mapOutside
    thermalStale := !absent && cs.any fun c => c.stale
    thermalAbsent := absent }

/-- The axis mask of a point: every live channel (R111). -/
def liveMask (s : State) : BitVec 4 := BitVec.ofFnLE fun i => s.live i

/-- The record of a point formed now by segment `seg` with the probe record `r` on the head (R111, R112, R115). -/
def pointOf (s : State) (seg : Segment) (r : ProbeRecord) (cap : Capture) : PointRecord :=
  let cs := s.liveAxes.map fun i => forward s i (cap.counts.get i) true
  let named := s.station.companion ≠ 0
  { number := s.capture.counter
    segment := seg.number
    probe := r.id
    flags := { gatherFlags cs with unqualified := !r.qualified, decelerating := seg.decelerating }
    mask := liveMask s
    coords := cs.map Correction.value
    companion := none
    state := if named then .awaiting else .ready
    expected := s.station.companion
    captureTick := cap.tick
    announced := false
    timer := if named then some (s.uptime + Config.companionTicks) else none }

/-- The probe record at index `k` changed. -/
def setProbe (k : Fin 16) (r : ProbeRecord) (s : State) : State :=
  { s with probes := { s.probes with table := s.probes.table.set k.val r } }

/-- A point is formed (R108, R113): it joins the buffer, the counter and the touch count rise, and the segment stops
TOUCHED. -/
def formPoint (seg : Segment) (k : Fin 16) (r : ProbeRecord) (cap : Capture) (s : State) : State :=
  let point := pointOf s seg r cap
  let s1 := mapCapture (fun c => { c with points := c.points ++ [point], counter := c.counter + 1 }) s
  controlledStop .touched (setProbe k { r with touches := min 4294967295 (r.touches + 1) } s1)

/-! ### Collisions (R109, R145) -/

/-- The probe on the head, where there is one, is no longer qualified. -/
def disqualify (s : State) : State :=
  match onHead? s with
  | some (k, r) => setProbe k { r with qualified := false } s
  | none => s

/-- COLLISION latched for a segment, with the id of the on-head probe, 0 for none. -/
def latchCollision (seg : Segment) (s : State) : State :=
  let id := match onHead? s with
    | some (_, r) => r.id
    | none => 0
  latchNotice (.collision seg.number seg.kind id) s

/-- A touch classified as a collision (R109). -/
def collide (seg : Segment) (s : State) : State := controlledStop .collision (disqualify (latchCollision seg s))

/-- A touch classified by the head segment (R107). -/
def classifyTouch (k : Fin 16) (r : ProbeRecord) (cap : Capture) (s : State) : State :=
  match s.motion.queue with
  | [] => s
  | seg :: _ =>
    match seg.kind, seg.state with
    | .probe, .moving => formPoint seg k r cap s
    | .position, .moving | .position, .stopping | .reference, .moving | .reference, .stopping => collide seg s
    | _, _ => s

/-- An eligible edge during a probe change (R110, R145). A RACK-TRAVEL that stops for another cause keeps its outcome, and
the change the outcome it has or will take from it. -/
def rackTouch (s : State) : State :=
  match s.motion.queue with
  | [] => s
  | seg :: _ =>
    if seg.kind = .rackTravel ∧ (seg.state = .moving ∨ seg.state = .stopping) then
      let s1 := disqualify (latchCollision seg s)
      let s2 := if s1.probes.change.result.isSome ∨ seg.state = .stopping then s1 else failTaken .collision 0 s1
      finishChange (controlledStop .collision s2)
    else s

/-- An eligible edge (R106, R110). -/
def eligibleEdge (cap : Capture) (s : State) : State :=
  if s.probes.change.active then rackTouch s
  else if s.station.mode = .run ∧ s.line.state ≠ .offline then
    match onHead? s with
    | some (k, r) => classifyTouch k r cap s
    | none => s
  else s

/-- An edge from SEATED to DEFLECTED (R15, R105). -/
def deflect (s0 : State) : State :=
  let s := loadLatch s0
  let ready := s.capture.reseat == .ready
  let s1 := mapCapture (fun c => { c with reseat := .spent, reseatTimer := none }) s
  match ready, s.latch with
  | true, some cap => eligibleEdge cap s1
  | _, _ => s1

/-! ### The companion timer and the answer (R117, R118) -/

/-- A record becomes READY without a companion value. -/
def PointRecord.missing (r : PointRecord) : PointRecord :=
  { r with state := .ready, timer := none, companion := none, flags := { r.flags with companionMissing := true } }

/-- A record becomes READY with a companion value. -/
def PointRecord.answered (v : Int) (r : PointRecord) : PointRecord :=
  { r with state := .ready, timer := none, companion := some v, flags := { r.flags with companionPresent := true } }

/-- The TOUCH of point `n` is withdrawn from its slot; while its attempt is in flight the withdrawal is held until the tag
ends, and past a won tag it has no effect (R117, R155; log entry 16). -/
def withdrawTouch (n : BitVec 16) (s : State) : State :=
  match s.slots.touch with
  | some f =>
    if f.point = n then
      (if inFlight s .touch then holdWithdrawal s else { s with slots := { s.slots with touch := none } })
    else s
  | none => s

/-- The companion timer of point `n` runs out (R117). -/
def companionExpire (n : BitVec 16) (s : State) : State :=
  let hit := fun (r : PointRecord) => r.number == n && r.state == .awaiting && s.due r.timer
  if s.capture.points.any hit then
    withdrawTouch n (mapPoints (fun ps => ps.map fun r => if hit r then r.missing else r) s)
  else s

/-- The record that a COMPANION of `sender` for point `n` is merged into (R118). -/
def mergesInto (sender : Nat) (n : BitVec 16) (r : PointRecord) : Bool :=
  r.expected == sender && r.number == n && r.state == .awaiting

/-- A COMPANION addressed to the station is merged or discarded (R118). -/
def mergeCompanion (sender : Nat) (n : BitVec 16) (value : Int) (status : Nat) (s : State) : State :=
  mapPoints (fun ps => ps.map fun r =>
    if mergesInto sender n r then (if status = 0 then r.answered value else r.missing) else r) s

/-! ### Answering as companion (R119 to R122) -/

/-- What a request comes to (R120). -/
inductive Settled where
  | wait
  | answer (status : CompanionStatus) (value : Int)
  deriving DecidableEq, Repr

/-- The raw value at the instant `t` on a ring, `t` not earlier than its oldest entry (R121). -/
def interpolate (t : Tick) : List Sample → Int
  | [] => 0
  | [a] => a.count
  | a :: b :: rest =>
    if Tick.earlier t b.tick then
      a.count + roundDiv ((b.count - a.count) * (t - a.tick).toNat) (b.tick - a.tick).toNat
    else interpolate t (b :: rest)

/-- A request at the instant `t` settled against a ring of axis `i` (cases 2 to 4 of R120). -/
def settleRing (s : State) (i : Fin 4) (t : Tick) : Settled :=
  let ring := (s.axis i).ring
  match ring.head?, ring.getLast? with
  | some oldest, some newest =>
    if Tick.earlier t oldest.tick then .answer .beyondHistory 0
    else if Tick.later t newest.tick then .wait
    else .answer .ok (forward s i (interpolate t ring) false).value
  | _, _ => .answer .beyondHistory 0

/-- A request settled (R120). -/
def settle (s : State) (t : Tick) : Settled :=
  match s.station.serveAxis with
  | some i => if s.live i && (s.axis i).referenced then settleRing s i t else .answer .notReferenced 0
  | none => .answer .notReferenced 0

/-- The two COMPANION slots, in order. -/
def companionIds : List (Fin 2) := [0, 1]

/-- The COMPANION slot for an answer: the one that holds an answer to the same toucher and point, else the lowest empty
one (R122). -/
def companionSlot (s : State) (dest : Nat) (n : BitVec 16) : Option (Fin 2) :=
  let same := companionIds.find? fun i =>
    match (s.slots.companions.get i).frame with
    | some x => x.dest == dest && x.point == n
    | none => false
  match same with
  | some i => some i
  | none => companionIds.find? fun i => (s.slots.companions.get i).frame.isNone

/-- An answer is placed, or not made for want of a slot (R122). -/
def placeAnswer (x : CompanionFrame) (s : State) : State :=
  match companionSlot s x.dest x.point with
  | some i =>
    { s with slots := { s.slots with
        companions := s.slots.companions.set i.val
          ((s.slots.companions.get i).put (inFlight s (.companion i)) takeLater x) } }
  | none => s

/-- Two requests of one toucher for one point. -/
def Request.same (a b : Request) : Bool := a.toucher == b.toucher && a.point == b.point

/-- A request that waits: it replaces one of the same toucher and point, or joins while fewer than two are pending
(R120). -/
def waitRequest (q : Request) (s : State) : State :=
  let rs := s.capture.requests
  if rs.any q.same then mapCapture (fun c => { c with requests := rs.map fun x => if q.same x then q else x }) s
  else if rs.length < 2 then mapCapture (fun c => { c with requests := rs ++ [q] }) s
  else s

/-- A settled request is answered (R122). -/
def answerRequest (q : Request) (status : CompanionStatus) (value : Int) (s : State) : State :=
  placeAnswer { dest := q.toucher, point := q.point, value := value, status := status } s

/-- A new request (R119, R120). -/
def takeRequest (q : Request) (s : State) : State :=
  match settle s q.instant with
  | .wait => waitRequest q s
  | .answer status value =>
    answerRequest q status value
      (mapCapture (fun c => { c with requests := c.requests.filter fun x => !q.same x }) s)

/-- One pending request at a servo sample (R120). -/
def settlePending (q : Request) (s : State) : State :=
  match settle s q.instant with
  | .wait => s
  | .answer status value =>
    answerRequest q status value
      (mapCapture (fun c => { c with requests := c.requests.filter fun x => x != q }) s)

/-- The pending requests are settled again after the sample's entries have joined the rings (R120). DESIGN CHOICE (log entry
43): in the order in which they joined. -/
def settleAll (s : State) : State := s.capture.requests.foldl (fun s q => settlePending q s) s

/-! ### Loading the slots (R116, R123, R179) -/

/-- The TOUCH slot takes the oldest record still to announce (R116). -/
def loadTouch (s : State) : State :=
  if joined s && s.slots.touch.isNone then
    match s.capture.points.find? fun r => r.state == .awaiting && !r.announced with
    | some r =>
      { s with slots := { s.slots with
          touch := some { point := r.number, probe := r.probe, captureTick := r.captureTick } } }
    | none => s
  else s

/-- The frame of a point (R123). -/
def PointRecord.frame (r : PointRecord) : PointFrame :=
  { number := r.number, segment := r.segment, probe := r.probe, flags := r.flags, mask := r.mask,
    coords := r.coords, companion := r.companion }

/-- The POINT slot takes the oldest record when it is READY (R123). -/
def loadPoint (s : State) : State :=
  if joined s && s.slots.point.isNone then
    match s.capture.points with
    | r :: rest =>
      if r.state = .ready then
        mapPoints (fun _ => { r with state := .offered } :: rest)
          { s with slots := { s.slots with point := some r.frame } }
      else s
    | [] => s
  else s

/-- The nine latches, in kind order. -/
def latchIds : List (Fin 9) := [0, 1, 2, 3, 4, 5, 6, 7, 8]

/-- The NOTICE slot takes the first pending latch, which is cleared (R179). -/
def loadNotice (s : State) : State :=
  if joined s && s.slots.notice.isNone then
    match latchIds.find? fun i => (s.notices.get i).pending with
    | some i =>
      match (s.notices.get i).detail with
      | some n =>
        { s with
          notices := s.notices.set i.val Latch.afterReset
          slots := { s.slots with notice := some { notice := n, count := (s.notices.get i).count } } }
      | none => s
    | none => s
  else s

/-- What follows every step of the part: the head is evaluated and the slots are loaded (R64, R116, R123, R179; log
entries 14 and 15). -/
def finish (s : State) : State :=
  if s.inReset then s else loadNotice (loadPoint (loadTouch (evaluateHead s)))

/-! ### Commands in time -/

/-- A command taken at tick `t` (log entry 1). While a reset lasts it has no effect but the passing of time (log entry
11). -/
def timed (t : Tick) (body : State → State) (s : State) : State :=
  let s1 := advance t s
  if s1.inReset then s1 else finish (body s1)

/-- A change of input pins taken at tick `t`: the pins follow even in reset; a level that does not change is no edge
(log entries 5 and 11). -/
def input (t : Tick) (pins : Pins → Pins) (body : State → State → State) (s : State) : State :=
  let s1 := advance t s
  if pins s1.pins = s1.pins then (if s1.inReset then s1 else finish s1)
  else
    let s2 := { s1 with pins := pins s1.pins }
    if s2.inReset then s2 else finish (body s1 s2)

end Sys2Proof.Machine
end

