-- ==== Sys2Proof/Machine/Line.lean ====
section
/-! DEFINITION. The gauge line: the bits of a frame with its stuffing and check, what a receiver makes of the bits it
reads, the payloads of the slots, and the attempt with its outcomes (spec/08, spec/09). A bit is `true` when recessive. -/

namespace Sys2Proof.Machine

/-! ### Bits of a frame (spec/08, The frame on the line) -/

/-- `width` bits of a number, most significant first. -/
def bitsOf : Nat → Nat → List Bool
  | 0, _ => []
  | width + 1, n => n.testBit width :: bitsOf width n

/-- The number that bits spell, most significant first. -/
def bitsNat (bits : List Bool) : Nat := bits.foldl (fun n b => 2 * n + b.toNat) 0

/-- The frame bits from the tag through the payload. -/
def frameBody (cls sender kind : Nat) (payload : List Byte) : List Bool :=
  bitsOf 3 cls ++ bitsOf 5 sender ++ bitsOf 5 kind ++ bitsOf 5 payload.length ++
    payload.flatMap fun b => bitsOf 8 b.toNat

/-- One frame bit enters the check register (R153). -/
def checkStep (r : BitVec 16) (b : Bool) : BitVec 16 :=
  if r.msb != b then (r <<< 1) ^^^ 0x1021 else r <<< 1

/-- The check over frame bits (R153). -/
def checkOf (bits : List Bool) : BitVec 16 := bits.foldl checkStep 0xFFFF

/-- The stuffable bits of a frame: start of frame, body and check (R152). -/
def stuffable (body : List Bool) : List Bool := false :: body ++ bitsOf 16 (checkOf body).toNat

/-- The run of equal frame bits that ends with `b`, after the run `prev` (R152). -/
def runAfter (prev : Option (Bool × Nat)) (b : Bool) : Nat :=
  match prev with
  | some (p, n) => if p = b then n + 1 else 1
  | none => 1

/-- A stuff bit is inserted after every 6 equal bits; the count begins again after it (R152). -/
def stuff (prev : Option (Bool × Nat)) : List Bool → List Bool
  | [] => []
  | b :: rest =>
    let n := runAfter prev b
    if n = 6 then b :: (!b) :: stuff none rest else b :: stuff (some (b, n)) rest

/-- The bits a transmitter sends from the start of frame through the end field, the acknowledge slot as it sends it
(R152, R156). -/
def transmit (cls sender kind : Nat) (payload : List Byte) : List Bool :=
  stuff none (stuffable (frameBody cls sender kind payload)) ++ List.replicate 8 true

/-! ### Receiving (R150, R152) -/

/-- What keeps a receiver from taking a frame: the four errors (R150, R152), or bits that stop before its end with no error
so far (`cutShort`). -/
inductive RxError where
  | stuff
  | length
  | check
  | format
  | cutShort
  deriving DecidableEq, Repr

/-- What a receiver has after some frame bits: the bits, the run, and the bits still to come. -/
structure Taken where
  bits : List Bool
  run : Option (Bool × Nat)
  rest : List Bool
  deriving DecidableEq, Repr

/-- The bit whose complement is due as a stuff bit after this run (R152). -/
def stuffDue (run : Option (Bool × Nat)) : Option Bool :=
  match run with
  | some (p, n) => if n = 6 then some p else none
  | none => none

/-- `k` frame bits are read. A stuff bit is removed when the bit after it is due, so that a field is complete with its last
frame bit (R150, R152). -/
def takeBits : Nat → Option (Bool × Nat) → List Bool → Except RxError Taken
  | 0, run, bits => .ok { bits := [], run := run, rest := bits }
  | _ + 1, _, [] => .error .cutShort
  | k + 1, run, b :: rest =>
    match stuffDue run with
    | some p => if b = p then .error .stuff else takeBits (k + 1) none rest
    | none =>
      match takeBits k (some (b, runAfter run b)) rest with
      | .ok t => .ok { t with bits := b :: t.bits }
      | .error e => .error e

/-- A frame as a receiver has it (R164). -/
structure LineFrame where
  cls : Nat
  sender : Nat
  kind : Nat
  payload : List Byte
  deriving DecidableEq, Repr

/-- The payload bytes that frame bits spell. -/
def bytesOf : Nat → List Bool → List Byte
  | 0, _ => []
  | k + 1, bits => BitVec.ofNat 8 (bitsNat (bits.take 8)) :: bytesOf k (bits.drop 8)

/-- A frame that has passed its check, with the run of equal bits at its end and the bits that follow (R150, R163). -/
structure Checked where
  frame : LineFrame
  run : Option (Bool × Nat)
  rest : List Bool
  deriving DecidableEq, Repr

/-- A receiver follows the bits of a frame from its start of frame through its check, and checks each field as it completes
(R150). The 19 bits of start of frame, tag, kind and length come first, then the payload and the check. -/
def receiveChecked (bits : List Bool) : Except RxError Checked :=
  match takeBits 19 none bits with
  | .error e => .error e
  | .ok head =>
    let len := bitsNat ((head.bits.drop 14).take 5)
    if 28 < len then .error .length
    else
      match takeBits (8 * len + 16) head.run head.rest with
      | .error e => .error e
      | .ok body =>
        let payload := body.bits.take (8 * len)
        if checkOf (head.bits.drop 1 ++ payload) ≠ BitVec.ofNat 16 (bitsNat (body.bits.drop (8 * len))) then
          .error .check
        else
          .ok
            { frame :=
                { cls := bitsNat ((head.bits.drop 1).take 3)
                  sender := bitsNat ((head.bits.drop 4).take 5)
                  kind := bitsNat ((head.bits.drop 9).take 5)
                  payload := bytesOf len payload }
              run := body.run
              rest := body.rest }

/-- The acknowledge slot and the seven bits after it (R150). -/
def receiveTail (f : LineFrame) (rest : List Bool) : Except RxError LineFrame :=
  match rest with
  | [] => .error .cutShort
  | _ :: tail =>
    if (tail.take 7).any (fun b => !b) then .error .format
    else if tail.length < 7 then .error .cutShort
    else .ok f

/-- What follows the check: the stuff bit due after its last 6 bits, and the unstuffed bits (R150, R152). -/
def receiveEnd (c : Checked) : Except RxError LineFrame :=
  match stuffDue c.run, c.rest with
  | some _, [] => .error .cutShort
  | some p, b :: rest => if b = p then .error .stuff else receiveTail c.frame rest
  | none, rest => receiveTail c.frame rest

/-- A receiver follows the bits of a frame from its start of frame to its end (R150). -/
def receiveBits (bits : List Bool) : Except RxError LineFrame :=
  match receiveChecked bits with
  | .error e => .error e
  | .ok c => receiveEnd c

/-- The sender of a frame that has passed its check, whatever follows (R163). -/
def checkedSender (bits : List Bool) : Option Nat :=
  match receiveChecked bits with
  | .error _ => none
  | .ok c => some c.frame.sender

/-- The number of recessive bits at the end of the bits read (R151). -/
def quietAfter (bits : List Bool) : Nat := (bits.reverse.takeWhile fun b => b).length

/-! ### Classes and kinds (spec/09, Kinds) -/

/-- The class of a kind; kind 31 has none (R164). -/
def classOf (kind : Nat) : Option Nat :=
  match kind with
  | 0 => some 0
  | 1 | 2 => some 1
  | 3 | 4 | 5 => some 2
  | 6 | 7 => some 3
  | 8 => some 4
  | 28 | 29 => some 6
  | 30 => some 7
  | 31 => none
  | _ => some 5

/-! ### The slots' frames (spec/09, Payloads) -/

/-- The kind of the frame a slot holds. -/
def SlotId.kind : SlotId → Nat
  | .touch => 1 | .object _ => 2 | .hello => 3 | .release => 4 | .claim => 5 | .companion _ => 6
  | .point => 8 | .reply _ => 27 | .temp => 28 | .status => 29 | .notice => 30

/-- The class of the frame a slot holds (R173). -/
def SlotId.cls : SlotId → Nat
  | .touch => 1 | .object _ => 1 | .hello => 2 | .release => 2 | .claim => 2 | .companion _ => 3
  | .point => 4 | .reply _ => 5 | .temp => 6 | .status => 6 | .notice => 7

/-- The age of a TOUCH at a start of frame (R116, R162); a value that its three bytes do not hold is a free value (log
entry 9). -/
def ageBytes (n : Nat) (sof captureTick : Tick) : List Byte :=
  let age := (sof - captureTick).toNat
  if age < 16777216 then put24 age else put24 (Config.ageField n age).toNat

/-- The payload of the frame in a slot, as an attempt that starts at `sof` carries it; `none` where the slot is empty. -/
def slotPayload (s : State) (sof : Tick) (id : SlotId) : Option (List Byte) :=
  match id with
  | .touch => s.slots.touch.map fun f =>
      put16 f.point.toNat ++ ageBytes s.freeIx sof f.captureTick ++ put8 f.probe
  | .object i => (s.slots.objects.get i).frame.map fun f => put8 f.claimant ++ put16 f.zones.toNat
  | .hello => if s.slots.hello then some (put8 s.axisCount ++ put8 s.station.mode.code) else none
  | .release => s.slots.release.frame.map fun z => put16 z.toNat
  | .claim => s.slots.claim.map fun z => put16 z.toNat
  | .companion i => (s.slots.companions.get i).frame.map fun f =>
      put8 f.dest ++ put16 f.point.toNat ++ putS32 f.value ++ put8 f.status.code
  | .point => s.slots.point.map fun f =>
      put16 f.number.toNat ++ put8 f.segment.toNat ++ put8 f.probe ++ put8 f.flags.code ++ put8 f.mask.toNat ++
        f.coords.flatMap putS32 ++ (match f.companion with
          | some v => putS32 v
          | none => [])
  | .reply i => (s.slots.replies.get i).map fun f =>
      put8 f.dest ++ put8 f.kind ++ put8 f.code.code ++ put16 f.detail
  | .temp => s.slots.temp.frame.map fun f => putS32 f.value ++ put8 f.quality.code
  | .status => s.slots.status.map fun f => put8 f.dest ++ put8 f.sect ++ put8 f.index ++ f.content
  | .notice => s.slots.notice.map fun f => put8 f.notice.kindCode ++ put8 f.count ++ f.notice.detail

/-- The fifteen slots in their order of selection (R173). -/
def slotOrder : List SlotId :=
  [.touch, .object 0, .object 1, .object 2, .hello, .release, .claim, .companion 0, .companion 1, .point,
    .reply 0, .reply 1, .temp, .status, .notice]

/-- A slot holds a frame. -/
def occupied (s : State) (id : SlotId) : Bool := (slotPayload s 0 id).isSome

/-- The slots that may be offered (R173). -/
def mayOffer (s : State) (id : SlotId) : Bool :=
  occupied s id && (joined s || (s.line.state == .listenAnnouncing && id == .hello))

/-- The slot selected at a start of frame (R173). -/
def selectSlot (s : State) : Option SlotId := slotOrder.find? (mayOffer s)

/-! ### Attempts (R154 to R157, R174, R175) -/

/-- The line controller changed. -/
def mapLine (f : Line → Line) (s : State) : State := { s with line := f s.line }

/-- The slots changed. -/
def mapSlots (f : Slots → Slots) (s : State) : State := { s with slots := f s.slots }

/-- How long the tag of a frame takes from its start of frame, in bits, stuff bits included (R152, R154). -/
def tagBits (cls sender : Nat) : Nat :=
  (stuff none ((false :: bitsOf 3 cls ++ bitsOf 5 sender).take 8)).length + 1

/-- The line is idle for an attempt: IDLE, or announcing with the line idle (R151, R154; log entry 23). -/
def lineIdle (s : State) : Bool :=
  s.line.attempt.isNone &&
    (s.line.state == .idle || (s.line.state == .listenAnnouncing && s.due s.line.idleAt))

/-- The moment at which the line is idle, when the present tick is the end of a bit and `n` more bits are read recessive:
the last of them is read before it ends (R149, R151). -/
def idleAfter (s : State) (n : Nat) : Nat := s.uptime + bitTicks s * n - readLead s

/-- An attempt begins with the frame of the slot selected, at its start of frame (R154, R161). -/
def beginAttempt (s : State) : State :=
  match selectSlot s with
  | some id =>
    let sof := s.tick
    let a : Attempt :=
      { slot := id, kind := id.kind, payload := (slotPayload s sof id).getD [], sof := sof,
        tagSent := s.uptime + bitTicks s * tagBits id.cls s.line.number, withdrawn := false }
    mapLine (fun l => { l with
      attempt := some a, lastSof := sof, quiet := 0, idleAt := none
      state := if l.state = .listenAnnouncing then .listenAnnouncing else .arbitrating }) s
  | none => s

/-- The amendment of a slot applied after a lost or failed attempt (R175). -/
def applyAmendment (id : SlotId) (s : State) : State :=
  match id with
  | .object i => mapSlots (fun x => { x with
      objects := x.objects.set i.val ((x.objects.get i).afterLoss uniteObject) }) s
  | .release => mapSlots (fun x => { x with release := x.release.afterLoss uniteZones }) s
  | .companion i => mapSlots (fun x => { x with
      companions := x.companions.set i.val ((x.companions.get i).afterLoss takeLater) }) s
  | .temp => mapSlots (fun x => { x with temp := x.temp.afterLoss takeLater }) s
  | _ => s

/-- The attempt has ended without success: the line controller receives (R154, R157). -/
def attemptOver (idleAt : Option Nat) (s : State) : State :=
  mapLine (fun l => { l with
    attempt := none, idleAt := idleAt
    state := if l.state = .listenAnnouncing then .listenAnnouncing else .receiving }) s

/-- A TOUCH whose withdrawal was held until a lost tag leaves its slot now (R117, R155). -/
def dropTouch (a : Attempt) (s : State) : State :=
  if a.withdrawn ∧ a.slot = .touch then mapSlots (fun x => { x with touch := none }) s else s

/-- A claim whose withdrawal was held until a lost tag is withdrawn now (R155). -/
def dropClaim (a : Attempt) (s : State) : State :=
  if a.withdrawn ∧ a.slot = .claim then withdrawClaim s else s

/-- Arbitration is lost at a dominant bit: the winning frame is followed, and the line is not idle before it ends (R151,
R154, R155). -/
def loseAttempt (a : Attempt) (s : State) : State :=
  dropClaim a (dropTouch a (applyAmendment a.slot (mapLine (fun l => { l with quiet := 0 }) (attemptOver none s))))

/-- The attempt has failed, `quiet` recessive bits having been read up to the bit of the failure (R157, R158). The frame stays
in its slot, a withdrawal held before its tag was won having no effect (R155; log entry 16). -/
def failAttempt (a : Attempt) (quiet : Nat) (s : State) : State :=
  let idle := idleAfter s (max 10 (11 - quiet))
  let s1 := applyAmendment a.slot (attemptOver (some idle) s)
  let s2 := mapLine (fun l => { l with failures := min 16 (l.failures + 1), quiet := quiet }) s1
  if 16 ≤ s2.line.failures then enterMute s2 else s2

/-! ### What a success does to the owner of the frame (R156) -/

/-- The record of a TOUCH that has been sent is announced (R116). -/
def touchSent (s : State) : State :=
  match s.slots.touch with
  | some f =>
    mapSlots (fun x => { x with touch := none })
      (mapPoints (fun ps => ps.map fun r =>
        if r.number = f.point ∧ r.state = .awaiting then { r with announced := true } else r) s)
  | none => s

/-- The own objection has been sent (R94): it is applied to the own view, and a zone newly recorded to the station makes
the keep set be formed again (R100; log entry 17). -/
def objectSent (i : Fin 3) (s : State) : State :=
  match (s.slots.objects.get i).frame with
  | some x =>
    let again := x.zones &&& ~~~ownZones s
    let s1 := applyOwnObject x
      (mapSlots (fun y => { y with objects := y.objects.set i.val (y.objects.get i).afterSuccess }) s)
    if again = 0 then s1 else autoRelease s1
  | none => s

/-- The HELLO has been sent: the station is joined, its holdings in its own view go free, a claim in its window fails,
and LINE REJOINED is latched after a MUTE, its time rounded down (R103, R160; log entries 25 and 46). -/
def helloSent (s : State) : State :=
  let lost := ownZones s
  let s1 := failWindow (freeHeldBy s.line.number allZones (mapSlots (fun x => { x with hello := false }) s))
  let ms := match s.line.muteStart with
    | some t => min 65535 ((s.uptime - t) / Config.msTicks)
    | none => 0
  let s2 := if s.line.mutes = 0 then s1 else latchNotice (.lineRejoined s.line.mutes ms) s1
  zonesLost lost (mapLine (fun l => { l with mutes := 0, muteStart := none }) s2)

/-- A POINT has been delivered: its record leaves the buffer (R123). -/
def pointSent (s : State) : State :=
  mapSlots (fun x => { x with point := none })
    (mapPoints (fun ps => match ps with
      | r :: rest => if r.state = .offered then rest else r :: rest
      | [] => []) s)

/-- A REPLY has been sent; the REPLY DONE to a RESTART begins the full reset (R186). -/
def replySent (i : Fin 2) (s : State) : State :=
  let s1 := mapSlots (fun x => { x with replies := x.replies.set i.val none }) s
  match s.slots.replies.get i with
  | some f => if f.kind = 17 ∧ f.code = .done then restartNow s1 else s1
  | none => s1

/-- A STATUS has been sent; that of section STATION index 0 clears the command-overrun flag (R172; log entry 21). -/
def statusSent (s : State) : State :=
  let s1 := mapSlots (fun x => { x with status := none }) s
  match s.slots.status with
  | some f => if f.sect = 0 ∧ f.index = 0 ∧ s.overrunSince = false then { s1 with overrun := false } else s1
  | none => s1

/-- What the block that owns a slot does when its frame has been sent and acknowledged (R174, R175). -/
def slotSent (id : SlotId) (s : State) : State :=
  match id with
  | .touch => touchSent s
  | .object i => objectSent i s
  | .hello => helloSent s
  | .release => mapSlots (fun x => { x with release := x.release.afterSuccess }) s
  | .claim => claimSent (mapSlots (fun x => { x with claim := none }) s)
  | .companion i => mapSlots (fun x => { x with companions := x.companions.set i.val Slot.empty }) s
  | .point => pointSent s
  | .reply i => replySent i s
  | .temp => mapSlots (fun x => { x with temp := x.temp.afterSuccess }) s
  | .status => statusSent s
  | .notice => mapSlots (fun x => { x with notice := none }) s

/-- The attempt has succeeded at the end of its end field (R156): the seven bits after the acknowledge slot were
recessive, and the interframe of four bits follows. -/
def succeedAttempt (a : Attempt) (s : State) : State :=
  slotSent a.slot (mapLine (fun l => { l with
    attempt := none, failures := 0, state := .sending, quiet := 7
    idleAt := some (idleAfter s 4) }) s)

end Sys2Proof.Machine
end

