-- ==== Sys2Proof/Machine/Operands.lean ====
section
/-! DEFINITION. Every operand form of the frames: where each field stands in a payload and what its bytes mean (spec/09,
Payloads). Positions count from 0. A field of a payload that is too short reads as 0; the length checks come first. -/

namespace Sys2Proof.Machine

/-- 255 stands for none, and a number below `k` for itself; any other value names nothing. -/
inductive Choice (k : Nat) where
  | none
  | one (i : Fin k)
  | bad
  deriving DecidableEq, Repr

/-- A byte read as a number below `k` or 255 for none. -/
def choice (k n : Nat) : Choice k :=
  if n = 255 then .none
  else match finOf k n with
    | some i => .one i
    | Option.none => .bad

/-- The byte is outside its codes. -/
def Choice.isBad {k : Nat} (c : Choice k) : Bool :=
  match c with
  | .bad => true
  | _ => false

/-- The value of a choice that is not bad. -/
def Choice.value {k : Nat} (c : Choice k) : Option (Fin k) :=
  match c with
  | .one i => some i
  | _ => Option.none

/-- A zone set of two bytes from position `i`. -/
def zonesAt (p : List Byte) (i : Nat) : BitVec 16 := BitVec.ofNat 16 (u16At p i)

/-- The channels that an axis mask names, in channel order. -/
def maskAxes (mask : Nat) : List (Fin 4) := axisIds.filter fun i => mask.testBit i.val

/-- The place of a channel among those of a mask. -/
def maskPlace (mask : Nat) (i : Fin 4) : Nat := (maskAxes mask).idxOf i

/-- The signed four-byte values, one per channel of a mask, that begin at position `start`: the one of channel `i`. -/
def perAxis (p : List Byte) (start mask : Nat) (i : Fin 4) : Int := s32At p (start + 4 * maskPlace mask i)

/-- Three signed four-byte values from position `i`. -/
def threeAt (p : List Byte) (i : Nat) : Vector Int 3 := #v[s32At p i, s32At p (i + 4), s32At p (i + 8)]

/-- A value lies within a range, both ends included. -/
def within (lo hi x : Int) : Bool := decide (lo ≤ x) && decide (x ≤ hi)

end Sys2Proof.Machine
end

