-- ==== Sys2Proof/Machine/Status.lean ====
section
/-! DEFINITION. The contents of STATUS frames, section by section, in the order of their bytes (R197 to R204). -/

namespace Sys2Proof.Machine

/-- A number, or 255 for none. -/
def orNone {k : Nat} (x : Option (Fin k)) : Nat :=
  match x with
  | some i => i.val
  | none => 255

/-- The permit time left in ms, rounded down (R198). -/
def permitLeft (s : State) : Nat :=
  match s.motion.permit, s.motion.permitTimer with
  | .valid, some d => (d - s.uptime) / Config.msTicks
  | _, _ => 0

/-- The line state that a STATUS carries: RECEIVING while the station is joined (R198). -/
def statusLine (s : State) : Nat := if joined s then LineState.code .receiving else s.line.state.code

/-- STATION, index 0 (R198). -/
def stationRunning (s : State) : List Byte :=
  put8 s.station.mode.code ++ put8 s.station.controller ++ put8 (motionState s).code ++ put8 s.motion.permit.code ++
    put16 s.station.permitTime ++ put16 (permitLeft s) ++ put8 (statusLine s) ++ put8 s.line.failures ++
    put8 s.line.mutes ++ put32 s.line.lastSof.toNat ++ putBool s.overrun ++ putBool s.faultPending ++
    putBool s.pins.driveEnable ++ put8 s.axisCount ++ put8 s.motion.counter.toNat ++ put8 s.motion.queue.length ++
    put8 s.capture.points.length ++ put16 s.capture.counter.toNat

/-- STATION, index 1 (R198). -/
def stationSetup (s : State) : List Byte :=
  put16 s.station.accel ++ put16 s.station.stopDecel ++ put16 s.station.probeCap ++ putS32 s.station.halfWidth ++
    putS32 s.station.freeReach ++ put8 (orNone s.station.rackZone) ++ put16 s.thermal.mask.toNat ++
    put8 s.thermal.shift ++ put8 s.station.companion ++ put32 s.station.serveSet.toNat ++
    put8 (orNone s.station.serveAxis)

/-- AXIS (R199). -/
def axisStatus (s : State) (i : Fin 4) : List Byte :=
  let a := s.axis i
  let fig := scaleFigure s i
  putBool a.record.setUp ++ put8 a.record.kind.code ++ put8 a.record.role.code ++ putBool a.referenced ++
    put8 (endState s i).code ++ putS32 a.position ++ putS32 a.demand ++
    putS32 (if ampOn s then a.followErr else 0) ++ putS32 fig.value ++ put8 fig.quality.code ++ put8 a.ring.length

/-- The holder of a zone, 0 for free. -/
def holderCode (h : Option Hold) : Nat :=
  match h with
  | some x => x.holder
  | none => 0

/-- The standing of a zone (R200). -/
def standingCode (h : Option Hold) : Nat :=
  match h with
  | some x => if x.standing = .tentative then 1 else 2
  | none => 0

/-- The boundary b_z, with b_0 as 0 (R200). -/
def boundaryOf (s : State) (z : Fin 16) : Int := if z.val = 0 then 0 else s.zones.boundaries[z.val - 1]?.getD 0

/-- Whether b_z is loaded (R200). -/
def boundaryLoaded (s : State) (z : Fin 16) : Bool :=
  if z.val = 0 then false else s.zones.loaded[z.val - 1]?.getD false

/-- ZONES, index 0 to 15 (R200). -/
def zoneStatus (s : State) (z : Fin 16) : List Byte :=
  let h := s.zones.view.get z
  put8 (holderCode h) ++ put8 (standingCode h) ++ put16 ((h.map (holdAge s)).getD 0) ++ putS32 (boundaryOf s z) ++
    putBool (boundaryLoaded s z)

/-- The zones held FIRM by any holder (R200). -/
def allFirm (s : State) : ZoneSet := viewZones s fun h => standingCode h == 2

/-- The own claim record with its set (R200). -/
def claimStatus (c : Claim) : List Byte :=
  match c with
  | .none => put8 0 ++ put16 0
  | .queued z _ => put8 1 ++ put16 z.toNat
  | .window z _ => put8 2 ++ put16 z.toNat

/-- ZONES, index 16 (R200). -/
def viewStatus (s : State) : List Byte :=
  (ids16.flatMap fun z => put8 (holderCode (s.zones.view.get z))) ++ put16 (allFirm s).toNat ++
    claimStatus s.zones.claim ++ put8 (objectIds.countP fun i => (s.slots.objects.get i).frame.isSome)

/-- CHANNEL, index 0 to 15 (R201). -/
def channelStatus (s : State) (c : Fin 16) : List Byte :=
  let ch := s.thermal.channels.get c
  putBool (s.thermal.mask.getLsbD c.val) ++ put8 ch.state.code ++ putS32 ch.average ++ putS32 ch.last ++
    put8 ch.rejects ++ put8 ch.heldAge ++ put8 ch.settle

/-- CHANNEL, index 16 (R201). -/
def workStatus (s : State) : List Byte :=
  let t := s.thermal
  let fig := workFigure s
  put8 (if t.source = .peer then 1 else 0) ++ putS32 fig.value ++ put8 fig.quality.code ++ putS32 t.alphaW ++
    put8 t.peerStation ++ put8 t.peer.standing.code ++ putS32 t.peer.figure ++ put8 t.peer.quality.code ++
    putBool t.publish

/-- PROBE (R202). -/
def probeStatus (s : State) (k : Fin 16) : List Byte :=
  let r := s.probes.table.get k
  put8 r.id ++ put8 (orNone r.home) ++ put8 r.location.code ++ r.tip.toList.flatMap putS32 ++ put32 r.allowance ++
    putBool r.qualified ++ put32 r.touches

/-- PORT, index 0 to 7 (R203). -/
def portStatus (s : State) (p : Fin 8) : List Byte :=
  let r := s.probes.ports.get p
  putBool r.configured ++ r.approach.toList.flatMap putS32 ++ put8 r.insertAxis.val ++ putS32 r.insertDepth ++
    putBool r.lidOpen ++ put8 (lidState s p).code ++ putBool (present s p)

/-- The last outcome, its phase and its cause (R203; log entry 22). -/
def lastStatus (r : Option ChangeResult) : List Byte :=
  match r with
  | some x => put8 x.outcome.code ++ put8 x.phase ++ put8 x.cause.code
  | none => put8 255 ++ put8 0 ++ put8 0

/-- PORT, index 8 (R203). -/
def headStatus (s : State) : List Byte :=
  let c := s.probes.change
  putBool s.probes.unlockOut ++ put8 (lockState s).code ++ put8 s.probes.identity ++ putBool c.active ++
    put8 c.target ++ put8 c.oldId ++ put8 (orNone c.drop) ++ put8 (orNone c.pick) ++ put8 c.phaseNumber ++
    put8 c.deferred.code ++ lastStatus c.last

/-- One record of the point buffer (R204). DESIGN CHOICE (log entry 44): the announced field keeps its value once the record
waits no more. -/
def pointStatus (r : PointRecord) : List Byte :=
  put16 r.number.toNat ++ put8 r.segment.toNat ++ put8 r.probe ++ put8 r.flags.code ++ put8 r.state.code ++
    put8 (if r.state = .awaiting then r.expected else 0) ++ putBool r.announced

/-- POINTS (R204). -/
def pointsStatus (s : State) (i : Fin 16) : List Byte :=
  put8 s.capture.points.length ++ put16 s.capture.counter.toNat ++
    (match s.capture.points[i.val]? with
      | some r => pointStatus r
      | none => [])

/-- The content of a section and an index; `none` where R197 refuses them. -/
def statusContent (s : State) (sect index : Nat) : Option (List Byte) :=
  match sect with
  | 0 => if index = 0 then some (stationRunning s) else if index = 1 then some (stationSetup s) else none
  | 1 => (s.liveAxis? index).map (axisStatus s)
  | 2 => if index = 16 then some (viewStatus s) else (finOf 16 index).map (zoneStatus s)
  | 3 => if index = 16 then some (workStatus s) else (finOf 16 index).map (channelStatus s)
  | 4 => (finOf 16 index).map (probeStatus s)
  | 5 => if index = 8 then some (headStatus s) else (finOf 8 index).map (portStatus s)
  | 6 => (finOf 16 index).map (pointsStatus s)
  | _ => none

end Sys2Proof.Machine
end

