-- ==== Sys2Proof/Machine/Station.lean ====
section
/-! DEFINITION. The frame interpreter and station control: what taking a frame does before its kind is looked at, the
answer of a command, the answer of a QUERY, who may command, and the state after a full reset (spec/08, spec/09,
spec/10). -/

namespace Sys2Proof.Machine

/-! ### Taking a frame (R150, R151, R156, R161, R163, R164) -/

/-- The line controller can follow a frame of another station: it is not OFFLINE and no attempt of its own is in flight
(R164, R165). -/
def followsFrames (s : State) : Bool := s.line.state != .offline && s.line.attempt.isNone

/-- The station drives the acknowledge slot in this line state (R156). -/
def acknowledges (s : State) : Bool := joined s || s.line.state == .listenAnnouncing

/-- The line state once a frame has been taken: a joined station is RECEIVING until the interframe ends, and LISTEN
integrating becomes announcing (R151, R160). -/
def takenState (l : LineState) : LineState :=
  match l with
  | .idle | .receiving | .arbitrating | .sending => .receiving
  | .listenIntegrating => .listenAnnouncing
  | .listenAnnouncing => .listenAnnouncing
  | .mute => .mute
  | .offline => .offline

/-- The end of the end field of a frame taken without error (R151, R156, R160, R161). DESIGN CHOICE (log entry 47): LISTEN
integrating becomes announcing before the frame is interpreted. -/
def frameTaken (f : RxFrame) (s : State) : State :=
  let s1 := mapLine (fun l => { l with
    lastSof := f.sof, quiet := f.quiet, acked := acknowledges s, state := takenState l.state
    idleAt := some (idleAfter s 4) }) s
  if s.line.state = .listenIntegrating then mapSlots (fun x => { x with hello := true }) s1 else s1

/-- A correct frame with the station's own number reveals a duplicate number: it is not acknowledged and the station goes
OFFLINE (R163). -/
def duplicateFound (sof : Tick) (s : State) : State :=
  enterOffline (mapLine (fun l => { l with lastSof := sof, acked := false }) s)

/-- The interpreter looks at a frame: its class is that of its kind and its sender is a station (R164). -/
def interpreted (kind : Nat) (f : RxFrame) : Bool :=
  classOf kind == some f.cls.toNat && f.sender != 0 && f.sender != 31

/-- A frame of kind `kind` is taken and `body` is what its kind does; the zone unit's check of a queued claim follows at
the end of every frame interpreted (R90, R164). -/
def receive (kind : Nat) (f : RxFrame) (body : State → State) (s : State) : State :=
  timed f.tick (fun s =>
    if followsFrames s then
      if f.sender.toNat = s.line.number then duplicateFound f.sof s
      else if interpreted kind f then overlapCheck (body (frameTaken f s))
      else frameTaken f s
    else s) s

/-- A destination byte names the station: its own number or 0 (R168). -/
def addressed (s : State) (dest : Nat) : Bool := dest == s.line.number || dest == 0

/-! ### Who may command (R188) -/

/-- MOVE, REFERENCE, PROBE CHANGE, DATUM and DISARM. -/
def runAccess (s : State) (sender : Nat) : Option ReplyCode :=
  if s.station.mode ≠ .run then some .wrongState
  else if sender ≠ s.station.controller then some .notController
  else none

/-- CLEAR, PROBE SET and RESTART. -/
def anyAccess (s : State) (sender : Nat) : Option ReplyCode :=
  if s.station.mode = .run ∧ sender ≠ s.station.controller then some .notController else none

/-- ARM and the setup frames. -/
def setupAccess (s : State) (_ : Nat) : Option ReplyCode :=
  if s.station.mode = .run then some .wrongState else none

/-! ### Commands and their answers (R167 to R171) -/

/-- What a command comes to: the code and detail of its REPLY, and the state after its effects. -/
structure Answer where
  code : ReplyCode
  detail : Nat
  after : State
  deriving DecidableEq, Repr

/-- A command refused: it changes no state (R188). -/
def refuse (code : ReplyCode) (s : State) : Answer := { code := code, detail := 0, after := s }

/-- A command carried out, answered DONE. -/
def doneAnswer (s : State) : Answer := { code := .done, detail := 0, after := s }

/-- A command past the overrun check is answered (R169, R171, R188). -/
def answer (kind sender : Nat) (access : State → Nat → Option ReplyCode) (run : State → Answer) (s : State) : State :=
  let a := match access s sender with
    | some code => refuse code s
    | none => run s
  placeReply { dest := sender, kind := kind, code := a.code, detail := a.detail } a.after

/-- A command of kind `kind`: ignored without a destination or for another station, turned away when both reply slots are
held, and otherwise answered (R167 to R169). -/
def command (kind : Nat) (access : State → Nat → Option ReplyCode) (run : RxFrame → State → Answer) (f : RxFrame)
    (s : State) : State :=
  receive kind f (fun s =>
    if f.payload = [] then s
    else if !addressed s (byteAt f.payload 0) then s
    else if repliesHeld s then setOverrun s
    else answer kind f.sender.toNat access (run f) s) s

/-! ### QUERY (R170, R197) -/

/-- A STATUS is built in its slot, or the QUERY is turned away (R170, R172). -/
def buildStatus (sender sect index : Nat) (content : List Byte) (s : State) : State :=
  if s.slots.status.isSome then setOverrun s
  else
    let s1 := mapSlots (fun x => { x with
      status := some { dest := sender, sect := sect, index := index, content := content } }) s
    if sect = 0 ∧ index = 0 then { s1 with overrunSince := false } else s1

/-- A QUERY that R197 refuses. -/
def refuseQuery (sender : Nat) (s : State) : State :=
  if repliesHeld s then setOverrun s
  else placeReply { dest := sender, kind := 18, code := .badValue, detail := 0 } s

/-- A QUERY addressed to the station (R197, R170). -/
def answerQuery (f : RxFrame) (s : State) : State :=
  let sect := byteAt f.payload 1
  let index := byteAt f.payload 2
  if f.payload.length ≠ 3 then refuseQuery f.sender.toNat s
  else
    match statusContent s sect index with
    | some content => buildStatus f.sender.toNat sect index content s
    | none => refuseQuery f.sender.toNat s

/-- A QUERY taken (R167, R168, R170). -/
def query (f : RxFrame) (s : State) : State :=
  receive 18 f (fun s =>
    if f.payload = [] then s
    else if !addressed s (byteAt f.payload 0) then s
    else answerQuery f s) s

/-! ### After a full reset (R22, R39, R55, R82, R104, R125, R147, R166, R180, R184) -/

/-- The machine as a full reset leaves it, with the straps read at its release. The input levels, the lock output and the
waiting commands are those it had; the tick counter begins at 0 (log entry 7). -/
def afterReset (x : Straps) (s : State) : State :=
  { uptime := 0
    freeIx := s.freeIx + 1
    inReset := false
    pins := s.pins
    axisCount := Straps.count x
    axes := Vector.replicate 4 Axis.afterReset
    latch := none
    faultPending := false
    gate := if s.pins.driveEnable && !Straps.fault x then .normal else .disabled
    thermal := Thermal.afterReset
    motion := Sequencer.afterReset
    zones := ZoneUnit.afterReset
    capture := { reseat := .spent, reseatTimer := if s.pins.deflected then none else some Config.reseatTicks,
                 points := [], counter := 0, requests := [] }
    probes := ProbeUnit.afterReset s.probes.unlockOut
    line := Line.afterReset x
    slots := Slots.empty
    notices := Vector.replicate 9 Latch.afterReset
    overrun := false
    overrunSince := false
    station := Station.afterReset (Straps.fault x)
    pending := s.pending }

end Sys2Proof.Machine
end

