-- ==== Sys2Proof/Machine/AxisEvents.lean ====
section
/-! DEFINITION. The meanings of the axis commands: scale transitions, end-of-travel inputs, the servo sample, the settle
timeout, the reference mark and the drive-enable input (spec/01, spec/04). -/

namespace Sys2Proof.Machine

/-! ### Scale (R7, R8) -/

/-- The place of a phase state in the order of rising counts: phase A leads phase B (R7; log entry 28). -/
def phaseIndex (a b : Bool) : BitVec 2 :=
  match a, b with
  | false, false => 0
  | true, false => 1
  | true, true => 2
  | false, true => 3

/-- A legal transition moves the position by one count (R7); one that leaves the 32-bit range is an encoder fault
(R8). -/
def count (i : Fin 4) (up : Bool) (s : State) : State :=
  let a := s.axis i
  let x := if up then a.position + 1 else a.position - 1
  if inInt32 x then s.setAxis i { a with position := x } else encoderFault i .overrange s

/-- The phases of channel `i` have changed from those of `old` (R7, R8). -/
def transition (i : Fin 4) (old : ChannelPins) (a b : Bool) (s : State) : State :=
  if !s.live i then s
  else if a ≠ old.phaseA ∧ b ≠ old.phaseB then encoderFault i .encoder s
  else count i (phaseIndex a b == phaseIndex old.phaseA old.phaseB + 1) s

/-- The inputs of one channel changed. -/
def mapChannelPins (i : Fin 4) (f : ChannelPins → ChannelPins) (p : Pins) : Pins :=
  { p with channels := p.channels.set i.val (f (p.channels.get i)) }

/-- SCALE_TRANSITION (R7). -/
def execScaleTransition (i : Fin 4) (a b : Bool) (t : Tick) (s : State) : Host.Outcome State Fault Refusal :=
  .next (input t (mapChannelPins i fun x => { x with phaseA := a, phaseB := b })
    (fun before => transition i (before.pins.channels.get i) a b) s)

/-! ### End of travel (R10) -/

/-- The level of an end-of-travel input. -/
def setEnd (e : TravelEnd) (active : Bool) (x : ChannelPins) : ChannelPins :=
  match e with
  | .min => { x with atMin := active }
  | .max => { x with atMax := active }

/-- The cause of a motion fault at an end of travel (R10). -/
def endCause (e : TravelEnd) : FaultCause :=
  match e with
  | .min => .endMin
  | .max => .endMax

/-- END_OF_TRAVEL_INPUT (R10). -/
def execEndOfTravelInput (i : Fin 4) (e : TravelEnd) (active : Bool) (t : Tick) (s : State) :
    Host.Outcome State Fault Refusal :=
  .next (input t (mapChannelPins i (setEnd e active))
    (fun _ s => if active && s.live i then motionFault i (endCause e) s else s) s)

/-! ### The servo sample (R11 to R14, R69 to R72; log entries 12 and 13) -/

/-- Steps 1 and 2: every live channel samples its position into its ring (R14). -/
def sampleRings (s : State) : State := s.mapAxes fun i a => if s.live i then appendSample s.tick a else a

/-- The faults that the channels find in step 4, in channel order; none with the amplifiers off (R10, R11). -/
def periodFaults (previous : Vector Int 4) (s : State) : List (Fin 4 × FaultCause) :=
  if ampOn s then s.liveAxes.flatMap fun i => sampleFaults s (previous.get i) i else []

/-- The motion faults of a period take effect one after the other (R9, R14). -/
def raiseFaults (fs : List (Fin 4 × FaultCause)) (s : State) : State :=
  fs.foldl (fun s f => motionFault f.1 f.2 s) s

/-- Step 5: the drive demands, and the following error of the sample (R11, R13). -/
def sendDrives (previous : Vector Int 4) (s : State) : State :=
  s.mapAxes fun i a =>
    if !s.live i then a
    else if ampOn s then { a with followErr := a.error, driveOut := driveDemand (previous.get i) a }
    else { a with followErr := 0, driveOut := 0 }

/-- The head ends when its demand has come to rest, at its search end, or when it has settled (R70 to R72). -/
def endOfPeriod (s : State) : State :=
  match s.motion.queue with
  | [] => s
  | seg :: _ =>
    match seg.state with
    | .stopping => if atRest seg then endHead (seg.outcome.getD .halted) s else s
    | .moving =>
      if seg.traj.arrived then
        (if seg.kind = .probe then endAtOnce .missed s
         else if inPosition s seg then endHead .arrived s
         else s)
      else s
    | _ => s

/-- The servo sample (R14). -/
def servo (s : State) : State :=
  let s1 := settleAll (sampleRings s)
  let previous := demands s1
  let s2 := takeDemands s1
  endOfPeriod (sendDrives previous (raiseFaults (periodFaults previous s2) s2))

/-- SERVO_SAMPLE (R14). -/
def execServoSample (t : Tick) (s : State) : Host.Outcome State Fault Refusal := .next (timed t servo s)

/-- 500 ms have passed since demand arrival (R71). -/
def settleExpire (s : State) : State :=
  match s.motion.queue with
  | [] => s
  | seg :: _ => if seg.state = .moving ∧ s.due seg.traj.settle then endHead .unsettled s else s

/-- SETTLE_TIMEOUT (R71). -/
def execSettleTimeout (t : Tick) (s : State) : Host.Outcome State Fault Refusal := .next (timed t settleExpire s)

/-! ### The reference mark (R17) -/

/-- The offset is added to the position, the demand and every ring entry, and the channel is referenced (R17). -/
def offsetAxis (n : Nat) (d : Int) (a : Axis) : Axis :=
  { a with
    position := fit32 n (a.position + d)
    demand := fit32 n (a.demand + d)
    ring := a.ring.map fun e => { e with count := fit32 n (e.count + d) }
    referenced := true }

/-- The trajectory of the search moves with its axis, and the mark is taken (R17). -/
def markSegment (i : Fin 4) (d : Int) (seg : Segment) : Segment :=
  { seg with traj := { seg.traj with
      start := seg.traj.start.set i.val (seg.traj.start.get i + d), marked := true } }

/-- A rising edge of the reference-mark input of channel `i` (R17, R18). -/
def referenceMark (i : Fin 4) (s : State) : State :=
  match s.motion.queue with
  | [] => s
  | seg :: _ =>
    if seg.driving && seg.kind == .reference && seg.axis == i && !seg.traj.marked && s.live i then
      let a := s.axis i
      let d := a.record.refValue - a.position
      mapHead (markSegment i d) (s.setAxis i (offsetAxis s.freeIx d a))
    else s

/-- REFERENCE_MARK (R17). -/
def execReferenceMark (i : Fin 4) (t : Tick) (s : State) : Host.Outcome State Fault Refusal :=
  .next (timed t (referenceMark i) s)

/-! ### The drive-enable input (R19, R20) -/

/-- DRIVE_ENABLE_FALL (R19). -/
def execDriveEnableFall (t : Tick) (s : State) : Host.Outcome State Fault Refusal :=
  .next (input t (fun p => { p with driveEnable := false })
    (fun _ s => latchNotice (.driveChange false) (drivesOff s)) s)

/-- Motion leaves DISABLED on a rise of drive-enable (R20). -/
def enableRise (s : State) : State :=
  holdAtPositions { s with gate := if s.faultPending then .faulted else .normal }

/-- DRIVE_ENABLE_RISE (R20). -/
def execDriveEnableRise (t : Tick) (s : State) : Host.Outcome State Fault Refusal :=
  .next (input t (fun p => { p with driveEnable := true })
    (fun _ s => latchNotice (.driveChange true) (enableRise s)) s)

end Sys2Proof.Machine
end

