-- ==== Sys2Proof/Machine/Commands.lean ====
section
/-! DEFINITION. The meanings of the motion, probe and station commands: MOVE, REFERENCE, CLEAR, PROBE CHANGE, PROBE SET,
DATUM, ARM, DISARM and RESTART (spec/01, spec/03, spec/04, spec/07, spec/10). -/

namespace Sys2Proof.Machine

/-! ### MOVE (R58 to R62) -/

/-- Some live channel of the list satisfies `p`. -/
def someAxis (s : State) (l : List (Fin 4)) (p : Axis → Bool) : Bool := l.any fun i => p (s.axis i)

/-- Steps 3 to 5 of R58 for a segment whose mask names `l`. -/
def moveBlocked (s : State) (l : List (Fin 4)) : Option ReplyCode :=
  if s.probes.change.active ∨ s.gate ≠ .normal then some .busy
  else if 8 ≤ s.motion.queue.length then some .queueFull
  else if someAxis s l (fun a => !a.referenced) || unreferenced s (reachAxis? s) || unreferenced s (zoneAxis? s) then
    some .notReferenced
  else none

/-- The form of a MOVE payload (step 2 of R58), `extra` bytes following the targets. -/
def moveForm (s : State) (p : List Byte) (extra : Nat) : Bool :=
  let mask := byteAt p 4
  decide (mask ≠ 0) && decide (mask < 16) && (maskAxes mask).all s.live &&
    p.length == 5 + 4 * (maskAxes mask).length + extra

/-- The largest max speed among the axes of the mask (R59). -/
def maxSpeedOf (s : State) (l : List (Fin 4)) : Nat := (l.map fun i => (s.axis i).record.maxSpeed).foldl max 0

/-- The raw targets of a MOVE (R59, R62): the inverse correction on the axes of the mask, the start point elsewhere. -/
def moveTargets (s : State) (p : List Byte) (start : Vector Int 4) : Vector Int 4 :=
  let mask := byteAt p 4
  tab4 fun i => if mask.testBit i.val then inverse s i (perAxis p 5 mask i) else start.get i

/-- A raw target lies outside the soft limits of its axis (R59). -/
def outOfSoftLimits (s : State) (l : List (Fin 4)) (targets : Vector Int 4) : Bool :=
  l.any fun i => !within (s.axis i).record.softMin (s.axis i).record.softMax (targets.get i)

/-- A segment of the room is accepted (R56, R62). -/
def acceptSegment (seg : Segment) (s : State) : Answer :=
  { code := .accepted, detail := seg.number.toNat, after := enqueue seg s }

/-- A POSITION MOVE past the mode and controller checks (R58, R59, R62). -/
def runPosition (p : List Byte) (s : State) : Answer :=
  let l := maskAxes (byteAt p 4)
  if !moveForm s p 0 then refuse .badValue s
  else
    match moveBlocked s l with
    | some code => refuse code s
    | none =>
      let speed := min (u16At p 2) (maxSpeedOf s l)
      let targets := moveTargets s p (startPoint s)
      if u16At p 2 = 0 then refuse .badValue s
      else if outOfSoftLimits s l targets then refuse .outOfRange s
      else acceptSegment (newSegment s .room .position 0 targets none speed) s

/-- The overtravel speed of a probe (R60). -/
def overtravelSpeed (s : State) (allowance : Nat) : Nat := isqrt (2 * s.station.stopDecel * allowance)

/-- The speed of a PROBE MOVE after the clamps of R60; 0 where it is refused. -/
def probeSpeed (s : State) (speed distance : Nat) : Nat :=
  match onHead? s with
  | some (_, r) =>
    if 1 ≤ distance ∧ distance ≤ 2000000 then min speed (min s.station.probeCap (overtravelSpeed s r.allowance)) else 0
  | none => 0

/-- The search end beyond a raw target (R61). -/
def searchEnd (s : State) (start targets : Vector Int 4) (distance : Nat) : Vector Int 4 :=
  let d := deltas start targets
  let len := pathLength s d
  tab4 fun i =>
    if s.live i then
      clampInt (s.axis i).record.softMin (s.axis i).record.softMax
        (targets.get i + roundDiv (distance * d.get i) len)
    else targets.get i

/-- Every change of a segment is 0 (R61). -/
def noTravel (s : State) (start targets : Vector Int 4) : Bool :=
  s.liveAxes.all fun i => decide (targets.get i = start.get i)

/-- A PROBE MOVE past the mode and controller checks (R58 to R62). -/
def runProbe (p : List Byte) (s : State) : Answer :=
  let l := maskAxes (byteAt p 4)
  if !moveForm s p 4 then refuse .badValue s
  else
    match moveBlocked s l with
    | some code => refuse code s
    | none =>
      let distance := u32At p (5 + 4 * l.length)
      let speed := probeSpeed s (min (u16At p 2) (maxSpeedOf s l)) distance
      let start := startPoint s
      let targets := moveTargets s p start
      if speed = 0 then refuse .badValue s
      else if outOfSoftLimits s l targets then refuse .outOfRange s
      else if noTravel s start targets then refuse .badValue s
      else acceptSegment (newSegment s .room .probe 0 targets (some (searchEnd s start targets distance)) speed) s

/-- A MOVE by its kind byte; a kind that is neither is refused (R58). -/
def runMove (f : RxFrame) (s : State) : Answer :=
  match byteAt f.payload 1 with
  | 0 => runPosition f.payload s
  | 1 => runProbe f.payload s
  | _ => refuse .badValue s

/-- MOVE_POSITION (R58). -/
def execMovePosition (f : RxFrame) (s : State) : Host.Outcome State Fault Refusal :=
  .next (command 9 runAccess runMove f s)

/-- MOVE_PROBE (R60). -/
def execMoveProbe (f : RxFrame) (s : State) : Host.Outcome State Fault Refusal :=
  .next (command 9 runAccess runMove f s)

/-! ### REFERENCE (R16, R63) -/

/-- The position of the reach axis at the start of a new segment (R16). -/
def reachAtStart (s : State) (r : Fin 4) : Int :=
  match s.motion.queue.getLast? with
  | some seg => (rawEnd s seg).get r
  | none => (s.axis r).position

/-- The condition on the reach axis for a REFERENCE of the zone axis (R16). -/
def reachClear (s : State) : Bool :=
  match reachAxis? s with
  | some r => (s.axis r).referenced && decide (reachAtStart s r ≤ s.station.freeReach)
  | none => false

/-- A REFERENCE past the mode and controller checks (R16, R63). -/
def runReference (f : RxFrame) (s : State) : Answer :=
  if f.payload.length ≠ 2 then refuse .badValue s
  else if s.probes.change.active ∨ s.gate ≠ .normal then refuse .busy s
  else if 8 ≤ s.motion.queue.length then refuse .queueFull s
  else
    match s.liveAxis? (byteAt f.payload 1) with
    | none => refuse .badValue s
    | some i =>
      let r := (s.axis i).record
      if !r.setUp then refuse .badValue s
      else if r.role = .zoneAxis ∧ reachClear s = false then refuse .notReferenced s
      else acceptSegment (newSegment s .room .reference i (startPoint s) none r.refSpeed) s

/-- REFERENCE (R63). -/
def execReference (f : RxFrame) (s : State) : Host.Outcome State Fault Refusal :=
  .next (command 10 runAccess runReference f s)

/-! ### CLEAR (R21) -/

/-- CLEAR past the mode and controller checks (R21). -/
def runClear (f : RxFrame) (s : State) : Answer :=
  if f.payload.length ≠ 1 then refuse .badValue s
  else if !s.pins.driveEnable then refuse .busy s
  else if s.gate = .faulted then doneAnswer (holdAtPositions { s with faultPending := false, gate := .normal })
  else doneAnswer { s with faultPending := false }

/-- CLEAR (R21). -/
def execClear (f : RxFrame) (s : State) : Host.Outcome State Fault Refusal := .next (command 11 anyAccess runClear f s)

/-! ### PROBE CHANGE (R132, R133) -/

/-- PROBE CHANGE past the mode and controller checks (R132, R133). -/
def runProbeChange (f : RxFrame) (s : State) : Answer :=
  match checkChange s f.payload with
  | .answer code detail => { code := code, detail := detail, after := s }
  | .accept drop pick =>
    { code := .accepted, detail := 0, after := acceptChange (byteAt f.payload 1) drop pick s }

/-- PROBE_CHANGE (R132). -/
def execProbeChange (f : RxFrame) (s : State) : Host.Outcome State Fault Refusal :=
  .next (command 12 runAccess runProbeChange f s)

/-! ### PROBE SET (R127, R128) -/

/-- The form of a PROBE SET (step 1 of R127). -/
def probeSetForm (p : List Byte) : Bool :=
  p.length == 21 && decide (byteAt p 1 < 16) && !(choice 8 (byteAt p 3)).isBad &&
    (threeAt p 4).toList.all (within (-3000000) 3000000) && decide (u32At p 16 ≤ 200000) && decide (byteAt p 20 ≤ 1)

/-- Another record than the one at index `k` satisfies `p`; empty records are not looked at (R127). -/
def otherRecord (s : State) (k : Fin 16) (p : ProbeRecord → Bool) : Bool :=
  ids16.any fun i => i != k && (s.probes.table.get i).id != 0 && p (s.probes.table.get i)

/-- The location derived for a record as the head and the ports stand (R128). -/
def deriveLocation (s : State) (id : Nat) (home : Option (Fin 8)) : Location :=
  if lockState s = .locked ∧ s.probes.identity = id then .onHead
  else match home with
    | some p => if present s p then .inPort else .absent
    | none => .absent

/-- An accepted PROBE SET (R128). -/
def writeProbe (k : Fin 16) (p : List Byte) (s : State) : State :=
  let id := byteAt p 2
  if id = 0 then setProbe k ProbeRecord.empty s
  else
    let home := (choice 8 (byteAt p 3)).value
    let location := deriveLocation s id home
    let r : ProbeRecord :=
      { id := id, home := home, location := location, tip := threeAt p 4, allowance := u32At p 16,
        qualified := byteAt p 20 == 1, touches := 0 }
    let s1 := if location = .onHead then
        mapProbes (fun x => if x.location = .onHead then { x with location := .unknown } else x) s
      else s
    setProbe k r s1

/-- PROBE SET past the mode and controller checks (R127). -/
def runProbeSet (f : RxFrame) (s : State) : Answer :=
  let p := f.payload
  match finOf 16 (byteAt p 1) with
  | none => refuse .badValue s
  | some k =>
    let id := byteAt p 2
    let home := (choice 8 (byteAt p 3)).value
    if !probeSetForm p then refuse .badValue s
    else if s.probes.change.active then refuse .busy s
    else if (s.probes.table.get k).location = .onHead ∧ motionState s ≠ .idle ∧ motionState s ≠ .held then
      refuse .busy s
    else if id ≠ 0 ∧ otherRecord s k (fun r => r.id == id) = true then refuse .badValue s
    else if id ≠ 0 ∧ home ≠ none ∧ otherRecord s k (fun r => r.home == home) = true then refuse .badValue s
    else doneAnswer (writeProbe k p s)

/-- PROBE_SET (R127). -/
def execProbeSet (f : RxFrame) (s : State) : Host.Outcome State Fault Refusal :=
  .next (command 13 anyAccess runProbeSet f s)

/-! ### DATUM (R51, R196) -/

/-- The datums of the axes of the mask are written (R51). -/
def writeDatums (p : List Byte) (s : State) : State :=
  let mask := byteAt p 1
  s.mapAxes fun i a => if mask.testBit i.val then { a with comp := { a.comp with datum := perAxis p 2 mask i } } else a

/-- DATUM past the mode and controller checks (R196). -/
def runDatum (f : RxFrame) (s : State) : Answer :=
  let mask := byteAt f.payload 1
  if mask = 0 ∨ 16 ≤ mask ∨ (maskAxes mask).all s.live = false ∨
      f.payload.length ≠ 2 + 4 * (maskAxes mask).length then refuse .badValue s
  else doneAnswer (writeDatums f.payload s)

/-- DATUM (R196). -/
def execDatum (f : RxFrame) (s : State) : Host.Outcome State Fault Refusal := .next (command 14 runAccess runDatum f s)

/-! ### ARM, DISARM and RESTART (R185, R192, R193, R195) -/

/-- An accepted ARM (R193). -/
def arm (sender ms : Nat) (s : State) : State :=
  let ms1 := max 50 (min 1000 ms)
  holdAtPositions
    { s with
      station := { s.station with mode := .run, controller := sender, permitTime := ms1 }
      motion := { s.motion with permit := .valid, permitTimer := some (s.uptime + ms1 * Config.msTicks) } }

/-- ARM past the mode check (R192, R193). -/
def runArm (f : RxFrame) (s : State) : Answer :=
  if f.payload.length ≠ 3 then refuse .badValue s
  else if s.liveAxes.all (fun i => (s.axis i).record.setUp) then
    doneAnswer (arm f.sender.toNat (u16At f.payload 1) s)
  else refuse .badValue s

/-- ARM (R193). -/
def execArm (f : RxFrame) (s : State) : Host.Outcome State Fault Refusal := .next (command 15 setupAccess runArm f s)

/-- An accepted DISARM (R22, R100, R195). -/
def disarm (s : State) : State :=
  let s1 := releaseZones (firmZones s) (withdrawClaim s)
  cutDrives
    { s1 with
      station := { s1.station with mode := .setup, controller := 0 }
      motion := { s1.motion with permit := .none, permitTimer := none } }

/-- DISARM past the mode and controller checks (R195). -/
def runDisarm (f : RxFrame) (s : State) : Answer :=
  if f.payload.length ≠ 1 then refuse .badValue s
  else if s.probes.change.active ∨ s.motion.queue ≠ [] ∨ (motionState s ≠ .idle ∧ motionState s ≠ .held) then
    refuse .busy s
  else doneAnswer (disarm s)

/-- DISARM (R195). -/
def execDisarm (f : RxFrame) (s : State) : Host.Outcome State Fault Refusal :=
  .next (command 16 runAccess runDisarm f s)

/-- The head segment is MOVING or STOPPING. -/
def headDriving (s : State) : Bool :=
  match s.motion.queue with
  | seg :: _ => seg.driving
  | [] => false

/-- RESTART past the mode and controller checks (R185, R186; log entry 20). -/
def runRestart (f : RxFrame) (s : State) : Answer :=
  if s.probes.change.active ∨ headDriving s = true then refuse .busy s
  else if f.payload.length ≠ 1 then refuse .badValue s
  else
    let s1 := { s with station := { s.station with restartPending := true } }
    doneAnswer (if s.line.state = .mute then restartNow s1 else s1)

/-- RESTART (R185). -/
def execRestart (f : RxFrame) (s : State) : Host.Outcome State Fault Refusal :=
  .next (command 17 anyAccess runRestart f s)

end Sys2Proof.Machine
end

