-- ==== Sys2Proof/Machine/Frames.lean ====
section
/-! DEFINITION. The meanings of the received frames that are not commands (spec/09, Taking a frame). A frame of these kinds
whose length does not fit its kind is acknowledged and ignored (R167). -/

namespace Sys2Proof.Machine

/-- The effect of a frame whose length must be `len` (R167). -/
def sized (len : Nat) (f : RxFrame) (body : State → State) (s : State) : State :=
  if f.payload.length = len then body s else s

/-- HALT (R76, R142). -/
def execHalt (f : RxFrame) (s : State) : Host.Outcome State Fault Refusal :=
  .next (receive 0 f (sized 1 f fun s =>
    if addressed s (byteAt f.payload 0) then haltMotion .halted s else s) s)

/-- A TOUCH becomes a companion request at its start of frame less its age (R119). -/
def hearTouch (f : RxFrame) (s : State) : State :=
  if joined s && s.station.serveSet.getLsbD f.sender.toNat then
    takeRequest { toucher := f.sender.toNat, point := BitVec.ofNat 16 (u16At f.payload 0),
                  instant := f.sof - BitVec.ofNat 32 (u24At f.payload 2) } s
  else s

/-- TOUCH_RECEIVED (R119 to R122). -/
def execTouchReceived (f : RxFrame) (s : State) : Host.Outcome State Fault Refusal :=
  .next (receive 1 f (sized 6 f (hearTouch f)) s)

/-- An objection of `o` against the station itself: its claim fails (R96), and FIRM zones lost make it late (R97). -/
def objectedSelf (o : Nat) (lost : ZoneSet) (s : State) : State :=
  let s1 := failWindow s
  if lost = 0 then s1 else zonesLost lost (latchNotice (.zoneConflict o lost true) s1)

/-- A ZONE OBJECT of station `o` (R95 to R97). -/
def takeObject (o claimant : Nat) (zones : ZoneSet) (s : State) : State :=
  if claimant = 0 ∨ claimant = 31 ∨ zones = 0 then s
  else
    let s1 := hearObject o claimant zones s
    if claimant = s.line.number then objectedSelf o (firmAmong zones s) s1 else s1

/-- ZONE_OBJECT_RECEIVED (R95). -/
def execZoneObjectReceived (f : RxFrame) (s : State) : Host.Outcome State Fault Refusal :=
  .next (receive 2 f
    (sized 3 f (takeObject f.sender.toNat (byteAt f.payload 0) (zonesAt f.payload 1))) s)

/-- A HELLO of station `o` (R37, R79, R102). -/
def hearHello (o : Nat) (s : State) : State :=
  let s1 := freeHeldBy o allZones s
  let s2 := if o = s.thermal.peerStation then
      { s1 with thermal := { s1.thermal with peer := { s1.thermal.peer with standing := .gone, timer := none } } }
    else s1
  if s.station.mode = .run ∧ o = s.station.controller then permitExpire true s2 else s2

/-- HELLO_RECEIVED (R102). -/
def execHelloReceived (f : RxFrame) (s : State) : Host.Outcome State Fault Refusal :=
  .next (receive 3 f (sized 2 f (hearHello f.sender.toNat)) s)

/-- ZONE_RELEASE_RECEIVED (R101). -/
def execZoneReleaseReceived (f : RxFrame) (s : State) : Host.Outcome State Fault Refusal :=
  .next (receive 4 f (sized 2 f (freeHeldBy f.sender.toNat (zonesAt f.payload 0))) s)

/-- ZONE_CLAIM_RECEIVED (R92, R93). -/
def execZoneClaimReceived (f : RxFrame) (s : State) : Host.Outcome State Fault Refusal :=
  .next (receive 5 f (sized 2 f (hearClaim f.sender.toNat (zonesAt f.payload 0))) s)

/-- A COMPANION is merged when it is addressed to the station's own number (R118, R168). -/
def hearCompanion (f : RxFrame) (s : State) : State :=
  if byteAt f.payload 0 = s.line.number then
    mergeCompanion f.sender.toNat (BitVec.ofNat 16 (u16At f.payload 1)) (s32At f.payload 3) (byteAt f.payload 7) s
  else s

/-- COMPANION_RECEIVED (R118). -/
def execCompanionReceived (f : RxFrame) (s : State) : Host.Outcome State Fault Refusal :=
  .next (receive 6 f (sized 8 f (hearCompanion f)) s)

/-- A PERMIT of the controlling station in RUN (R78, R143). -/
def hearPermit (o : Nat) (s : State) : State :=
  if s.station.mode = .run ∧ o = s.station.controller then permitRenew s else s

/-- PERMIT (R78). -/
def execPermit (f : RxFrame) (s : State) : Host.Outcome State Fault Refusal :=
  .next (receive 7 f (sized 0 f (hearPermit f.sender.toNat)) s)

/-- The quality of a TEMP; any other byte is no quality (R35). -/
def qualityOf (n : Nat) : Option Quality :=
  match n with
  | 0 => some .fresh
  | 1 => some .stale
  | 2 => some .absent
  | _ => none

/-- A TEMP of the named peer (R35): the recency timer runs 5 s from its start of frame. -/
def takeTemp (figure : Int) (q : Quality) (sof : Tick) (s : State) : State :=
  { s with thermal := { s.thermal with peer :=
    { standing := .heard, figure := figure, quality := q, timer := some (s.uptime - s.ago sof + Config.peerTicks) } } }

/-- A TEMP heard (R35). -/
def hearTemp (f : RxFrame) (s : State) : State :=
  if s.thermal.source = .peer ∧ f.sender.toNat = s.thermal.peerStation then
    let figure := s32At f.payload 0
    match qualityOf (byteAt f.payload 4) with
    | some q => if within (-10000) 60000 figure then takeTemp figure q f.sof s else s
    | none => s
  else s

/-- TEMP_RECEIVED (R35). -/
def execTempReceived (f : RxFrame) (s : State) : Host.Outcome State Fault Refusal :=
  .next (receive 28 f (sized 5 f (hearTemp f)) s)

/-- POINT_RECEIVED: acknowledged, and nothing more (R123). -/
def execPointReceived (f : RxFrame) (s : State) : Host.Outcome State Fault Refusal := .next (receive 8 f id s)

/-- REPLY_RECEIVED: acknowledged and ignored (R167). -/
def execReplyReceived (f : RxFrame) (s : State) : Host.Outcome State Fault Refusal := .next (receive 27 f id s)

/-- STATUS_RECEIVED: acknowledged and ignored (R197). -/
def execStatusReceived (f : RxFrame) (s : State) : Host.Outcome State Fault Refusal := .next (receive 29 f id s)

/-- NOTICE_RECEIVED: acknowledged and ignored (R179). -/
def execNoticeReceived (f : RxFrame) (s : State) : Host.Outcome State Fault Refusal := .next (receive 30 f id s)

/-- UNUSED_KIND_FRAME: a frame of kind 31 is acknowledged and ignored (R164). -/
def execUnusedKindFrame (f : RxFrame) (s : State) : Host.Outcome State Fault Refusal := .next (receive 31 f id s)

end Sys2Proof.Machine
end

