-- ==== Sys2Proof/Machine/LineEvents.lean ====
section
/-! DEFINITION. The meanings of the line controller's own events: MUTE and LISTEN, attempts and their outcomes, receive
errors and duplicate numbers (spec/08). -/

namespace Sys2Proof.Machine

/-- The MUTE timer runs out (R159). -/
def muteExpire (s : State) : State :=
  if s.line.state = .mute ∧ s.due s.line.muteTimer then
    mapLine (fun l => { l with state := .listenIntegrating, failures := 0, muteTimer := none }) s
  else s

/-- MUTE_TIMER_EXPIRY (R159). -/
def execMuteTimerExpiry (t : Tick) (s : State) : Host.Outcome State Fault Refusal := .next (timed t muteExpire s)

/-- The quiet count reaches 64 in LISTEN integrating (R160). -/
def listenQuiet (s : State) : State :=
  if s.line.state = .listenIntegrating then
    mapSlots (fun x => { x with hello := true })
      (mapLine (fun l => { l with state := .listenAnnouncing, quiet := 64, idleAt := some s.uptime }) s)
  else s

/-- LISTEN_QUIET_COUNT (R160). -/
def execListenQuietCount (t : Tick) (s : State) : Host.Outcome State Fault Refusal := .next (timed t listenQuiet s)

/-- ATTEMPT_START (R154, R173). -/
def execAttemptStart (t : Tick) (s : State) : Host.Outcome State Fault Refusal :=
  .next (timed t (fun s => if lineIdle s then beginAttempt s else s) s)

/-- What `act` does with the attempt in flight whose tag has been won, or may still be lost, up to the end of its last bit;
with another attempt nothing (R154, R157; log entries 5, 23 and 48). -/
def withAttempt (won : Bool) (act : Attempt → State → State) (s : State) : State :=
  match s.line.attempt with
  | some a => if decide (a.tagSent < s.uptime) = won then act a s else s
  | none => s

/-- ARBITRATION_LOST (R154, R155). -/
def execArbitrationLost (t : Tick) (s : State) : Host.Outcome State Fault Refusal :=
  .next (timed t (withAttempt false loseAttempt) s)

/-- ATTEMPT_SUCCESS (R156). -/
def execAttemptSuccess (t : Tick) (s : State) : Host.Outcome State Fault Refusal :=
  .next (timed t (withAttempt true succeedAttempt) s)

/-- ATTEMPT_FAILED (R157, R158). -/
def execAttemptFailed (quiet : Nat) (t : Tick) (s : State) : Host.Outcome State Fault Refusal :=
  .next (timed t (withAttempt true fun a => failAttempt a quiet) s)

/-- A receiver acknowledges a frame that fails only after its check (R156). -/
def erredAfterCheck (e : RxError) : Bool :=
  match e with
  | .format => true
  | _ => false

/-- The line after bits that end at the present tick: a station that is joined waits, and the line is idle at a quiet count
of 11 (R151). -/
def quietRestart (bits : List Bool) (s : State) : State :=
  let quiet := quietAfter bits
  mapLine (fun l => { l with
    quiet := quiet, idleAt := some (idleAfter s (11 - quiet))
    state := if joined s then .receiving else l.state }) s

/-- A frame that is not taken leaves the timestamp and the quiet count (R150, R151, R156, R161). -/
def frameErred (bits : List Bool) (e : RxError) (sof : Tick) (s : State) : State :=
  quietRestart bits (mapLine (fun l => { l with lastSof := sof, acked := acknowledges s && erredAfterCheck e }) s)

/-- A falling edge at `sof` is a start of frame: the line was idle then, or the frame of a lost attempt is followed
(R151). -/
def startsFrame (sof : Tick) (s : State) : Bool :=
  match s.line.idleAt with
  | some d => decide (d ≤ s.momentOf sof)
  | none => true

/-- Bits from a start of frame on that a receiver does not take. A frame with the own number that has passed its check
reveals a duplicate number whatever follows (R150, R163; log entry 50). -/
def frameBits (bits : List Bool) (sof : Tick) (s : State) : State :=
  match receiveBits bits with
  | .error .cutShort | .ok _ => s
  | .error e => if checkedSender bits = some s.line.number then duplicateFound sof s else frameErred bits e sof s

/-- Bits that fall where no frame can start: a dominant one among them sets the quiet count anew (R151; log entry 49). -/
def strayBits (bits : List Bool) (s : State) : State :=
  if bits.all (fun b => b) then s else quietRestart bits s

/-- FRAME_RECEIVE_ERROR: `bits` are the bits read from the edge at `sof` to the present tick (R150, R151). Bits from a start
of frame that show no length, stuff, check or format error are no such event (log entry 10). -/
def execFrameReceiveError (bits : List Bool) (sof t : Tick) (s : State) : Host.Outcome State Fault Refusal :=
  .next (timed t (fun s =>
    if !followsFrames s then s
    else if startsFrame sof s then frameBits bits sof s
    else strayBits bits s) s)

/-- DUPLICATE_NUMBER (R163). -/
def execDuplicateNumber (sof t : Tick) (s : State) : Host.Outcome State Fault Refusal :=
  .next (timed t (fun s => if followsFrames s then duplicateFound sof s else s) s)

end Sys2Proof.Machine
end

