-- ==== Sys2Proof/Machine/Queries.lean ====
section
/-! DEFINITION. The meanings of the QUERY commands, one for each section (R197 to R204). The section byte of the payload
decides what is answered (log entry 10). -/

namespace Sys2Proof.Machine

/-- QUERY_STATION (R198). -/
def execQueryStation (f : RxFrame) (s : State) : Host.Outcome State Fault Refusal := .next (query f s)

/-- QUERY_AXIS (R199). -/
def execQueryAxis (f : RxFrame) (s : State) : Host.Outcome State Fault Refusal := .next (query f s)

/-- QUERY_ZONES (R200). -/
def execQueryZones (f : RxFrame) (s : State) : Host.Outcome State Fault Refusal := .next (query f s)

/-- QUERY_CHANNEL (R201). -/
def execQueryChannel (f : RxFrame) (s : State) : Host.Outcome State Fault Refusal := .next (query f s)

/-- QUERY_PROBE (R202). -/
def execQueryProbe (f : RxFrame) (s : State) : Host.Outcome State Fault Refusal := .next (query f s)

/-- QUERY_PORT (R203). -/
def execQueryPort (f : RxFrame) (s : State) : Host.Outcome State Fault Refusal := .next (query f s)

/-- QUERY_POINTS (R204). -/
def execQueryPoints (f : RxFrame) (s : State) : Host.Outcome State Fault Refusal := .next (query f s)

end Sys2Proof.Machine
end

