-- ==== Sys2Proof/Machine/Rack.lean ====
section
/-! DEFINITION. The meanings of the head and rack inputs, of the identity reads and of the timers of a probe change
(spec/07). -/

namespace Sys2Proof.Machine

/-- LOCK_STATE_INPUT (R129, R136 to R138). -/
def execLockStateInput (locked unlocked : Bool) (t : Tick) (s : State) : Host.Outcome State Fault Refusal :=
  .next (input t (fun p => { p with locked := locked, unlocked := unlocked }) (fun _ => inputsChanged) s)

/-- The inputs of one port changed. -/
def mapPortPins (p : Fin 8) (f : PortPins → PortPins) (x : Pins) : Pins :=
  { x with ports := x.ports.set p.val (f (x.ports.get p)) }

/-- A lid-state input of port `p` has changed: its lid leaving OPEN under the head is a LID FAULT, and otherwise a phase
may end (R131, R141). -/
def lidChanged (p : Fin 8) (before s : State) : State :=
  let c := s.probes.change
  if c.active && c.result.isNone && headStands c p && lidState before p == .opened && lidState s p != .opened then
    failPhase .lidFault 0 s
  else inputsChanged s

/-- LID_STATE_INPUT (R131). -/
def execLidStateInput (p : Fin 8) (openIn closedIn : Bool) (t : Tick) (s : State) : Host.Outcome State Fault Refusal :=
  .next (input t (mapPortPins p fun x => { x with openIn := openIn, closedIn := closedIn })
    (lidChanged p) s)

/-- PRESENCE_INPUT: the presence follows the input (R130). -/
def execPresenceInput (p : Fin 8) (active : Bool) (t : Tick) (s : State) : Host.Outcome State Fault Refusal :=
  .next (input t (mapPortPins p fun x => { x with present := active }) (fun _ s => s) s)

/-- The probe unit changed. -/
def mapUnit (f : ProbeUnit → ProbeUnit) (s : State) : State := { s with probes := f s.probes }

/-- An identity read begins (R129); a phase that waits for one is served by it (R136, R139). -/
def readStart (s : State) : State :=
  if s.probes.reading then s
  else
    let s1 := mapUnit (fun u => { u with reading := true }) s
    if awaitsRead s1.probes.change then mapChange (fun c => { c with readBegun := true }) s1 else s1

/-- IDENTITY_READ_START (R129). -/
def execIdentityReadStart (t : Tick) (s : State) : Host.Outcome State Fault Refusal := .next (timed t readStart s)

/-- An identity read completes with a value, 0 for none (R129, R136, R139). -/
def readComplete (value : Byte) (s : State) : State :=
  if s.probes.reading then
    identityRead (mapUnit (fun u => { u with identity := value.toNat, reading := false }) s)
  else s

/-- IDENTITY_READ_COMPLETE (R129). -/
def execIdentityReadComplete (value : Byte) (t : Tick) (s : State) : Host.Outcome State Fault Refusal :=
  .next (timed t (readComplete value) s)

/-- The timer of a phase of the change in progress runs out while the phase is among those of `waits`, which names the
cause (R135 to R140). -/
def phaseExpire (waits : State → Phase → Option ChangeCause) (s : State) : State :=
  let c := s.probes.change
  if c.active && c.result.isNone && s.due c.timer then
    match c.phase with
    | some ph => match waits s ph with
      | some cause => failPhase cause 0 s
      | none => s
    | none => s
  else s

/-- What the lid timer of a phase fails it with (R135 to R137, R140). -/
def lidWaits (s : State) (ph : Phase) : Option ChangeCause :=
  match ph with
  | .openDrop | .closeDrop | .closePick => some .lidFault
  | .openPick => if lidIs s s.probes.change.pick .opened then some .lockFault else some .lidFault
  | _ => none

/-- LID_TIMER_EXPIRY (R135). -/
def execLidTimerExpiry (t : Tick) (s : State) : Host.Outcome State Fault Refusal :=
  .next (timed t (phaseExpire lidWaits) s)

/-- What the lock timer of a phase fails it with (R136, R138). -/
def lockWaits (_ : State) (ph : Phase) : Option ChangeCause :=
  match ph with
  | .unlock | .lock => some .lockFault
  | _ => none

/-- LOCK_TIMER_EXPIRY (R136, R138). -/
def execLockTimerExpiry (t : Tick) (s : State) : Host.Outcome State Fault Refusal :=
  .next (timed t (phaseExpire lockWaits) s)

/-- What the identify timer fails its phase with (R139). -/
def identifyWaits (_ : State) (ph : Phase) : Option ChangeCause :=
  match ph with
  | .identify => some .pickFault
  | _ => none

/-- IDENTIFY_TIMER_EXPIRY (R139). -/
def execIdentifyTimerExpiry (t : Tick) (s : State) : Host.Outcome State Fault Refusal :=
  .next (timed t (phaseExpire identifyWaits) s)

end Sys2Proof.Machine
end

