-- ==== Sys2Proof/Machine/Resets.lean ====
section
/-! DEFINITION. The meanings of FULL_RESET and RESET_END (R183). -/

namespace Sys2Proof.Machine

/-- FULL_RESET: a full reset begins (R183); power-on also sets the lock output to LOCK (R129). -/
def execFullReset (cause : ResetCause) (t : Tick) (s : State) : Host.Outcome State Fault Refusal :=
  .next (beginReset (cause == .powerOn) (advance t s))

/-- RESET_END: the straps are read and every block takes its values after a full reset (R183). -/
def execResetEnd (x : Straps) (s : State) : Host.Outcome State Fault Refusal := .next (afterReset x s)

end Sys2Proof.Machine
end

