-- ==== Sys2Proof/Machine/Sensing.lean ====
section
/-! DEFINITION. The meanings of the trigger commands (spec/06) and of the temperature commands (spec/02). -/

namespace Sys2Proof.Machine

/-- TRIGGER_DEFLECTED (R15, R105 to R110, R145). -/
def execTriggerDeflected (t : Tick) (s : State) : Host.Outcome State Fault Refusal :=
  .next (input t (fun p => { p with deflected := true }) (fun _ => deflect) s)

/-- TRIGGER_SEATED: the re-seat timer starts at 5 ms (R105). -/
def execTriggerSeated (t : Tick) (s : State) : Host.Outcome State Fault Refusal :=
  .next (input t (fun p => { p with deflected := false })
    (fun _ s => mapCapture (fun c => { c with reseatTimer := some (s.uptime + Config.reseatTicks) }) s) s)

/-- The re-seat timer runs out with the input SEATED (R105). -/
def reseatExpire (s : State) : State :=
  if s.due s.capture.reseatTimer && !s.pins.deflected then
    mapCapture (fun c => { c with reseat := .ready, reseatTimer := none }) s
  else s

/-- RESEAT_TIMER_EXPIRY (R105). -/
def execReseatTimerExpiry (t : Tick) (s : State) : Host.Outcome State Fault Refusal := .next (timed t reseatExpire s)

/-- SENSOR_SLOT_END: the slot of the round that is running ends (R23; log entry 29). -/
def execSensorSlotEnd (read : SensorRead) (t : Tick) (s : State) : Host.Outcome State Fault Refusal :=
  .next (timed t (endSlot read) s)

/-- The peer record changed. -/
def mapPeer (f : Peer → Peer) (s : State) : State := { s with thermal := { s.thermal with peer := f s.thermal.peer } }

/-- The recency timer runs out (R36). -/
def peerExpire (s : State) : State :=
  if s.due s.thermal.peer.timer then mapPeer (fun p => { p with timer := none }) s else s

/-- PEER_TIMER_EXPIRY (R36). -/
def execPeerTimerExpiry (t : Tick) (s : State) : Host.Outcome State Fault Refusal := .next (timed t peerExpire s)

end Sys2Proof.Machine
end

