-- ==== Sys2Proof/Machine/Setup.lean ====
section
/-! DEFINITION. The meanings of the setup frames (R189): each is checked whole and writes whole, or writes nothing. -/

namespace Sys2Proof.Machine

/-! ### SETUP STATION (R26, R190) -/

/-- The checks of R190. -/
def stationForm (p : List Byte) : Bool :=
  p.length == 19 && within 1 200 (u16At p 1) && within 1 200 (u16At p 3) && decide (u16At p 5 ≤ 20000) &&
    within 0 100000000 (s32At p 7) && !(choice 16 (byteAt p 15)).isBad

/-- The station setup is written, and the mask and the shift applied (R26, R190). -/
def writeStation (p : List Byte) (s : State) : State :=
  { s with
    station := { s.station with
      accel := u16At p 1, stopDecel := u16At p 3, probeCap := u16At p 5, halfWidth := s32At p 7,
      freeReach := s32At p 11, rackZone := (choice 16 (byteAt p 15)).value }
    thermal := applyMask (BitVec.ofNat 16 (u16At p 16)) (byteAt p 18) s.thermal }

/-- SETUP STATION past the mode check (R190). -/
def runSetupStation (f : RxFrame) (s : State) : Answer :=
  if stationForm f.payload then doneAnswer (writeStation f.payload s) else refuse .badValue s

/-- SETUP_STATION (R190). -/
def execSetupStation (f : RxFrame) (s : State) : Host.Outcome State Fault Refusal :=
  .next (command 19 setupAccess runSetupStation f s)

/-! ### SETUP AXIS (R5, R6) -/

/-- The role a byte codes. -/
def roleOf (n : Nat) : Option Role :=
  match n with
  | 0 => some .other
  | 1 => some .zoneAxis
  | 2 => some .reachAxis
  | _ => none

/-- The kind a byte codes. -/
def kindOf (n : Nat) : Option AxisKind :=
  match n with
  | 0 => some .linear
  | 1 => some .angular
  | _ => none

/-- The record a SETUP AXIS would write, with the two fields adjusted on the way in (R6); `none` where a coded field
carries a value outside its codes. -/
def axisRecordOf (p : List Byte) : Option AxisRecord :=
  match kindOf (byteAt p 2), roleOf (byteAt p 3) with
  | some kind, some role =>
    if byteAt p 24 ≤ 1 then
      some { setUp := true, kind := kind, role := role, softMin := s32At p 4, softMax := s32At p 8,
             maxSpeed := u16At p 12, followLimit := u32At p 14, window := u16At p 18, refValue := s32At p 20,
             searchNeg := role == .reachAxis || byteAt p 24 == 1, refSpeed := min (u16At p 25) (u16At p 12) }
    else none
  | _, _ => none

/-- The checks of R5 that look at the record alone, `refSpeed` being the speed the frame carries. -/
def axisRecordValid (r : AxisRecord) (refSpeed : Nat) : Bool :=
  decide (r.softMin < r.softMax) && within 1 20000 r.maxSpeed && within 1 1000000 r.followLimit &&
    decide (r.window ≤ 10000) && within 1 20000 refSpeed && within r.softMin r.softMax r.refValue &&
    (r.role == .other || r.kind == .linear)

/-- Another channel's record holds the role, ZONE AXIS or REACH AXIS (R5). -/
def roleTaken (s : State) (i : Fin 4) (role : Role) : Bool :=
  role != .other && axisIds.any fun j => j != i && (s.axis j).record.role == role

/-- An axis record is written (R6). -/
def writeAxis (i : Fin 4) (r : AxisRecord) (s : State) : State :=
  let a := s.axis i
  s.setAxis i { a with
    record := r, referenced := a.referenced && a.record.setUp && a.record.kind == r.kind }

/-- SETUP AXIS past the mode check (R5, R6). -/
def runSetupAxis (f : RxFrame) (s : State) : Answer :=
  let p := f.payload
  match s.liveAxis? (byteAt p 1), axisRecordOf p with
  | some i, some r =>
    if p.length == 27 && axisRecordValid r (u16At p 25) && !roleTaken s i r.role then doneAnswer (writeAxis i r s)
    else refuse .badValue s
  | _, _ => refuse .badValue s

/-- SETUP_AXIS (R5). -/
def execSetupAxis (f : RxFrame) (s : State) : Host.Outcome State Fault Refusal :=
  .next (command 20 setupAccess runSetupAxis f s)

/-! ### SETUP SCALE (R40, R41) -/

/-- The checks of R40 but for the axis. -/
def scaleForm (p : List Byte) : Bool :=
  p.length == 17 && within (-5000) 40000 (s32At p 2) && !(choice 16 (byteAt p 6)).isBad && within 8 22 (byteAt p 11) &&
    !(choice 3 (byteAt p 12)).isBad

/-- The scale parameters are written (R41). -/
def writeScale (i : Fin 4) (p : List Byte) (s : State) : State :=
  let a := s.axis i
  s.setAxis i { a with comp := { a.comp with
    alpha := s32At p 2, scaleChannel := (choice 16 (byteAt p 6)).value, origin := s32At p 7, shift := byteAt p 11,
    tip := (choice 3 (byteAt p 12)).value, bedOffset := s32At p 13 } }

/-- SETUP SCALE past the mode check (R40). -/
def runSetupScale (f : RxFrame) (s : State) : Answer :=
  match s.liveAxis? (byteAt f.payload 1) with
  | some i => if scaleForm f.payload then doneAnswer (writeScale i f.payload s) else refuse .badValue s
  | none => refuse .badValue s

/-- SETUP_SCALE (R40). -/
def execSetupScale (f : RxFrame) (s : State) : Host.Outcome State Fault Refusal :=
  .next (command 21 setupAccess runSetupScale f s)

/-! ### SETUP MAP (R42) -/

/-- The number of node values a SETUP MAP carries. -/
def nodeCount (p : List Byte) : Nat := (p.length - 3) / 2

/-- The checks of R42 but for the axis. -/
def mapForm (p : List Byte) : Bool :=
  decide (5 ≤ p.length) && (p.length - 3) % 2 == 0 && decide (byteAt p 2 ≤ 64) &&
    decide (byteAt p 2 + nodeCount p ≤ 65)

/-- Consecutive nodes are written from `first` upward. -/
def writeNodes (nodes : Vector Int 65) (first : Nat) : List Int → Vector Int 65
  | [] => nodes
  | v :: rest => writeNodes (nodes.setIfInBounds first v) (first + 1) rest

/-- The node values a SETUP MAP carries. -/
def nodeValues (p : List Byte) : List Int := (List.range (nodeCount p)).map fun j => s16At p (3 + 2 * j)

/-- Map nodes are written (R42). -/
def writeMap (i : Fin 4) (p : List Byte) (s : State) : State :=
  let a := s.axis i
  s.setAxis i { a with comp := { a.comp with nodes := writeNodes a.comp.nodes (byteAt p 2) (nodeValues p) } }

/-- SETUP MAP past the mode check (R42). -/
def runSetupMap (f : RxFrame) (s : State) : Answer :=
  match s.liveAxis? (byteAt f.payload 1) with
  | some i => if mapForm f.payload then doneAnswer (writeMap i f.payload s) else refuse .badValue s
  | none => refuse .badValue s

/-- SETUP_MAP (R42). -/
def execSetupMap (f : RxFrame) (s : State) : Host.Outcome State Fault Refusal :=
  .next (command 22 setupAccess runSetupMap f s)

/-! ### SETUP ZONES (R83) -/

/-- The number of boundary values a SETUP ZONES carries. -/
def boundaryCount (p : List Byte) : Nat := (p.length - 2) / 4

/-- The frame writes boundary b_(j + 1). -/
def writesBoundary (p : List Byte) (j : Fin 15) : Bool :=
  decide (byteAt p 1 ≤ j.val + 1) && decide (j.val + 1 < byteAt p 1 + boundaryCount p)

/-- The boundaries with those of the frame written, from the first index upward (R83). -/
def newBoundaries (z : ZoneUnit) (p : List Byte) : Vector Int 15 :=
  tab15 fun j =>
    if writesBoundary p j then s32At p (2 + 4 * (j.val + 1 - byteAt p 1)) else z.boundaries.get j

/-- The marks of the loaded boundaries with those of the frame. -/
def newLoaded (z : ZoneUnit) (p : List Byte) : Vector Bool 15 :=
  tab15 fun j => writesBoundary p j || z.loaded.get j

/-- A list of numbers rises strictly. -/
def rising : List Int → Bool
  | a :: b :: rest => decide (a < b) && rising (b :: rest)
  | _ => true

/-- The loaded boundaries, in order. -/
def loadedValues (b : Vector Int 15) (loaded : Vector Bool 15) : List Int :=
  (boundaryIds.filter fun j => loaded.get j).map b.get

/-- The checks of R83. -/
def zonesForm (z : ZoneUnit) (p : List Byte) : Bool :=
  decide (6 ≤ p.length) && (p.length - 2) % 4 == 0 && within 1 15 (byteAt p 1) &&
    decide (byteAt p 1 + boundaryCount p ≤ 16) && rising (loadedValues (newBoundaries z p) (newLoaded z p))

/-- Boundaries are written and marked loaded (R83). -/
def writeZones (p : List Byte) (s : State) : State :=
  { s with zones := { s.zones with boundaries := newBoundaries s.zones p, loaded := newLoaded s.zones p } }

/-- SETUP ZONES past the mode check (R83). -/
def runSetupZones (f : RxFrame) (s : State) : Answer :=
  if zonesForm s.zones f.payload then doneAnswer (writeZones f.payload s) else refuse .badValue s

/-- SETUP_ZONES (R83). -/
def execSetupZones (f : RxFrame) (s : State) : Host.Outcome State Fault Refusal :=
  .next (command 23 setupAccess runSetupZones f s)

/-! ### SETUP THERMAL (R34) -/

/-- The four local channel entries. -/
def entriesAt (p : List Byte) : List (Choice 16) := [6, 7, 8, 9].map fun j => choice 16 (byteAt p j)

/-- The channel numbers among the entries. -/
def entryChannels (p : List Byte) : List (Fin 16) := (entriesAt p).filterMap Choice.value

/-- The checks of R34; `self` is the station's own number. -/
def thermalForm (self : Nat) (p : List Byte) : Bool :=
  let peer := byteAt p 5 == 1
  p.length == 12 && within (-5000) 40000 (s32At p 1) && decide (byteAt p 5 ≤ 1) && decide (byteAt p 11 ≤ 1) &&
    !(entriesAt p).any Choice.isBad && decide (entryChannels p).Nodup &&
    !(peer && (!within 1 30 (byteAt p 10) || byteAt p 10 == self)) && !(peer && byteAt p 11 == 1)

/-- The thermal setup is written (R34). DESIGN CHOICE (log entry 40): the record of another peer begins as after reset. -/
def writeThermal (p : List Byte) (s : State) : State :=
  let t := s.thermal
  { s with thermal := { t with
    alphaW := s32At p 1
    source := if byteAt p 5 = 1 then .peer else .localChannels
    entries := tab4 fun j => (choice 16 (byteAt p (6 + j.val))).value
    peerStation := byteAt p 10
    publish := byteAt p 11 == 1
    peer := if byteAt p 10 = t.peerStation then t.peer else Peer.afterReset } }

/-- SETUP THERMAL past the mode check (R34). -/
def runSetupThermal (f : RxFrame) (s : State) : Answer :=
  if thermalForm s.line.number f.payload then doneAnswer (writeThermal f.payload s) else refuse .badValue s

/-- SETUP_THERMAL (R34). -/
def execSetupThermal (f : RxFrame) (s : State) : Host.Outcome State Fault Refusal :=
  .next (command 24 setupAccess runSetupThermal f s)

/-! ### SETUP LINKS (R191) -/

/-- The checks of R191; `self` is the station's own number. -/
def linksForm (self : Nat) (p : List Byte) : Bool :=
  p.length == 7 && decide (byteAt p 1 ≤ 30) && byteAt p 1 != self && !(u32At p 2).testBit 0 &&
    !(u32At p 2).testBit 31 && !(choice 4 (byteAt p 6)).isBad

/-- The link setup is written (R191). -/
def writeLinks (p : List Byte) (s : State) : State :=
  { s with station := { s.station with
    companion := byteAt p 1, serveSet := BitVec.ofNat 32 (u32At p 2), serveAxis := (choice 4 (byteAt p 6)).value } }

/-- SETUP LINKS past the mode check (R191). -/
def runSetupLinks (f : RxFrame) (s : State) : Answer :=
  if linksForm s.line.number f.payload then doneAnswer (writeLinks f.payload s) else refuse .badValue s

/-- SETUP_LINKS (R191). -/
def execSetupLinks (f : RxFrame) (s : State) : Host.Outcome State Fault Refusal :=
  .next (command 25 setupAccess runSetupLinks f s)

/-! ### SETUP RACK (R130) -/

/-- The checks of R130 but for the port and the insert axis. -/
def rackForm (p : List Byte) : Bool :=
  p.length == 19 && s32At p 15 != 0 && within (-1000000) 1000000 (s32At p 15)

/-- A port record is written and marked configured (R130). -/
def writePort (k : Fin 8) (i : Fin 4) (p : List Byte) (s : State) : State :=
  { s with probes := { s.probes with
      ports := s.probes.ports.set k.val { s.probes.ports.get k with
        configured := true, approach := threeAt p 2, insertAxis := i, insertDepth := s32At p 15 } } }

/-- SETUP RACK past the mode check (R130). -/
def runSetupRack (f : RxFrame) (s : State) : Answer :=
  match finOf 8 (byteAt f.payload 1), finOf 4 (byteAt f.payload 14) with
  | some k, some i => if rackForm f.payload then doneAnswer (writePort k i f.payload s) else refuse .badValue s
  | _, _ => refuse .badValue s

/-- SETUP_RACK (R130). -/
def execSetupRack (f : RxFrame) (s : State) : Host.Outcome State Fault Refusal :=
  .next (command 26 setupAccess runSetupRack f s)

end Sys2Proof.Machine
end

