-- ==== Sys2Proof/Machine/Timers.lean ====
section
/-! DEFINITION. The meanings of the permit, companion and zone timers. An expiry acts when its timer runs and its deadline
has been reached (log entry 3). -/

namespace Sys2Proof.Machine

/-- PERMIT_TIMER_EXPIRY (R79, R143). -/
def execPermitTimerExpiry (t : Tick) (s : State) : Host.Outcome State Fault Refusal :=
  .next (timed t (fun s => if s.due s.motion.permitTimer then permitExpire false s else s) s)

/-- COMPANION_TIMER_EXPIRY of the record of point `n` (R117). -/
def execCompanionTimerExpiry (n : BitVec 16) (t : Tick) (s : State) : Host.Outcome State Fault Refusal :=
  .next (timed t (companionExpire n) s)

/-- The window of the own claim expires (R98): the zones become FIRM, and auto-release runs. -/
def windowExpire (s : State) : State :=
  match s.zones.claim with
  | .window _ began => if began + Config.windowTicks ≤ s.uptime then autoRelease (firmClaim s) else s
  | _ => s

/-- CLAIM_WINDOW_EXPIRY (R98). -/
def execClaimWindowExpiry (t : Tick) (s : State) : Host.Outcome State Fault Refusal := .next (timed t windowExpire s)

/-- A zone TENTATIVE to another station becomes FIRM 16 ms after its hold began (R99). -/
def ripen (self now : Nat) (h : Option Hold) : Option Hold :=
  match h with
  | some x =>
    if x.standing = .tentative ∧ x.holder ≠ self ∧ x.since + Config.windowTicks ≤ now then
      some { x with standing := .firm }
    else some x
  | none => none

/-- TENTATIVE_HOLD_EXPIRY (R99). -/
def execTentativeHoldExpiry (t : Tick) (s : State) : Host.Outcome State Fault Refusal :=
  .next (timed t (fun s => mapView (fun _ h => ripen s.line.number s.uptime h) s) s)

end Sys2Proof.Machine
end

