-- ==== Sys2Proof/Machine/Dispatch.lean ====
section
/-! DEFINITION. One arm per command: its meaning, called once. -/

namespace Sys2Proof.Machine

/-- The effect of a command on everything but the queue of waiting commands. -/
def exec (i : Instr) (s : State) : Host.Outcome State Fault Refusal :=
  match i with
  | .fullReset cause tick => Sys2Proof.Machine.execFullReset cause tick s
  | .resetEnd straps => Sys2Proof.Machine.execResetEnd straps s
  | .scaleTransition axis phaseA phaseB tick => Sys2Proof.Machine.execScaleTransition axis phaseA phaseB tick s
  | .endOfTravelInput axis travelEnd active tick => Sys2Proof.Machine.execEndOfTravelInput axis travelEnd active tick s
  | .servoSample tick => Sys2Proof.Machine.execServoSample tick s
  | .settleTimeout tick => Sys2Proof.Machine.execSettleTimeout tick s
  | .referenceMark axis tick => Sys2Proof.Machine.execReferenceMark axis tick s
  | .driveEnableFall tick => Sys2Proof.Machine.execDriveEnableFall tick s
  | .driveEnableRise tick => Sys2Proof.Machine.execDriveEnableRise tick s
  | .triggerDeflected tick => Sys2Proof.Machine.execTriggerDeflected tick s
  | .triggerSeated tick => Sys2Proof.Machine.execTriggerSeated tick s
  | .reseatTimerExpiry tick => Sys2Proof.Machine.execReseatTimerExpiry tick s
  | .sensorSlotEnd read tick => Sys2Proof.Machine.execSensorSlotEnd read tick s
  | .peerTimerExpiry tick => Sys2Proof.Machine.execPeerTimerExpiry tick s
  | .permitTimerExpiry tick => Sys2Proof.Machine.execPermitTimerExpiry tick s
  | .companionTimerExpiry point tick => Sys2Proof.Machine.execCompanionTimerExpiry point tick s
  | .claimWindowExpiry tick => Sys2Proof.Machine.execClaimWindowExpiry tick s
  | .tentativeHoldExpiry tick => Sys2Proof.Machine.execTentativeHoldExpiry tick s
  | .lockStateInput locked unlocked tick => Sys2Proof.Machine.execLockStateInput locked unlocked tick s
  | .lidStateInput port openIn closedIn tick => Sys2Proof.Machine.execLidStateInput port openIn closedIn tick s
  | .presenceInput port active tick => Sys2Proof.Machine.execPresenceInput port active tick s
  | .identityReadStart tick => Sys2Proof.Machine.execIdentityReadStart tick s
  | .identityReadComplete value tick => Sys2Proof.Machine.execIdentityReadComplete value tick s
  | .lidTimerExpiry tick => Sys2Proof.Machine.execLidTimerExpiry tick s
  | .lockTimerExpiry tick => Sys2Proof.Machine.execLockTimerExpiry tick s
  | .identifyTimerExpiry tick => Sys2Proof.Machine.execIdentifyTimerExpiry tick s
  | .muteTimerExpiry tick => Sys2Proof.Machine.execMuteTimerExpiry tick s
  | .listenQuietCount tick => Sys2Proof.Machine.execListenQuietCount tick s
  | .attemptStart tick => Sys2Proof.Machine.execAttemptStart tick s
  | .arbitrationLost tick => Sys2Proof.Machine.execArbitrationLost tick s
  | .attemptSuccess tick => Sys2Proof.Machine.execAttemptSuccess tick s
  | .attemptFailed quiet tick => Sys2Proof.Machine.execAttemptFailed quiet tick s
  | .frameReceiveError bits sof tick => Sys2Proof.Machine.execFrameReceiveError bits sof tick s
  | .duplicateNumber sof tick => Sys2Proof.Machine.execDuplicateNumber sof tick s
  | .halt f => Sys2Proof.Machine.execHalt f s
  | .touchReceived f => Sys2Proof.Machine.execTouchReceived f s
  | .zoneObjectReceived f => Sys2Proof.Machine.execZoneObjectReceived f s
  | .helloReceived f => Sys2Proof.Machine.execHelloReceived f s
  | .zoneReleaseReceived f => Sys2Proof.Machine.execZoneReleaseReceived f s
  | .zoneClaimReceived f => Sys2Proof.Machine.execZoneClaimReceived f s
  | .companionReceived f => Sys2Proof.Machine.execCompanionReceived f s
  | .permit f => Sys2Proof.Machine.execPermit f s
  | .tempReceived f => Sys2Proof.Machine.execTempReceived f s
  | .pointReceived f => Sys2Proof.Machine.execPointReceived f s
  | .replyReceived f => Sys2Proof.Machine.execReplyReceived f s
  | .statusReceived f => Sys2Proof.Machine.execStatusReceived f s
  | .noticeReceived f => Sys2Proof.Machine.execNoticeReceived f s
  | .movePosition f => Sys2Proof.Machine.execMovePosition f s
  | .moveProbe f => Sys2Proof.Machine.execMoveProbe f s
  | .reference f => Sys2Proof.Machine.execReference f s
  | .clear f => Sys2Proof.Machine.execClear f s
  | .probeChange f => Sys2Proof.Machine.execProbeChange f s
  | .probeSet f => Sys2Proof.Machine.execProbeSet f s
  | .datum f => Sys2Proof.Machine.execDatum f s
  | .arm f => Sys2Proof.Machine.execArm f s
  | .disarm f => Sys2Proof.Machine.execDisarm f s
  | .restart f => Sys2Proof.Machine.execRestart f s
  | .queryStation f => Sys2Proof.Machine.execQueryStation f s
  | .queryAxis f => Sys2Proof.Machine.execQueryAxis f s
  | .queryZones f => Sys2Proof.Machine.execQueryZones f s
  | .queryChannel f => Sys2Proof.Machine.execQueryChannel f s
  | .queryProbe f => Sys2Proof.Machine.execQueryProbe f s
  | .queryPort f => Sys2Proof.Machine.execQueryPort f s
  | .queryPoints f => Sys2Proof.Machine.execQueryPoints f s
  | .setupStation f => Sys2Proof.Machine.execSetupStation f s
  | .setupAxis f => Sys2Proof.Machine.execSetupAxis f s
  | .setupScale f => Sys2Proof.Machine.execSetupScale f s
  | .setupMap f => Sys2Proof.Machine.execSetupMap f s
  | .setupZones f => Sys2Proof.Machine.execSetupZones f s
  | .setupThermal f => Sys2Proof.Machine.execSetupThermal f s
  | .setupLinks f => Sys2Proof.Machine.execSetupLinks f s
  | .setupRack f => Sys2Proof.Machine.execSetupRack f s
  | .unusedKindFrame f => Sys2Proof.Machine.execUnusedKindFrame f s

end Sys2Proof.Machine
end

