-- ==== Sys2Proof/Safety.lean ====
section
/-! DEFINITION. What the spec promises of every run, as invariants of the state: the bounds of the buffers, when an axis may
be driven, on which zones a segment moves, and the probe table. Each is written so that a single step keeps it. -/

namespace Sys2Proof.Machine

/-! ### The queue (R56) -/

/-- Every segment behind the head is QUEUED (R56, R64). -/
def TailQueued (s : State) : Prop := ∀ seg ∈ s.motion.queue.tail, seg.state = .queued

/-- The head of the queue has been formed: it is no longer QUEUED and has its needed set (R64). -/
def HeadFormed (s : State) : Prop :=
  ∀ seg rest, s.motion.queue = seg :: rest → seg.state ≠ .queued ∧ seg.needed.isSome = true

/-- The head of the queue is formed and every segment behind it waits for it (R56, R64). -/
def QueueShaped (s : State) : Prop := TailQueued s ∧ HeadFormed s

/-- The phase running of a change works its lids, its lock or the identity reader, with no segment in the queue (R134 to
R140). -/
def workingPhase (c : Change) : Bool :=
  match c.phase with
  | some .openDrop | some .unlock | some .closeDrop | some .openPick | some .lock | some .identify
  | some .closePick => true
  | some .detach => c.segArrived || c.readBegun
  | _ => false

/-- The queue holds at most 8 segments, one of them during a probe change, and none while a phase works without a segment
(R56, R134). -/
def QueueBounded (s : State) : Prop :=
  s.motion.queue.length ≤ 8 ∧
    (s.probes.change.active = true → s.motion.queue.length ≤ 1) ∧
    (s.probes.change.active = true → s.probes.change.result = none → workingPhase s.probes.change = true →
      s.motion.queue = [])

/-! ### The point buffer, the rings and the counts (R14, R114, R120, R158, R178) -/

/-- The head is a PROBE segment that is MOVING. -/
def probing (s : State) : Bool :=
  match s.motion.queue with
  | seg :: _ => seg.kind == .probe && seg.state == .moving
  | [] => false

/-- The point buffer holds at most 16 records, and at most 15 while a PROBE segment that may form one is MOVING (R65,
R114). -/
def PointsBounded (s : State) : Prop :=
  TailQueued s ∧ s.capture.points.length ≤ 16 ∧ (probing s = true → s.capture.points.length ≤ 15)

/-- Every history ring holds at most 64 entries, at most 2 companion requests are pending, the failure count is at most 16
and the mute count at most 255 (R14, R120, R158). -/
def RingsBounded (s : State) : Prop :=
  (∀ i, (s.axis i).ring.length ≤ 64) ∧ s.capture.requests.length ≤ 2 ∧ s.line.failures ≤ 16 ∧ s.line.mutes ≤ 255

/-! ### Drives (R4, R12, R183) -/

/-- With the amplifier enables off every drive demand is 0, and that of an inert channel always (R4, R12). -/
def DrivesSafe (s : State) : Prop :=
  (ampOn s = false → ∀ i, (s.axis i).driveOut = 0) ∧ ∀ i, s.live i = false → (s.axis i).driveOut = 0

/-- Out of reset, motion is not normal while drive-enable is low, and while motion is DISABLED or FAULTED no segment stands
in the queue and no probe change is in progress (R19, R57, R144). -/
def StoppedMotionEmpty (s : State) : Prop :=
  s.inReset = false →
    (s.pins.driveEnable = false → s.gate ≠ .normal) ∧
      (s.gate ≠ .normal → s.motion.queue = [] ∧ s.probes.change.active = false)

/-! ### Zones (R65) -/

/-- Outside RUN no segment is queued and no probe change is in progress (R58, R63, R181, R195). -/
def IdleOutsideRun (s : State) : Prop :=
  s.station.mode ≠ .run → s.motion.queue = [] ∧ s.probes.change.active = false

/-- A MOVING head has every zone of its needed set recorded FIRM to the station in its own view (R65). -/
def MovingHolds (s : State) : Prop :=
  ∀ seg rest, s.motion.queue = seg :: rest → seg.state = .moving →
    ZoneSet.within (seg.needed.getD 0) (firmZones s) = true

/-- A segment moves only on zones that the station's own view gives to itself (R65). -/
def ZonesSafe (s : State) : Prop := TailQueued s ∧ IdleOutsideRun s ∧ MovingHolds s

/-! ### The probe table (R126, R136) -/

/-- No two records with the same non-zero id, no two such records with the same home port, and at most one record located
ON HEAD (R126). -/
def TableDistinct (t : Vector ProbeRecord 16) : Prop :=
  ∀ i j, i ≠ j →
    ((t.get i).id ≠ 0 → (t.get i).id ≠ (t.get j).id) ∧
    ((t.get i).id ≠ 0 → (t.get j).id ≠ 0 → (t.get i).home ≠ none → (t.get i).home ≠ (t.get j).home) ∧
    ((t.get i).location = .onHead → (t.get j).location ≠ .onHead)

/-- The phases from the drop's end check to the identification: no record is ON HEAD in them (R136, R139). -/
def headEmptyPhase (c : Change) : Bool :=
  match c.phase with
  | some .closeDrop | some .travelPick | some .openPick | some .engage | some .lock | some .identify => true
  | _ => false

/-- The phases of a drop: the record ON HEAD in them is the old probe's (R133, R136). -/
def dropPhase (c : Change) : Bool :=
  match c.phase with
  | some .travelDrop | some .openDrop | some .insert | some .unlock | some .detach => true
  | _ => false

/-- The probe table keeps its promises, and a change in progress knows which record is ON HEAD (R126, R136). -/
def TableSafe (s : State) : Prop :=
  TableDistinct s.probes.table ∧
    (s.probes.change.active = true → s.probes.change.result = none → headEmptyPhase s.probes.change = true →
      ∀ i, (s.probes.table.get i).location ≠ .onHead) ∧
    (s.probes.change.active = true → s.probes.change.result = none → dropPhase s.probes.change = true →
      s.probes.change.oldId ≠ 0 ∧
        ∀ i, (s.probes.table.get i).location = .onHead → (s.probes.table.get i).id = s.probes.change.oldId)

/-! ### The bed's boundaries (R83) -/

/-- The loaded boundaries rise strictly (R83). -/
def BoundariesRise (s : State) : Prop := rising (loadedValues s.zones.boundaries s.zones.loaded) = true

/-! ### What the statements speak of -/

/-- From `s` to `t` nothing changed outside the motion sequencer, the zone unit, the probe unit, the slots and the
notices, and on the line nothing but the attempt in flight. -/
structure MotionOnly (s t : State) : Prop where
  uptime : t.uptime = s.uptime
  freeIx : t.freeIx = s.freeIx
  inReset : t.inReset = s.inReset
  pins : t.pins = s.pins
  axisCount : t.axisCount = s.axisCount
  axes : t.axes = s.axes
  latch : t.latch = s.latch
  faultPending : t.faultPending = s.faultPending
  gate : t.gate = s.gate
  thermal : t.thermal = s.thermal
  capture : t.capture = s.capture
  line : t.line = { s.line with attempt := t.line.attempt }
  overrun : t.overrun = s.overrun
  overrunSince : t.overrunSince = s.overrunSince
  station : t.station = s.station
  pending : t.pending = s.pending

/-- The servo sample at `t` up to its demands: the rings have the sample, the pending requests are settled and the demands
are taken (steps 1 to 3 of R14). -/
def sampled (t : Tick) (s : State) : State := takeDemands (settleAll (sampleRings (advance t s)))

/-- No channel finds a motion fault in the servo sample at `t` (step 4 of R14). -/
def SoundSample (t : Tick) (s : State) : Prop := periodFaults (demands s) (sampled t s) = []

/-- The head `seg` of `s` ends ARRIVED in the servo sample at `t`: it is MOVING, no PROBE, its demand has arrived, and every
axis that moved lies within its in-position window (R71). -/
structure Arrives (t : Tick) (s : State) (seg : Segment) : Prop where
  awake : s.inReset = false
  powered : ampOn s = true
  sound : SoundSample t s
  moving : seg.state = .moving
  kind : seg.kind ≠ .probe
  arrived : (stepSegment (advance t s) seg).traj.arrived = true
  near : inPosition (sampled t s) (stepSegment (advance t s) seg) = true

/-- A MOVING head with speed to shed: it is not in its settling wait and its demand is not at rest (R70, R73). -/
def Shedding (seg : Segment) : Prop :=
  seg.state = .moving ∧ seg.traj.arrived = false ∧ 0 < seg.traj.u ∧
    (seg.kind = .reference ∨ seg.traj.s ≠ seg.traj.len * 65536)

/-- A head with no speed to shed: WAITING, CLAIMING, in its settling wait, or MOVING with its demand at rest (R73). -/
def Speedless (seg : Segment) : Prop :=
  seg.state = .waiting ∨ seg.state = .claiming ∨
    (seg.state = .moving ∧
      (seg.traj.arrived = true ∨ seg.traj.u = 0 ∨ (seg.kind ≠ .reference ∧ seg.traj.s = seg.traj.len * 65536)))

/-- What an abort with `cause` outside the commit stretches makes of the change in progress in `s`, its own segment, if any,
ending with outcome `o` (R141, R142, R146). -/
structure Aborted (cause : ChangeCause) (o : SegOutcome) (s t : State) : Prop where
  lids : ∀ p, (t.probes.ports.get p).lidOpen =
    ((s.probes.ports.get p).lidOpen && headStands s.probes.change p)
  lock : t.probes.unlockOut = s.probes.unlockOut
  table : ∀ i, t.probes.table.get i =
    if s.probes.change.phase = some .identify ∧ s.probes.change.target ≠ 0 ∧
        (s.probes.table.get i).id = s.probes.change.target then
      { s.probes.table.get i with location := .unknown }
    else s.probes.table.get i
  stops : ∀ seg, s.motion.queue = [seg] → seg.issuer = .probeUnit → Shedding seg →
    t.motion.queue = [{ seg with state := .stopping, outcome := some o, flushed := min 7 seg.flushed }] ∧
      t.probes.change =
        { s.probes.change with
          result := some { outcome := .aborted, phase := s.probes.change.phaseNumber, cause := cause, idRead := 0 }
          last := some { outcome := .aborted, phase := s.probes.change.phaseNumber, cause := cause, idRead := 0 }
          timer := none, deferred := .none }
  ends : (s.motion.queue = [] ∨ ∃ seg, s.motion.queue = [seg] ∧ seg.issuer = .probeUnit ∧ Speedless seg) →
    t.motion.queue = [] ∧
      t.probes.change =
        Change.idle (some { outcome := .aborted, phase := s.probes.change.phaseNumber, cause := cause, idRead := 0 }) ∧
      (t.notices.get 4).pending = true ∧
      (t.notices.get 4).detail = some (.probeChangeEnd s.probes.change.target
        { outcome := .aborted, phase := s.probes.change.phaseNumber, cause := cause, idRead := 0 })

/-- What a fall of drive-enable, a motion fault or the entry into OFFLINE makes of the probe change in progress in `s`, in
every phase: it ends FAILED in the phase running with `cause`, or with the outcome it has taken before (log entry 18), both
its records are UNKNOWN, its lids and the lock are left, and a deferred expiry is taken (R143, R144, R146). -/
structure PowerLost (cause : ChangeCause) (s t : State) : Prop where
  table : ∀ i, t.probes.table.get i =
    if (s.probes.table.get i).id ≠ 0 ∧ ((s.probes.table.get i).id = s.probes.change.target ∨
        (s.probes.table.get i).id = s.probes.change.oldId) then
      { s.probes.table.get i with location := .unknown }
    else s.probes.table.get i
  kept : t.probes = { s.probes with table := t.probes.table, change := t.probes.change }
  fails : s.probes.change.result = none →
    t.probes.change = Change.idle
        (some { outcome := .failed, phase := s.probes.change.phaseNumber, cause := cause, idRead := 0 }) ∧
      t.notices.get 4 = (s.notices.get 4).event (.probeChangeEnd s.probes.change.target
        { outcome := .failed, phase := s.probes.change.phaseNumber, cause := cause, idRead := 0 })
  stands : ∀ r, s.probes.change.result = some r →
    t.probes.change = Change.idle s.probes.change.last ∧
      t.notices.get 4 = (s.notices.get 4).event (.probeChangeEnd s.probes.change.target r)
  unexpired : s.probes.change.expiry = .none → t.motion.permit = s.motion.permit
  expired : s.probes.change.result = none → s.probes.change.expiry ≠ .none →
    t.motion.permit = .lapsed ∧ t.motion.permitTimer = none ∧
      t.notices.get 5 = (s.notices.get 5).event (.permitLapsed (s.probes.change.expiry == .hello))

/-- What auto-release does to the view from `s` to `t`: on a joined line it frees the FIRM zones of the station outside the keep
set, the demands and the queue being those of `t`, where `s` has a head in its queue or a probe change in progress; with
neither it does not run (R81, R100; log entry 54). -/
structure Released (s t : State) : Prop where
  zones : t.zones = { s.zones with view := t.zones.view, claim := t.zones.claim }
  view : ∀ z, t.zones.view.get z =
    if (s.motion.queue ≠ [] ∨ s.probes.change.active = true) ∧ joined s = true ∧ ZoneSet.has (firmZones s) z = true ∧
        ZoneSet.has (keepSet { s with axes := t.axes, motion := t.motion }) z = false then none
    else s.zones.view.get z

/-- What the end at once of the head of `s`, a segment of the room, and of the queue behind it leaves of the probe unit, the
zones and the slots when no probe change is in progress: a QUEUED claim that was made for this head is withdrawn, or outlives
it while its attempt is in flight, one that has outlived its own head stays, and auto-release runs; with no head nothing
changes (R75, R81, R90, R100, R155; log entry 54). -/
structure HeadDropped (s t : State) : Prop extends Released s t where
  probes : t.probes = s.probes
  claim : t.zones.claim = match s.motion.queue, s.zones.claim with
    | _ :: _, .queued x false => if inFlight s .claim = true then .queued x true else .none
    | _, c => c
  slot : t.slots.claim = match s.motion.queue, s.zones.claim with
    | _ :: _, .queued _ false => if inFlight s .claim = true then s.slots.claim else none
    | _, _ => s.slots.claim
  slots : t.slots = { s.slots with claim := t.slots.claim, release := t.slots.release }
  still : s.motion.queue = [] → t.slots = s.slots

/-- The record that a phase of a change which fails leaves UNKNOWN, 0 for none: the old probe's in UNLOCK and DETACH, the
target's in LOCK and IDENTIFY (R141). -/
def unsureId (c : Change) : Nat :=
  match c.phase with
  | some .unlock | some .detach => c.oldId
  | some .lock | some .identify => c.target
  | _ => 0

/-- The phase running of the change in progress in `s` has failed with `cause`: the locations, the lids (left in a commit
stretch, otherwise CLOSED but for that of a port in which the head stands), the lock, and a deferred expiry, which is taken. The
change has ended with its outcome if the queue of `t` is empty, and otherwise it has taken the outcome and waits for its
segment (R131, R141, R143, R146). -/
structure PhaseFailed (cause : ChangeCause) (s t : State) : Prop where
  table : ∀ i, t.probes.table.get i =
    if unsureId s.probes.change ≠ 0 ∧ (s.probes.table.get i).id = unsureId s.probes.change then
      { s.probes.table.get i with location := .unknown }
    else s.probes.table.get i
  lids : ∀ p, t.probes.ports.get p = { s.probes.ports.get p with
    lidOpen := (s.probes.ports.get p).lidOpen && (inCommit s || headStands s.probes.change p) }
  kept : t.probes = { s.probes with table := t.probes.table, ports := t.probes.ports, change := t.probes.change }
  ends : t.motion.queue = [] →
    t.probes.change = Change.idle
        (some { outcome := .failed, phase := s.probes.change.phaseNumber, cause := cause, idRead := 0 }) ∧
      t.notices.get 4 = (s.notices.get 4).event (.probeChangeEnd s.probes.change.target
        { outcome := .failed, phase := s.probes.change.phaseNumber, cause := cause, idRead := 0 })
  waits : t.motion.queue ≠ [] → t.notices.get 4 = s.notices.get 4 ∧ t.probes.change = { s.probes.change with
    result := some { outcome := .failed, phase := s.probes.change.phaseNumber, cause := cause, idRead := 0 }
    last := some { outcome := .failed, phase := s.probes.change.phaseNumber, cause := cause, idRead := 0 }
    timer := none, deferred := .none, expiry := .none }
  unexpired : s.probes.change.expiry = .none →
    t.motion.permit = s.motion.permit ∧ t.notices.get 5 = s.notices.get 5
  expired : s.probes.change.expiry ≠ .none →
    t.motion.permit = .lapsed ∧ t.motion.permitTimer = none ∧
      t.notices.get 5 = (s.notices.get 5).event (.permitLapsed (s.probes.change.expiry == .hello))

/-- The slot `id` holds the frame `o`, and an attempt that starts at `sof` carries it in a payload of which `layout` holds (R174;
spec/09, Payloads); with no frame it has no payload. -/
def Carries {α : Type} (s : State) (sof : Tick) (id : SlotId) (o : Option α) (layout : α → List Byte → Prop) : Prop :=
  match o with
  | none => slotPayload s sof id = none
  | some f => ∃ p, slotPayload s sof id = some p ∧ layout f p

/-- Bytes `i` to `i + 3` of a payload hold the signed number `x`, modulo 2^32 (spec/09, The frame). -/
def Holds32 (p : List Byte) (i : Nat) (x : Int) : Prop := BitVec.ofNat 32 (u32At p i) = BitVec.ofInt 32 x

/-- The station takes frame `f` of kind `kind` and interprets it: it is out of reset, follows frames of other stations, the
number of the sender is a station's and not its own, and the class is the kind's (R150, R163, R164, R165). -/
structure Hears (kind : Nat) (f : RxFrame) (s : State) : Prop where
  awake : s.inReset = false
  online : s.line.state ≠ .offline
  noAttempt : s.line.attempt = none
  notOwn : f.sender.toNat ≠ s.line.number
  station : 1 ≤ f.sender.toNat ∧ f.sender.toNat ≤ 30
  cls : classOf kind = some f.cls.toNat

/-- The state once the end field of `f` has been taken: time has passed, and the line has followed the frame. -/
def heard (f : RxFrame) (s : State) : State := frameTaken f (advance f.tick s)

/-- The state after a frame with effect `u`: the check of the own claim, and what every step ends with (R90, R64). -/
def settled (u : State) : State := finish (overlapCheck u)

/-- A command frame reaches the answer: it names the station and a reply slot is empty (R168, R169). -/
structure Commands (kind : Nat) (f : RxFrame) (s : State) : Prop extends Hears kind f s where
  payload : f.payload ≠ []
  addressed : byteAt f.payload 0 = s.line.number ∨ byteAt f.payload 0 = 0
  slot : s.slots.replies.get 0 = none ∨ s.slots.replies.get 1 = none

/-- The state after a command of kind `kind` that comes to the reply `code` with `detail` and the effect `u`. -/
def answered (kind : Nat) (f : RxFrame) (code : ReplyCode) (detail : Nat) (u : State) : State :=
  settled (placeReply { dest := f.sender.toNat, kind := kind, code := code, detail := detail } u)

end Sys2Proof.Machine
end

