-- ==== Sys2Proof/Certificates/Slice0/Obligations.lean ====
section
/-! DEFINITION. The statements for the provers. Each docstring says what its statement says and what of spec/ it rests on.
Section and rule names are those of spec/; log entries are the files of notes/assumptions. -/

open Sys2Proof Sys2Proof.Machine

/-- O1. For every command c, every list of further commands and every state, a step of the state with c at the front of
its queue is exec of c on the state with the rest of the queue. On an empty queue the step answers the state
unchanged, which is the model's choice of log entry 2. Every command, with every operand and in every state, answers a
next state: the part never faults and never refuses. (spec/95_what_each_step_holds.md.) -/
def Obligations.StepTakesTheFrontCommand : Prop :=
  ((∀ (c : Instr) (rest : List Instr) (s : State),
    step { s with pending := c :: rest } = exec c { s with pending := rest }) ∧
  ∀ s : State, s.pending = [] → step s = .next s) ∧
  (∀ (c : Instr) (s : State), ∃ t, exec c s = .next t)

/-- O2. The passing of time up to tick t makes the counter read t, never lowers the unwrapped count and raises it by less
than 2^32, numbers the command for the free values, and changes nothing else but the line state. That is SENDING once
the last bit of the tag of an attempt ARBITRATING lies in the past, IDLE once a line RECEIVING or SENDING without an
attempt has reached the moment from which it is idle, and otherwise the one before. The unwrapped count and the
numbering are the model's choices of log entries 1 and 9; that time changes the line state, and its two moments, are
log entry 23. (spec/00_scope.md, Conventions; spec/08_the_gauge_line.md, Arbitration; spec/08_the_gauge_line.md, The
frame on the line.) -/
def Obligations.CommandTimePasses : Prop :=
  ∀ (t : Tick) (s : State),
    (advance t s).tick = t ∧ s.uptime ≤ (advance t s).uptime ∧ (advance t s).uptime < s.uptime + 2 ^ 32 ∧
      advance t s = { s with
        uptime := (advance t s).uptime
        freeIx := s.freeIx + 1
        line := { s.line with state := (advance t s).line.state } } ∧
      ((advance t s).line.state ≠ s.line.state →
        s.line.state.joined = true ∧ (advance t s).line.state.joined = true) ∧
      (∀ x, s.line.attempt = some x → (advance t s).line.state =
        if s.line.state = .arbitrating ∧ x.tagSent < (advance t s).uptime then .sending else s.line.state) ∧
      (∀ d, s.line.attempt = none → s.line.idleAt = some d → (advance t s).line.state =
        if (s.line.state = .receiving ∨ s.line.state = .sending) ∧ d ≤ (advance t s).uptime then .idle
        else s.line.state) ∧
      (s.line.attempt = none → s.line.idleAt = none → (advance t s).line.state = s.line.state)

/-- O3. The tick counter is the low 32 bits of the unwrapped count, so it wraps. For timestamps a and b: the difference a
− b modulo 2^32 is 0 exactly when they are equal, a is later exactly when the difference is 1 to 2^31 − 1, and a is
earlier exactly when it is 2^31 or above. The durations the model uses are these many ticks of 0.1 µs: 5 ms (R105), 25
ms (R115), 16 ms (R98), 5 s (R35), 500 ms (R71, R136), 2 s (R135), 100 ms (R139) and 200 ms (R158). The count without
its wrap is the model's choice of log entry 1. (spec/00_scope.md, Conventions;
spec/06_touches_points_and_companions.md, The trigger input; spec/06_touches_points_and_companions.md, The wait for
the companion; spec/05_zones_on_the_bed.md, The end of a window; spec/02_temperature_channels_and_figures.md, The peer
record; spec/04_segments_and_motion.md, How segments end; spec/07_probes_and_the_rack.md, The drop;
spec/07_probes_and_the_rack.md, The pick; spec/08_the_gauge_line.md, Failed attempts and acknowledge.) -/
def Obligations.TicksCompareModulo : Prop :=
  (∀ s : State, s.tick = BitVec.ofNat 32 s.uptime) ∧
  (∀ a b : Tick, ((a - b).toNat = 0 ↔ a = b) ∧
    (Tick.later a b = true ↔ 1 ≤ (a - b).toNat ∧ (a - b).toNat ≤ 2 ^ 31 - 1) ∧
    (Tick.earlier a b = true ↔ 2 ^ 31 ≤ (a - b).toNat)) ∧
  Config.msTicks = 10000 ∧ Config.reseatTicks = 5 * Config.msTicks ∧ Config.companionTicks = 25 * Config.msTicks ∧
  Config.windowTicks = 16 * Config.msTicks ∧ Config.peerTicks = 5000 * Config.msTicks ∧
  Config.settleTicks = 500 * Config.msTicks ∧ Config.lockTicks = 500 * Config.msTicks ∧
  Config.lidTicks = 2000 * Config.msTicks ∧ Config.identifyTicks = 100 * Config.msTicks ∧
  Config.muteTicks = 200 * Config.msTicks

/-- O4. For every integer x and every positive divisor D, the quotient of the model is sign(x) times floor((|x| + D/2) /
D), computed exactly over the rationals. The filter step adds the arithmetic right shift of the difference, which
rounds toward minus infinity. The integer square root r of n satisfies r² ≤ n < (r + 1)². (R2.) -/
def Obligations.DivisionsRoundHalfAwayFromZero : Prop :=
  (∀ (x : Int) (d : Nat), 0 < d →
    roundDiv x d = x.sign * ⌊((|x| : ℚ) + (d : ℚ) / 2) / (d : ℚ)⌋) ∧
  (∀ (f : Nat) (average sample : Int),
    filterStep f average sample = average + ((sample - average) >>> f) ∧
    ((filterStep f average sample - average) * 2 ^ f ≤ sample - average ∧
      sample - average < (filterStep f average sample - average + 1) * 2 ^ f)) ∧
  ∀ n : Nat, isqrt n * isqrt n ≤ n ∧ n < (isqrt n + 1) * (isqrt n + 1)

/-- O5. Out of reset, on a change of the phases of channel i. On a live channel, if one phase changes by itself and the
new count lies in the signed 32-bit range, the position moves by one, up when A leads B, and nothing else changes but
the pins. If the count would leave the range, or both phases change, the position is kept, the channel's referenced
flag is cleared, and a motion fault of cause OVERRANGE or ENCODER follows. On an inert channel only the pins change. A
command that changes no phase lets only time pass, the model's choice of log entry 5. Which transitions have A leading
is the model's reading of log entry 28. (spec/01_axis_channels.md, Counting the scale.) -/
def Obligations.ScaleTransitionCountsOrFaults : Prop :=
  ∀ (i : Fin 4) (a b : Bool) (t : Tick) (s : State), s.inReset = false →
    let old := s.pins.channels.get i
    let u : State := { advance t s with
      pins := { s.pins with channels := s.pins.channels.set i.val { old with phaseA := a, phaseB := b } } }
    let up : Bool := if a ≠ old.phaseA then old.phaseA == old.phaseB else old.phaseA != old.phaseB
    let x : Int := if up then (s.axis i).position + 1 else (s.axis i).position - 1
    (s.live i = true → (a ≠ old.phaseA ↔ b = old.phaseB) → inInt32 x = true →
      exec (.scaleTransition i a b t) s = .next (finish (u.setAxis i { s.axis i with position := x }))) ∧
    (s.live i = true → (a ≠ old.phaseA ↔ b = old.phaseB) → inInt32 x = false →
      exec (.scaleTransition i a b t) s =
        .next (finish (motionFault i .overrange (u.setAxis i { s.axis i with referenced := false })))) ∧
    (s.live i = true → a ≠ old.phaseA → b ≠ old.phaseB →
      exec (.scaleTransition i a b t) s =
        .next (finish (motionFault i .encoder (u.setAxis i { s.axis i with referenced := false })))) ∧
    (s.live i = false → (a ≠ old.phaseA ∨ b ≠ old.phaseB) →
      exec (.scaleTransition i a b t) s = .next (finish u)) ∧
    (a = old.phaseA → b = old.phaseB →
      exec (.scaleTransition i a b t) s = .next (finish (advance t s)))

/-- O6. In every state a motion fault of axis i sets fault-pending, makes motion FAULTED with drive-enable high and leaves
the gate as it was with it low, turns the amplifiers off, makes every live channel's drive demand 0 and its demand
equal to its position, keeps positions, rings, records and referenced flags, empties the queue, ends a probe change,
latches MOTION FAULT with axis and cause (counting up to 255 while it is pending), and ends a head segment of the room
as MOTION FAULT. A probe change in progress ends FAILED with its phase and cause MOTION FAULT, an outcome taken before
standing (log entry 18): both its records are UNKNOWN, the lids and the lock are left, and a deferred expiry is taken.
With no change in progress, and no head but one of the room, the probe unit is kept, with a head a QUEUED claim that
was made for it is withdrawn, or outlives it while its attempt is in flight, one that has outlived its own head stays,
and on a joined line exactly the FIRM zones outside the keep set go free; without a head zones and slots are kept, the
model's choice of log entry 54. Nothing changes outside motion, zones, probes, slots, notices and the attempt in
flight. (spec/01_axis_channels.md, Motion faults; spec/07_probes_and_the_rack.md, Interruptions and the commit
stretch; spec/04_segments_and_motion.md, Auto-release; spec/05_zones_on_the_bed.md, Claiming.) -/
def Obligations.MotionFaultStopsTheStation : Prop :=
  ∀ (i : Fin 4) (cause : FaultCause) (s : State),
    let t := motionFault i cause s
    t.faultPending = true ∧ t.gate = (if s.pins.driveEnable then .faulted else s.gate) ∧
      ampOn t = false ∧
      (∀ k, t.axis k = if s.live k then
          { s.axis k with demand := (s.axis k).position, driveOut := 0, followErr := 0 } else s.axis k) ∧
      t.motion.queue = [] ∧ t.probes.change.active = false ∧
      t.notices.get 1 =
        { pending := true, detail := some (.motionFault i cause),
          count := if (s.notices.get 1).pending then min 255 ((s.notices.get 1).count + 1) else 1 } ∧
      (∀ seg rest, s.motion.queue = seg :: rest → seg.issuer = .room →
        (t.notices.get 6).pending = true ∧ (t.notices.get 6).detail =
          some (.segmentEnd seg.number .motionFault (min 7 (seg.flushed + rest.length)))) ∧
      (s.probes.change.active = true → PowerLost .motionFault s t) ∧
      (s.probes.change.active = false → (∀ seg rest, s.motion.queue = seg :: rest → seg.issuer = .room) →
        HeadDropped s t) ∧
      MotionOnly { s with faultPending := true, gate := t.gate, axes := t.axes } t

/-- O7. Out of reset: the input follows its level. Going active on a live channel it is a motion fault of cause END MIN or
END MAX; going inactive, or on an inert channel, it changes the pin and nothing else; a level that does not change is
no event, the model's choice of log entry 5. The end state of every channel is computed from its two inputs.
(spec/01_axis_channels.md, Motion faults.) -/
def Obligations.EndOfTravelFaultsOnGoingActive : Prop :=
  (∀ (i : Fin 4) (e : TravelEnd) (active : Bool) (t : Tick) (s : State), s.inReset = false →
    let old := s.pins.channels.get i
    let level := match e with
      | .min => old.atMin
      | .max => old.atMax
    let new : ChannelPins := match e with
      | .min => { old with atMin := active }
      | .max => { old with atMax := active }
    let u : State := { advance t s with pins := { s.pins with channels := s.pins.channels.set i.val new } }
    let cause : FaultCause := match e with
      | .min => .endMin
      | .max => .endMax
    exec (.endOfTravelInput i e active t) s = .next (finish (
      if level ≠ active ∧ active = true ∧ s.live i = true then motionFault i cause u
      else if level ≠ active then u else advance t s))) ∧
  ∀ (s : State) (i : Fin 4),
    endState s i = match (s.pins.channels.get i).atMin, (s.pins.channels.get i).atMax with
      | false, false => .none
      | true, false => .atMin
      | false, true => .atMax
      | true, true => .atBoth

/-- O8. Out of reset, after a servo sample at tick t: every live channel keeps its position, record and referenced flag,
and its ring is the latest 64 of its entries with (t, position) joined last. If the amplifiers are on afterwards, the
drive demand is 4 times the change of the demand since the state before (where the amplifiers came on between two
samples that is the position at that moment, log entry 51) plus round(error / 64), clamped to ±32,767, the error is
the demand less the position, and that of a channel set up is within its following limit. If they are off, the demand
equals the position and drive demand and error are 0. An inert channel keeps everything and its drive demand stays as
it was. The latch, the pins, the records, the temperature unit and the station setup are unchanged. The motion faults
it finds: with the amplifiers off none; with them on, of each live channel in channel order, FOLLOWING where it is set
up and the new demand and the position lie further apart than its following limit, END MAX where that input is active
and the new demand is above that of the state before, END MIN where that input is active and it is below, and NOT
FOUND where its unmarked reference search, MOVING, has travelled past 2^31 − 1 counts, in this order, the model's
choice of log entry 13. The new demand is that of the path of a MOVING or STOPPING head after one period (beyond the
signed 32-bit range a free value, log entry 9) and otherwise the one before. Where any is found, each is latched on
MOTION FAULT in that order, fault-pending is set, motion FAULTED, every drive demand of a live channel 0 with its
demand at its position, the queue empty, no probe change in progress, and a head of the room has ended MOTION FAULT.
(spec/01_axis_channels.md, Demand and drive; spec/01_axis_channels.md, The servo sample and the history ring;
spec/01_axis_channels.md, Motion faults; spec/01_axis_channels.md, Referencing.) -/
def Obligations.ServoSampleFillsRingsAndDrives : Prop :=
  (∀ (t : Tick) (s : State), s.inReset = false → ∃ u, exec (.servoSample t) s = .next u ∧
    (∀ i, s.live i = true →
      (u.axis i).position = (s.axis i).position ∧ (u.axis i).record = (s.axis i).record ∧
      (u.axis i).comp = (s.axis i).comp ∧ (u.axis i).referenced = (s.axis i).referenced ∧
      (u.axis i).ring =
        (let r := (s.axis i).ring ++ [{ tick := t, count := (s.axis i).position }]
         if 64 < r.length then r.drop 1 else r) ∧
      (ampOn u = true →
        (u.axis i).followErr = (u.axis i).demand - (s.axis i).position ∧
        (u.axis i).driveOut = max (-32767) (min 32767
          (4 * ((u.axis i).demand - (s.axis i).demand) + roundDiv ((u.axis i).demand - (s.axis i).position) 64)) ∧
        ((s.axis i).record.setUp = true →
          ((u.axis i).demand - (s.axis i).position).natAbs ≤ (s.axis i).record.followLimit)) ∧
      (ampOn u = false →
        (u.axis i).demand = (s.axis i).position ∧ (u.axis i).driveOut = 0 ∧ (u.axis i).followErr = 0)) ∧
    (∀ i, s.live i = false → u.axis i = s.axis i) ∧
    u.latch = s.latch ∧ u.pins = s.pins ∧ u.thermal = s.thermal ∧ u.station = s.station ∧ u.axisCount = s.axisCount ∧
    u.pending = s.pending) ∧
  ∀ (t : Tick) (s : State), s.inReset = false →
    let a := advance t s
    let demand : Fin 4 → Int := fun i => match s.motion.queue with
      | [] => (s.axis i).demand
      | seg :: _ => if seg.state = .moving ∨ seg.state = .stopping then
          fit32 a.freeIx (pathDemand s (stepSegment a seg) i) else (s.axis i).demand
    let ranOut : Fin 4 → Prop := fun i => ∃ seg rest, s.motion.queue = seg :: rest ∧ seg.kind = .reference ∧
      seg.axis = i ∧ seg.state = .moving ∧ seg.traj.marked = false ∧
      2147483647 < roundDiv (stepSegment a seg).traj.s 65536
    let finds : Fin 4 → FaultCause → Prop := fun i c => match c with
      | .following => (s.axis i).record.setUp = true ∧
          (s.axis i).record.followLimit < (demand i - (s.axis i).position).natAbs
      | .endMax => (s.pins.channels.get i).atMax = true ∧ (s.axis i).demand < demand i
      | .endMin => (s.pins.channels.get i).atMin = true ∧ demand i < (s.axis i).demand
      | .notFound => ranOut i
      | .encoder | .overrange => False
    let fs := periodFaults (demands s) (sampled t s)
    let order : Fin 4 × FaultCause → Nat := fun f =>
      f.1.val * 6 + [FaultCause.following, .endMax, .endMin, .notFound].idxOf f.2
    (ampOn s = false → fs = []) ∧
    (ampOn s = true →
      (∀ i, s.live i = true → ((sampled t s).axis i).demand = demand i) ∧
      (∀ i c, (i, c) ∈ fs ↔ s.live i = true ∧ finds i c) ∧ fs.Pairwise (fun x y => order x < order y) ∧
      (fs ≠ [] → ∃ v, exec (.servoSample t) s = .next (finish v) ∧ v.faultPending = true ∧ v.gate = .faulted ∧
        ampOn v = false ∧ v.motion.queue = [] ∧ v.probes.change.active = false ∧
        (∀ i, s.live i = true → (v.axis i).driveOut = 0 ∧ (v.axis i).demand = (s.axis i).position) ∧
        v.notices.get 1 = fs.foldl (fun l f => l.event (.motionFault f.1 f.2)) (s.notices.get 1) ∧
        ∀ seg rest, s.motion.queue = seg :: rest → seg.issuer = .room → (v.notices.get 6).detail =
          some (.segmentEnd seg.number .motionFault (min 7 (seg.flushed + rest.length)))))

/-- O9. Out of reset, with a head REFERENCE segment of live axis i that is MOVING or STOPPING and has not met its mark,
and with every sum in the signed 32-bit range: the position becomes the reference value, the demand and every ring
entry rise by the same offset, the channel is referenced, the following error is unchanged, and the search counts as
marked with its start moved along. Otherwise a mark changes nothing but time. A sum outside the range is a free value
(log entry 9). (spec/01_axis_channels.md, Referencing.) -/
def Obligations.ReferenceMarkOffsetsItsAxis : Prop :=
  (∀ (i : Fin 4) (t : Tick) (s : State) (seg : Segment) (rest : List Segment), s.inReset = false →
    s.motion.queue = seg :: rest → (seg.state = .moving ∨ seg.state = .stopping) → seg.kind = .reference →
    seg.axis = i → seg.traj.marked = false → s.live i = true →
    let a := s.axis i
    let d := a.record.refValue - a.position
    inInt32 a.record.refValue = true → inInt32 (a.demand + d) = true →
    (∀ e ∈ a.ring, inInt32 (e.count + d) = true) →
    let seg' : Segment := { seg with traj := { seg.traj with
      start := seg.traj.start.set i.val (seg.traj.start.get i + d), marked := true } }
    exec (.referenceMark i t) s = .next (finish
      (setQueue (seg' :: rest) ((advance t s).setAxis i { a with
        position := a.record.refValue
        demand := a.demand + d
        ring := a.ring.map fun e => { e with count := e.count + d }
        referenced := true })))) ∧
  ∀ (i : Fin 4) (t : Tick) (s : State), s.inReset = false →
    (∀ seg rest, s.motion.queue = seg :: rest → (seg.state = .moving ∨ seg.state = .stopping) →
      seg.kind = .reference → seg.axis = i → seg.traj.marked = false → s.live i = false) →
    exec (.referenceMark i t) s = .next (finish (advance t s))

/-- O10. Out of reset, a servo sample with the amplifiers on that finds no motion fault moves a head of the room one
period along its path. STOPPING with the demand at rest it leaves the queue with the outcome of its stopping cause;
MOVING with its demand arrived it leaves ARRIVED once every axis that moved, or the axis of a REFERENCE, lies within
its in-position window of its demand; a PROBE segment with its demand arrived leaves MISSED at once, the queue behind
it removed and counted. SEGMENT END carries number, outcome and the count flushed, and the segments behind keep their
order. Otherwise the head stays, as the period left it. Before the step's end nothing changes outside motion, zones,
probes, slots, notices, the attempt in flight, the axes and the companion requests. A MOVING unmarked reference search
of a live axis whose travel passes 2^31 − 1 counts is a motion fault: fault-pending is set, motion FAULTED, the queue
empty, the head ended MOTION FAULT, MOTION FAULT latched, with NOT FOUND of its axis when no other fault is found, and
the referenced flags stay. The model's choices: that the search must be MOVING is log entry 39, that the sample of
demand arrival is looked at 12, a segment without travel 41, the order within a sample 13, a timeout at its deadline
only 3. With a MOVING head of the room whose settle deadline the tick reaches: the head leaves the queue with outcome
UNSETTLED on SEGMENT END, the segments behind it keep their order, and nothing changes outside motion, zones, probes,
slots, notices and the attempt in flight before the step's end. A head of the probe unit, alone in the queue of a
change with no outcome taken: at its settle deadline it leaves and its phase fails with SETTLE FAULT, and STOPPING
CONFLICT with its demand at rest it leaves and the phase fails with CONFLICT, the change ended; with an outcome taken,
it leaves at rest and the change ends with that outcome. With no settle wait due, only time passes.
(spec/04_segments_and_motion.md, How segments end; spec/04_segments_and_motion.md, Trajectory;
spec/01_axis_channels.md, Referencing; spec/07_probes_and_the_rack.md, Rack segments; spec/07_probes_and_the_rack.md,
Failures.) -/
def Obligations.SettleTimeoutEndsTheHeadUnsettled : Prop :=
  (∀ (t : Tick) (s : State) (seg : Segment) (rest : List Segment), s.inReset = false → ampOn s = true →
    SoundSample t s → s.motion.queue = seg :: rest → seg.issuer = .room →
    let seg' := stepSegment (advance t s) seg
    let atRest := seg'.traj.u = 0 ∨ (seg.kind ≠ .reference ∧ seg'.traj.s = seg'.traj.len * 65536)
    let moved := fun i => if seg.kind = .reference then i = seg.axis
      else s.live i = true ∧ seg.lineEnd.get i ≠ seg.traj.start.get i
    let near := ∀ i, moved i →
      (((sampled t s).axis i).demand - (s.axis i).position).natAbs ≤ (s.axis i).record.window
    ∃ v, exec (.servoSample t) s = .next (finish v) ∧
      MotionOnly { advance t s with axes := v.axes, capture := { s.capture with requests := v.capture.requests } } v ∧
      (∀ o, seg.state = .stopping → seg.outcome = some o → atRest →
        v.motion.queue.map (fun x => x.number) = rest.map (fun x => x.number) ∧
        (v.notices.get 6).detail = some (.segmentEnd seg.number o seg.flushed)) ∧
      (seg.state = .moving → seg'.traj.arrived = true → seg.kind ≠ .probe → near →
        v.motion.queue.map (fun x => x.number) = rest.map (fun x => x.number) ∧
        (v.notices.get 6).detail = some (.segmentEnd seg.number .arrived seg.flushed)) ∧
      (seg.state = .moving → seg'.traj.arrived = true → seg.kind = .probe →
        v.motion.queue = [] ∧
        (v.notices.get 6).detail = some (.segmentEnd seg.number .missed (min 7 (seg.flushed + rest.length)))) ∧
      ((seg.state = .stopping ∧ ¬ atRest) ∨
          (seg.state = .moving ∧ (seg'.traj.arrived = false ∨ (seg.kind ≠ .probe ∧ ¬ near))) →
        v.motion.queue = seg' :: rest)) ∧
  (∀ (t : Tick) (s : State) (seg : Segment) (rest : List Segment), s.inReset = false → ampOn s = true →
    s.motion.queue = seg :: rest → seg.issuer = .room → seg.kind = .reference → seg.state = .moving →
    seg.traj.marked = false → s.live seg.axis = true →
    2147483647 < roundDiv (stepSegment (advance t s) seg).traj.s 65536 →
    ∃ v, exec (.servoSample t) s = .next (finish v) ∧ v.faultPending = true ∧ v.gate = .faulted ∧
      v.motion.queue = [] ∧ (v.notices.get 1).pending = true ∧
      (v.notices.get 6).detail = some (.segmentEnd seg.number .motionFault (min 7 (seg.flushed + rest.length))) ∧
      (∀ i, (v.axis i).referenced = (s.axis i).referenced) ∧
      (periodFaults (demands s) (sampled t s) = [(seg.axis, .notFound)] →
        (v.notices.get 1).detail = some (.motionFault seg.axis .notFound))) ∧
  (∀ (t : Tick) (s : State) (seg : Segment) (rest : List Segment) (d : Nat), s.inReset = false →
    s.motion.queue = seg :: rest → seg.state = .moving → seg.issuer = .room → seg.traj.settle = some d →
    d ≤ (advance t s).uptime →
    ∃ v, exec (.settleTimeout t) s = .next (finish v) ∧ MotionOnly (advance t s) v ∧
      v.motion.queue.map (fun x => x.number) = rest.map (fun x => x.number) ∧
      (v.notices.get 6).pending = true ∧
      (v.notices.get 6).detail = some (.segmentEnd seg.number .unsettled seg.flushed)) ∧
  (∀ (t : Tick) (s : State) (seg : Segment), s.inReset = false → s.motion.queue = [seg] → seg.issuer = .probeUnit →
    s.probes.change.active = true →
    (∀ d, s.probes.change.result = none → seg.state = .moving → seg.traj.settle = some d → d ≤ (advance t s).uptime →
      ∃ v, exec (.settleTimeout t) s = .next (finish v) ∧ MotionOnly (advance t s) v ∧ v.motion.queue = [] ∧
        PhaseFailed .settleFault s v) ∧
    (ampOn s = true → SoundSample t s → seg.state = .stopping →
      (let traj := (stepSegment (advance t s) seg).traj
       traj.u = 0 ∨ (seg.kind ≠ .reference ∧ traj.s = traj.len * 65536)) →
      ∃ v, exec (.servoSample t) s = .next (finish v) ∧ v.motion.queue = [] ∧
        (s.probes.change.result = none → seg.outcome = some .conflict → PhaseFailed .conflict s v) ∧
        ∀ r, s.probes.change.result = some r → v.probes = { s.probes with change := Change.idle s.probes.change.last } ∧
          v.notices.get 4 = (s.notices.get 4).event (.probeChangeEnd s.probes.change.target r))) ∧
  ∀ (t : Tick) (s : State), s.inReset = false →
    (∀ seg rest, s.motion.queue = seg :: rest → seg.state = .moving →
      (advance t s).due seg.traj.settle = false) →
    exec (.settleTimeout t) s = .next (finish (advance t s))

/-- O11. Out of reset with drive-enable high, the fall makes the input low, motion DISABLED whatever it was, every live
channel's drive demand 0 with its demand at its position (at once, the model's choice of log entry 53), keeps fault-
pending, positions, rings, the latch and referenced flags, empties the queue, ends a probe change, and latches DRIVE
CHANGE with level low; a head of the room ends DRIVES OFF. A probe change in progress ends FAILED with its phase and
cause DRIVES OFF, an outcome taken before standing (log entry 18): both its records are UNKNOWN, the lids and the lock
are left, and a deferred expiry is taken. With no change in progress, and no head but one of the room, the probe unit
is kept, with a head a QUEUED claim that was made for it is withdrawn, or outlives it while its attempt is in flight,
one that has outlived its own head stays, and on a joined line exactly the FIRM zones outside the keep set go free;
without a head zones and slots are kept, the model's choice of log entry 54. With the input low already there is no
edge, the model's choice of log entry 5. Out of reset with drive-enable low, the rise makes the input high, motion
FAULTED if a fault is pending and otherwise normal, holds the live axes where they stand if the amplifiers come on,
and latches DRIVE CHANGE with level high. Nothing else changes before the step's end. With the input high already
there is no edge (log entry 5). (spec/01_axis_channels.md, The drive-enable input; spec/07_probes_and_the_rack.md,
Interruptions and the commit stretch; spec/04_segments_and_motion.md, Auto-release; spec/05_zones_on_the_bed.md,
Claiming.) -/
def Obligations.DriveEnableEdgesDisableAndRestoreMotion : Prop :=
  ((∀ (t : Tick) (s : State), s.inReset = false → s.pins.driveEnable = true →
    ∃ v, exec (.driveEnableFall t) s = .next (finish (latchNotice (.driveChange false) v)) ∧
      v.gate = .disabled ∧ ampOn v = false ∧ v.pins.driveEnable = false ∧
      (∀ k, v.axis k = if s.live k then
          { s.axis k with demand := (s.axis k).position, driveOut := 0, followErr := 0 } else s.axis k) ∧
      v.motion.queue = [] ∧ v.probes.change.active = false ∧
      (∀ seg rest, s.motion.queue = seg :: rest → seg.issuer = .room →
        (v.notices.get 6).detail =
          some (.segmentEnd seg.number .drivesOff (min 7 (seg.flushed + rest.length)))) ∧
      (s.probes.change.active = true → PowerLost .drivesOff s v) ∧
      (s.probes.change.active = false → (∀ seg rest, s.motion.queue = seg :: rest → seg.issuer = .room) →
        HeadDropped s v) ∧
      MotionOnly { advance t s with
        pins := { s.pins with driveEnable := false }, gate := .disabled, axes := v.axes } v) ∧
  ∀ (t : Tick) (s : State), s.inReset = false → s.pins.driveEnable = false →
    exec (.driveEnableFall t) s = .next (finish (advance t s))) ∧
  ((∀ (t : Tick) (s : State), s.inReset = false → s.pins.driveEnable = false →
    let u : State := { advance t s with
      pins := { s.pins with driveEnable := true }, gate := if s.faultPending then .faulted else .normal }
    let v : State := if ampOn u = true then
        u.mapAxes fun i a => if s.live i then { a with demand := a.position } else a
      else u
    exec (.driveEnableRise t) s = .next (finish (latchNotice (.driveChange true) v))) ∧
  ∀ (t : Tick) (s : State), s.inReset = false → s.pins.driveEnable = true →
    exec (.driveEnableRise t) s = .next (finish (advance t s)))

/-- O12. A CLEAR that reaches its answer. In RUN from a station that is not the controlling one it is refused with NOT
CONTROLLER. With a payload other than the destination it is refused with BAD VALUE. With drive-enable low it is
refused with BUSY and changes nothing. Otherwise the reply is DONE and fault-pending is cleared; motion that was
FAULTED leaves it, to HELD in RUN with the permit lapsed and otherwise to what the queue makes it, IDLE with an empty
queue, and in RUN the live axes hold their present positions when the amplifiers come on; motion in any other state is
left as it is. No referenced flag, end state or notice latch is changed by it. The length check is that of R167, the
motion state of a normal gate the table of R57. (spec/01_axis_channels.md, The drive-enable input;
spec/09_frames_and_transmit_slots.md, Commands and their answers; spec/04_segments_and_motion.md, Motion state.) -/
def Obligations.ClearLeavesFaulted : Prop :=
  (∀ (f : RxFrame) (s : State), Commands 11 f s →
    let h := heard f s
    let cleared : State := { h with faultPending := false, gate := if s.gate = .faulted then .normal else s.gate }
    let held : State := if s.gate = .faulted ∧ ampOn cleared = true then
        cleared.mapAxes fun i a => if s.live i then { a with demand := a.position } else a
      else cleared
    (s.station.mode = .run → f.sender.toNat ≠ s.station.controller →
      exec (.clear f) s = .next (answered 11 f .notController 0 h)) ∧
    ((s.station.mode = .run → f.sender.toNat = s.station.controller) →
      (f.payload.length ≠ 1 → exec (.clear f) s = .next (answered 11 f .badValue 0 h)) ∧
      (f.payload.length = 1 → s.pins.driveEnable = false →
        exec (.clear f) s = .next (answered 11 f .busy 0 h)) ∧
      (f.payload.length = 1 → s.pins.driveEnable = true →
        exec (.clear f) s = .next (answered 11 f .done 0 held)))) ∧
  ∀ s : State, s.gate = .normal →
    motionState s = if s.station.mode = .run ∧ s.motion.permit = .lapsed then .held
      else match s.motion.queue with
        | [] => .idle
        | seg :: _ => if seg.state = .moving ∨ seg.state = .stopping then .moving else .waiting

/-- O13. For every shift f, average and sample: the step adds the difference shifted right by f places toward minus
infinity, the result lies between the average and the sample, and with f equal to 0 it is the sample. A difference of
−37 shifted by 2 gives −10 and one of +37 gives +9. A good read that seeds or reseeds a channel (first accepted sample
of SETTLING, FAULTED, or the fourth reject in HELD) sets the average to the sample. After any read of a channel whose
average lies within −10,000 to 60,000 the average still does. A new shift leaves the averages of the channels that
stay enabled. A VALID channel whose reject count and held age are 0 accepts a good read within 1,500 mK and steps,
becomes HELD with reject count 1 and age 1 on a spike, and HELD with age 1 on a failure. A HELD channel becomes VALID
again on a near sample; on a spike with fewer than 3 rejects before it counts the reject and the age; the fourth
reject reseeds it to VALID; a failure raises the age alone. An age that passes 5 makes it FAULTED with the counts 0
and the average kept. A SETTLING channel accepts every good read: the first seeds its average, each later one is a
step, the settling count rises by 1 and the age is 0, and the fourth makes it VALID with the counts 0; a failure
raises the age, FAULTED past 5. A FAULTED channel becomes SETTLING on a good read, its average the sample, its
settling count 1 and its age 0; a failure raises the age alone, up to 255. An UNUSED channel keeps its record. A read
is good within −10,000 to 60,000 and otherwise a failure. Every good read of a channel that is not UNUSED writes the
last sample and no failure does (R24). THERMAL is called for exactly where a channel becomes FAULTED, or a FAULTED one
SETTLING. The mask and the shift are those of R26. (spec/02_temperature_channels_and_figures.md, The filter;
spec/02_temperature_channels_and_figures.md, Channel states; spec/02_temperature_channels_and_figures.md, Enabling a
channel and setting the shift; spec/02_temperature_channels_and_figures.md, The sensor chain.) -/
def Obligations.SensorChannelsFilterRejectAndReseed : Prop :=
  ((∀ (f : Nat) (a v : Int), filterStep f a v = a + ((v - a) >>> f) ∧
    min a v ≤ filterStep f a v ∧ filterStep f a v ≤ max a v ∧ filterStep 0 a v = v) ∧
  filterStep 2 0 (-37) = -10 ∧ filterStep 2 0 37 = 9 ∧
  (∀ (f : Nat) (v : Int) (ch : Channel),
    ((ch.state = .settling ∧ ch.settle = 0) ∨ ch.state = .faulted ∨
      (ch.state = .held ∧ 1500 < (v - ch.average).natAbs ∧ 3 ≤ ch.rejects)) →
    (applyGood f v ch).1.average = v) ∧
  (∀ (f : Nat) (read : SensorRead) (ch : Channel), -10000 ≤ ch.average → ch.average ≤ 60000 →
    -10000 ≤ (applyRead f read ch).1.average ∧ (applyRead f read ch).1.average ≤ 60000) ∧
  ∀ (mask : BitVec 16) (shift : Nat) (t : Thermal) (c : Fin 16),
    mask.getLsbD c.val = true → t.mask.getLsbD c.val = true →
    ((applyMask mask shift t).channels.get c).average = (t.channels.get c).average) ∧
  ((∀ (f : Nat) (read : SensorRead) (ch : Channel),
    let good := match read with
      | .value v => -10000 ≤ v ∧ v ≤ 60000
      | .failed => False
    let r := applyRead f read ch
    (∀ v, read = .value v → good → r = applyGood f v ch) ∧ (¬ good → r = applyFailed ch) ∧
    (r.2 = true ↔ (ch.state ≠ .faulted ∧ r.1.state = .faulted) ∨ (ch.state = .faulted ∧ r.1.state = .settling)) ∧
    (∀ v, read = .value v → good → ch.state ≠ .unused → r.1.last = v) ∧ (¬ good → r.1.last = ch.last) ∧
    (ch.state = .unused → r.1 = ch)) ∧
  ∀ (f : Nat) (v : Int) (ch : Channel),
    let near := (v - ch.average).natAbs ≤ 1500
    let aged : Channel → Channel := fun c =>
      if 5 < min 255 (c.heldAge + 1) then
        { c with state := .faulted, heldAge := min 255 (c.heldAge + 1), rejects := 0, settle := 0 }
      else { c with heldAge := min 255 (c.heldAge + 1) }
    (ch.state = .valid → ch.rejects = 0 → ch.heldAge = 0 →
      (near → (applyGood f v ch).1 = { ch with last := v, average := filterStep f ch.average v }) ∧
      (¬ near → (applyGood f v ch).1 = { ch with last := v, state := .held, rejects := 1, heldAge := 1 }) ∧
      (applyFailed ch).1 = { ch with state := .held, heldAge := 1 }) ∧
    (ch.state = .held →
      (near → (applyGood f v ch).1 =
        { ch with last := v, state := .valid, average := filterStep f ch.average v, rejects := 0, heldAge := 0 }) ∧
      (¬ near → ch.rejects ≤ 2 →
        (applyGood f v ch).1 = aged { ch with last := v, rejects := ch.rejects + 1 }) ∧
      (¬ near → 3 ≤ ch.rejects → (applyGood f v ch).1 =
        { ch with last := v, state := .valid, average := v, rejects := 0, heldAge := 0 }) ∧
      (applyFailed ch).1 = aged ch) ∧
    (ch.state = .settling →
      let average := if ch.settle = 0 then v else filterStep f ch.average v
      (ch.settle < 3 → (applyGood f v ch).1 =
        { ch with last := v, average := average, settle := ch.settle + 1, heldAge := 0 }) ∧
      (3 ≤ ch.settle → (applyGood f v ch).1 =
        { ch with last := v, state := .valid, average := average, rejects := 0, heldAge := 0, settle := 0 }) ∧
      (applyFailed ch).1 = aged ch) ∧
    (ch.state = .faulted →
      (applyGood f v ch).1 = { ch with last := v, state := .settling, average := v, heldAge := 0, settle := 1 } ∧
      (applyFailed ch).1 = { ch with heldAge := min 255 (ch.heldAge + 1) }))

/-- O14. Out of reset: if the channel of the slot was being read, its record takes the outcome of the read and THERMAL is
latched with the new state where the state rules say so; at the end of slot 15 a publishing station whose line is
joined queues its TEMP with the local figure; then the next slot begins, with a read if its channel is enabled.
Nothing else changes before the step's end. That the slots end when commanded is the model's choice of log entry 29.
(spec/02_temperature_channels_and_figures.md, The sensor chain; spec/02_temperature_channels_and_figures.md,
Publishing.) -/
def Obligations.SensorSlotEndAppliesItsRead : Prop :=
  ∀ (read : SensorRead) (t : Tick) (s : State), s.inReset = false →
    let c := s.thermal.slot
    let r := applyRead s.thermal.shift read (s.thermal.channels.get c)
    let a := advance t s
    let b : State := if s.thermal.reading = true then
        { a with
          thermal := { s.thermal with channels := s.thermal.channels.set c.val r.1 }
          notices := if r.2 = true then
              s.notices.set 7 ((s.notices.get 7).event (.thermal c r.1.state)) else s.notices }
      else a
    let d : State := if c = 15 ∧ s.thermal.publish = true ∧ joined s = true then
        { b with slots := { s.slots with
            temp := s.slots.temp.put (inFlight s .temp) takeLater (localFigure b.thermal) } }
      else b
    exec (.sensorSlotEnd read t) s = .next (finish { d with
      thermal := { d.thermal with slot := c + 1, reading := s.thermal.mask.getLsbD (c + 1).val } })

/-- O15. The scale figure of an axis is the average of the channel it names, FRESH when that channel is VALID and STALE
when it is HELD, and otherwise, or with none named, 20,000 ABSENT. The LOCAL workpiece figure is 20,000 ABSENT when no
listed channel is VALID or HELD, and otherwise the sum of the averages of those that are, divided by their number and
rounded, FRESH when every listed channel is VALID and STALE when not. A TEMP that the station hears, with the source
PEER and from the peer station named, with a figure within −10,000 to 60,000 and a quality FRESH, STALE or ABSENT: the
peer record takes figure and quality, its standing is HEARD, and the recency timer runs 5 s from the start of frame.
Any other TEMP, of another length, sender, source, figure or quality, leaves the record. With a PEER source the
workpiece figure is 20,000 ABSENT for a record NEVER HEARD, GONE or of quality ABSENT; the last figure FRESH while the
timer runs and the quality is FRESH; and the last figure STALE otherwise. The expiry command, out of reset, stops a
timer whose deadline the tick reaches and changes nothing else but time; without such a timer only time passes. That
the expiry acts only at its deadline is the model's choice of log entry 3; the length of a TEMP is checked by R167.
(spec/02_temperature_channels_and_figures.md, The peer record; spec/02_temperature_channels_and_figures.md, The
workpiece figure; spec/09_frames_and_transmit_slots.md, Taking a frame; spec/02_temperature_channels_and_figures.md,
Scale figures.) -/
def Obligations.PeerTempsAndTheirTimerMakeTheFigure : Prop :=
  ((∀ (s : State) (i : Fin 4),
    let record := fun c : Fin 16 => s.thermal.channels.get c
    let named := (s.axis i).comp.scaleChannel
    (∀ c, named = some c → (record c).state = .valid →
      scaleFigure s i = { value := (record c).average, quality := .fresh }) ∧
    (∀ c, named = some c → (record c).state = .held →
      scaleFigure s i = { value := (record c).average, quality := .stale }) ∧
    ((∀ c, named = some c → (record c).state ≠ .valid ∧ (record c).state ≠ .held) →
      scaleFigure s i = { value := 20000, quality := .absent })) ∧
  (∀ t : Thermal,
    let listed := fun j : Fin 4 => (t.entries.get j).map t.channels.get
    let used := fun j => (listed j).any fun ch => ch.state == .valid || ch.state == .held
    let n := ∑ j, if used j = true then 1 else 0
    let total := ∑ j, if used j = true then ((listed j).map fun ch => ch.average).getD 0 else 0
    (n = 0 → localFigure t = { value := 20000, quality := .absent }) ∧
    (n ≠ 0 → localFigure t =
      { value := roundDiv total n
        quality := if ∀ j, (listed j).all (fun ch => ch.state == .valid) = true then .fresh else .stale })) ∧
  ∀ s : State, s.thermal.source = .localChannels → workFigure s = localFigure s.thermal) ∧
  (∀ (f : RxFrame) (s : State), Hears 28 f s →
    let figure := s32At f.payload 0
    let known := f.payload.length = 5 ∧ s.thermal.source = .peer ∧ f.sender.toNat = s.thermal.peerStation ∧
      -10000 ≤ figure ∧ figure ≤ 60000
    (∀ q : Quality, known → byteAt f.payload 4 = q.code →
      exec (.tempReceived f) s = .next (settled { heard f s with
        thermal := { s.thermal with peer :=
          { standing := .heard, figure := figure, quality := q,
            timer := some ((advance f.tick s).uptime - (f.tick - f.sof).toNat + 50000000) } } })) ∧
    (¬ (known ∧ byteAt f.payload 4 ≤ 2) → exec (.tempReceived f) s = .next (settled (heard f s)))) ∧
  ((∀ s : State, s.thermal.source = .peer →
    let p := s.thermal.peer
    workFigure s =
      if p.standing ≠ .heard ∨ p.quality = .absent then { value := 20000, quality := .absent }
      else if p.timer.isSome = true ∧ p.quality = .fresh then { value := p.figure, quality := .fresh }
      else { value := p.figure, quality := .stale }) ∧
  (∀ (t : Tick) (s : State) (d : Nat), s.inReset = false → s.thermal.peer.timer = some d → d ≤ (advance t s).uptime →
    exec (.peerTimerExpiry t) s = .next (finish { advance t s with
      thermal := { s.thermal with peer := { s.thermal.peer with timer := none } } })) ∧
  ∀ (t : Tick) (s : State), s.inReset = false → (∀ d, s.thermal.peer.timer = some d → (advance t s).uptime < d) →
    exec (.peerTimerExpiry t) s = .next (finish (advance t s)))

/-- O16. For every compensation record and raw count c, with d = c − m0: if d is negative the error is n[0] and MAP
OUTSIDE is set; if d shifted right by k is 64 or more it is n[64] and MAP OUTSIDE is set; otherwise, with i the
shifted d and f = d − i × 2^k, 0 ≤ f < 2^k, the error is n[i] + round((n[i+1] − n[i]) × f / 2^k), no flag is set, the
error lies between the two nodes, and it is n[i] exactly at f = 0. (R44; R45.) -/
def Obligations.MapErrorInterpolatesBetweenNodes : Prop :=
  ∀ (c : CompRecord) (x : Int),
    let d := x - c.origin
    let i := (d >>> c.shift).toNat
    let f := d - (i : Int) * 2 ^ c.shift
    let n := fun j : Nat => c.nodes[j]?.getD 0
    (d < 0 → mapError c x = (n 0, true)) ∧
    (0 ≤ d → 64 ≤ i → mapError c x = (n 64, true)) ∧
    (0 ≤ d → i < 64 → 0 ≤ f ∧ f < 2 ^ c.shift ∧
      mapError c x = (n i + roundDiv ((n (i + 1) - n i) * f) (2 ^ c.shift), false) ∧
      min (n i) (n (i + 1)) ≤ (mapError c x).1 ∧ (mapError c x).1 ≤ max (n i) (n (i + 1)) ∧
      (f = 0 → (mapError c x).1 = n i))

/-- O17. For every state, axis and raw count, with or without the tip: the value lies within ±2,000,000,000. On a LINEAR
axis with p1 the map-corrected count, s and w the rounded exact quotients of the scale and workpiece terms: if CLAMPED
is not set, |s| and |w| are at most 1,000,000 and the value is p1 + s − w plus the tip component of the probe on the
head that the axis selects (0 without one, or with the tip left out). In every case s is clamped to ±1,000,000, w is
formed from p1 and the clamped s and clamped alike, and the value is p1 + s − w plus the tip clamped to
±2,000,000,000; CLAMPED is set exactly when one of the three clamps acts. On an ANGULAR axis the value is p1 clamped
to ±2,000,000,000, p1 itself without CLAMPED, CLAMPED is set exactly when that clamp acts, and no thermal flag is set.
MAP OUTSIDE is that of the map step. THERMAL ABSENT and STALE follow the figures used: the scale figure when α_s is
not 0, the workpiece figure when α_w is not 0, and STALE only without ABSENT. For every target T on a LINEAR axis the
inverse correction is q − C, not clamped: q is T less the tip component as above, e the map error at q, s the scale
term of q + e and w the workpiece term of q + e and s, each clamped to ±1,000,000, and C = e + s − w. On an ANGULAR
axis it is T less the map error at T, without tip or thermal term. (spec/03_compensation_arithmetic.md, The forward
correction; spec/03_compensation_arithmetic.md, The inverse correction of targets.) -/
def Obligations.ForwardCorrectionIsBoundedAndFlagged : Prop :=
  let tipFor : State → CompRecord → Int := fun s c =>
    match c.tip, ids16.find? fun k => (s.probes.table.get k).location == .onHead with
    | some j, some k => (s.probes.table.get k).tip.get j
    | _, _ => 0
  let limit := fun (m y : Int) => max (-m) (min m y)
  (∀ (s : State) (i : Fin 4) (x : Int) (withTip : Bool),
    let c := (s.axis i).comp
    let r := forward s i x withTip
    let p1 := x + (mapError c x).1
    let sc := roundDiv (p1 * c.alpha * ((scaleFigure s i).value - 20000)) 1000000000000
    let w := roundDiv ((p1 + sc - c.datum) * s.thermal.alphaW * ((workFigure s).value - 20000)) 1000000000000
    let tip : Int := if withTip = true then tipFor s c else 0
    let used := fun q => (c.alpha ≠ 0 ∧ (scaleFigure s i).quality = q) ∨
      (s.thermal.alphaW ≠ 0 ∧ (workFigure s).quality = q)
    let sc' := limit 1000000 sc
    let w' := roundDiv ((p1 + sc' - c.datum) * s.thermal.alphaW * ((workFigure s).value - 20000)) 1000000000000
    let sum := p1 + sc' - limit 1000000 w' + tip
    r.value.natAbs ≤ 2000000000 ∧ r.mapOutside = (mapError c x).2 ∧
    ((s.axis i).record.kind = .linear →
      (r.clamped = false → sc.natAbs ≤ 1000000 ∧ w.natAbs ≤ 1000000 ∧ r.value = p1 + sc - w + tip) ∧
      r.value = limit 2000000000 sum ∧
      (r.clamped = true ↔ 1000000 < sc.natAbs ∨ 1000000 < w'.natAbs ∨ 2000000000 < sum.natAbs) ∧
      (r.absent = true ↔ used .absent) ∧ (r.stale = true ↔ used .stale ∧ ¬ used .absent)) ∧
    ((s.axis i).record.kind = .angular →
      (r.clamped = false → r.value = p1) ∧ r.value = limit 2000000000 p1 ∧
      (r.clamped = true ↔ 2000000000 < p1.natAbs) ∧ r.absent = false ∧ r.stale = false)) ∧
  ∀ (s : State) (i : Fin 4) (target : Int),
    let c := (s.axis i).comp
    ((s.axis i).record.kind = .linear →
      let q := target - tipFor s c
      let e := (mapError c q).1
      let p1 := q + e
      let sc := limit 1000000 (roundDiv (p1 * c.alpha * ((scaleFigure s i).value - 20000)) 1000000000000)
      let w := limit 1000000
        (roundDiv ((p1 + sc - c.datum) * s.thermal.alphaW * ((workFigure s).value - 20000)) 1000000000000)
      inverse s i target = q - (e + sc - w)) ∧
    ((s.axis i).record.kind = .angular → inverse s i target = target - (mapError c target).1)

/-- O18. A SETUP SCALE or SETUP MAP that reaches its answer outside RUN. With a live axis, the length of its form and
every field in its range, the reply is DONE and the fields are written: SETUP SCALE writes α_s, scale channel, origin,
shift, tip component and bed offset and keeps nodes and datum; SETUP MAP writes its values to consecutive nodes from
the first and keeps every other node. Otherwise the reply is BAD VALUE and nothing is written.
(spec/03_compensation_arithmetic.md, Parameters.) -/
def Obligations.SetupScaleAndMapWriteOneAxis : Prop :=
  (∀ (f : RxFrame) (s : State), Commands 21 f s → s.station.mode ≠ .run →
    let p := f.payload
    let ok := p.length = 17 ∧ -5000 ≤ s32At p 2 ∧ s32At p 2 ≤ 40000 ∧ (byteAt p 6 < 16 ∨ byteAt p 6 = 255) ∧
      8 ≤ byteAt p 11 ∧ byteAt p 11 ≤ 22 ∧ (byteAt p 12 < 3 ∨ byteAt p 12 = 255)
    (∀ i : Fin 4, byteAt p 1 = i.val → s.live i = true → ok →
      exec (.setupScale f) s = .next (answered 21 f .done 0 ((heard f s).setAxis i { s.axis i with
        comp := { (s.axis i).comp with
          alpha := s32At p 2, scaleChannel := finOf 16 (byteAt p 6), origin := s32At p 7, shift := byteAt p 11,
          tip := finOf 3 (byteAt p 12), bedOffset := s32At p 13 } }))) ∧
    (¬ (byteAt p 1 < s.axisCount ∧ byteAt p 1 < 4 ∧ ok) →
      exec (.setupScale f) s = .next (answered 21 f .badValue 0 (heard f s)))) ∧
  ∀ (f : RxFrame) (s : State), Commands 22 f s → s.station.mode ≠ .run →
    let p := f.payload
    let k := (p.length - 3) / 2
    let ok := 5 ≤ p.length ∧ (p.length - 3) % 2 = 0 ∧ byteAt p 2 ≤ 64 ∧ byteAt p 2 + k ≤ 65
    (∀ i : Fin 4, byteAt p 1 = i.val → s.live i = true → ok →
      ∃ nodes : Vector Int 65, exec (.setupMap f) s = .next (answered 22 f .done 0 ((heard f s).setAxis i
          { s.axis i with comp := { (s.axis i).comp with nodes := nodes } })) ∧
        ∀ j : Fin 65, nodes.get j =
          if byteAt p 2 ≤ j.val ∧ j.val < byteAt p 2 + k then s16At p (3 + 2 * (j.val - byteAt p 2))
          else (s.axis i).comp.nodes.get j) ∧
    (¬ (byteAt p 1 < s.axisCount ∧ byteAt p 1 < 4 ∧ ok) →
      exec (.setupMap f) s = .next (answered 22 f .badValue 0 (heard f s)))

/-- O19. A DATUM in RUN from the controlling station that reaches its answer. With a mask of 1 to 15 that names live
channels only and the length it calls for, the reply is DONE, every axis of the mask takes the datum carried for it,
in channel order, and every other axis keeps its own. Otherwise the reply is BAD VALUE and nothing is written.
(spec/03_compensation_arithmetic.md, The workpiece datum; spec/10_station_life_setup_and_status.md, DATUM.) -/
def Obligations.DatumWritesTheMaskedAxes : Prop :=
  ∀ (f : RxFrame) (s : State), Commands 14 f s → s.station.mode = .run → f.sender.toNat = s.station.controller →
    let p := f.payload
    let mask := byteAt p 1
    let named := axisIds.filter fun i => mask.testBit i.val
    let ok := mask ≠ 0 ∧ mask < 16 ∧ (∀ i ∈ named, s.live i = true) ∧ p.length = 2 + 4 * named.length
    (ok → exec (.datum f) s = .next (answered 14 f .done 0 ((heard f s).mapAxes fun i a =>
      if i ∈ named then { a with comp := { a.comp with datum := s32At p (2 + 4 * named.idxOf i) } } else a))) ∧
    (¬ ok → exec (.datum f) s = .next (answered 14 f .badValue 0 (heard f s)))

/-- O20. For a head that is WAITING or CLAIMING: one evaluation changes no other segment, and the head is MOVING after it
exactly when the permit is VALID, motion is neither DISABLED nor FAULTED, the line is joined, a PROBE segment finds at
most 15 records in the point buffer, and the view records every zone of the needed set FIRM to the station. Gone
MOVING it keeps every other field and has a new trajectory: from the present demand positions at progress and speed 0,
with the path length L the root, rounded down, of the sum of the squares of Δ over the live LINEAR axes, or with no
such change the largest |Δ| of the live ANGULAR axes, and a path speed of the segment's speed, lowered on each live
axis with Δ to max speed × L / |Δ|, rounded down but not below 1, except for a REFERENCE. If some needed zone is not
FIRM to it, then with one held by another station the head is WAITING and no claim is made; otherwise, with no own
claim, a joined line and some needed zone free, a claim for exactly the free zones of the needed set is queued and the
head is CLAIMING. A head in any other state is not touched. (spec/04_segments_and_motion.md, The head segment;
spec/04_segments_and_motion.md, Trajectory.) -/
def Obligations.HeadMovesWhenPermitDrivesLineRoomAndZonesAgree : Prop :=
  (∀ (s : State) (seg : Segment) (rest : List Segment), s.motion.queue = seg :: rest →
    (seg.state = .waiting ∨ seg.state = .claiming) →
    let needed := seg.needed.getD 0
    let mine := ∀ z, ZoneSet.has needed z = true →
      ∃ t, s.zones.view.get z = some { holder := s.line.number, standing := .firm, since := t }
    let others := ∃ z h, ZoneSet.has needed z = true ∧ s.zones.view.get z = some h ∧ h.holder ≠ s.line.number
    ∃ seg', (evaluateHead s).motion.queue = seg' :: rest ∧ seg'.number = seg.number ∧ seg'.needed = seg.needed ∧
      (seg'.state = .moving ↔
        s.motion.permit = .valid ∧ s.gate = .normal ∧ joined s = true ∧
        (seg.kind = .probe → s.capture.points.length ≤ 15) ∧ mine) ∧
      (seg'.state = .moving → ∃ len speed, seg' = { seg with
          state := .moving
          traj := { start := demands s, len := len, pathSpeed := speed, s := 0, u := 0, arrived := false, settle := none
                    marked := false } } ∧
        let d := fun i => (seg.lineEnd.get i - (s.axis i).demand).natAbs
        let along := fun i => s.live i = true ∧ (s.axis i).record.kind = .linear
        let turns := fun i => s.live i = true ∧ (s.axis i).record.kind = .angular
        let squares := ∑ i : Fin 4, if along i then d i * d i else 0
        (squares ≠ 0 → len * len ≤ squares ∧ squares < (len + 1) * (len + 1)) ∧
        (squares = 0 → (∀ i, turns i → d i ≤ len) ∧ (len = 0 ∨ ∃ i, turns i ∧ d i = len)) ∧
        (seg.kind = .reference → speed = seg.speed) ∧
        (seg.kind ≠ .reference → speed ≤ seg.speed ∧
          (∀ i, s.live i = true → d i ≠ 0 → speed ≤ max 1 ((s.axis i).record.maxSpeed * len / d i)) ∧
          (speed = seg.speed ∨
            ∃ i, s.live i = true ∧ d i ≠ 0 ∧ speed = max 1 ((s.axis i).record.maxSpeed * len / d i)))) ∧
      (others → seg'.state = .waiting ∧ (evaluateHead s).zones.claim = s.zones.claim) ∧
      (¬ mine → ¬ others → s.zones.claim = .none → joined s = true →
        (∃ z, ZoneSet.has needed z = true ∧ s.zones.view.get z = none) →
        seg'.state = .claiming ∧ ∃ x, (evaluateHead s).zones.claim = .queued x false ∧
          (evaluateHead s).slots.claim = some x ∧
          ∀ z, ZoneSet.has x z = true ↔ ZoneSet.has needed z = true ∧ s.zones.view.get z = none)) ∧
  ∀ s : State, (∀ seg rest, s.motion.queue = seg :: rest → seg.state ≠ .waiting ∧ seg.state ≠ .claiming) →
    evaluateHead s = s

/-- O21. For a trajectory with progress at most L × 65,536 and speed at most P × 16,384, and an acceleration of at least
1, one servo period keeps both bounds, never takes progress back, and changes the speed by at most a × 4,096 up or
down. The demand of every axis lies between its start and its end, is the start at progress 0 and exactly the end at
progress L × 65,536, and everywhere the start plus round(Δ × s / (L × 65,536)), the product exact by the model's
choice of log entry 38; with L = 0 it is at its end. Exactly, with A = a × 4,096: u falls by A, not below 0, when the
distance left is at most u² / (2A) rounded down, which sets decelerating if u fell, and otherwise rises by A up to P ×
16,384; the progress rises by the mean of the speeds, rounded down, not beyond L × 65,536; reaching it the demand has
arrived and the settle wait runs 500 ms. The search of a REFERENCE always rises and has no limit; after its mark u
falls by the stop deceleration and the demand has arrived at u = 0; its axis is at its start moved by round(s /
65,536) in the search direction, the others at theirs. For every trajectory and a stop deceleration of at least 1,
each servo period of a stop, with an end or, for a REFERENCE, without one: the speed falls strictly while it is above
0, and after u periods it is 0; without an end the progress is never taken back, and with one, where it is at most L ×
65,536, it is neither taken back nor beyond the end after it. A STOPPING segment's speed falls by d × 4,096, or, with
an end at distance G above 0 and below u² / (2 × d × 4,096), by u² / (2 × G) rounded up, and its progress rises by the
mean of the speeds, not beyond L × 65,536 with an end and without limit for a REFERENCE.
(spec/04_segments_and_motion.md, Trajectory; spec/01_axis_channels.md, Referencing.) -/
def Obligations.TrajectoriesKeepToTheirPathAndStop : Prop :=
  ((∀ (a : Nat) (t : Trajectory), 1 ≤ a → t.s ≤ t.len * 65536 → t.u ≤ t.pathSpeed * 16384 →
    let r := (t.step a).1
    r.s ≤ r.len * 65536 ∧ r.u ≤ r.pathSpeed * 16384 ∧ t.s ≤ r.s ∧ r.len = t.len ∧ r.pathSpeed = t.pathSpeed ∧
      r.u ≤ t.u + a * 4096 ∧ t.u ≤ r.u + a * 4096) ∧
  (∀ (s : State) (seg : Segment), 1 ≤ s.station.accel → seg.state = .moving → seg.traj.arrived = false →
    let t := seg.traj
    let a := s.station.accel * 4096
    let seg' := stepSegment s seg
    let far := s.uptime + 5000000
    (seg.kind ≠ .reference →
      let falls := t.len * 65536 - t.s ≤ t.u * t.u / (2 * a)
      let u := if falls then t.u - a else min (t.u + a) (t.pathSpeed * 16384)
      let p := min (t.s + (t.u + u) / 2) (t.len * 65536)
      seg' = { seg with
        decelerating := seg.decelerating || decide (falls ∧ 0 < t.u)
        traj := { t with
          u := u, s := p, arrived := decide (p = t.len * 65536)
          settle := if p = t.len * 65536 then some far else t.settle } }) ∧
    (seg.kind = .reference → t.marked = false →
      let u := min (t.u + a) (t.pathSpeed * 16384)
      seg' = { seg with traj := { t with u := u, s := t.s + (t.u + u) / 2 } }) ∧
    (seg.kind = .reference → t.marked = true →
      let u := t.u - s.station.stopDecel * 4096
      seg' = { seg with traj := { t with
        u := u, s := t.s + (t.u + u) / 2, arrived := decide (u = 0)
        settle := if u = 0 then some far else t.settle } })) ∧
  (∀ (s : State) (seg : Segment), seg.kind = .reference →
    ∀ i, pathDemand s seg i = seg.traj.start.get i + (if i ≠ seg.axis then 0
      else if (s.axis i).record.searchNeg = true then - roundDiv seg.traj.s 65536 else roundDiv seg.traj.s 65536)) ∧
  (∀ (s : State) (seg : Segment) (i : Fin 4), seg.kind ≠ .reference → seg.traj.len = 0 →
    pathDemand s seg i = seg.lineEnd.get i) ∧
  ∀ (s : State) (seg : Segment) (i : Fin 4), seg.kind ≠ .reference → 0 < seg.traj.len →
    seg.traj.s ≤ seg.traj.len * 65536 →
    min (seg.traj.start.get i) (seg.lineEnd.get i) ≤ pathDemand s seg i ∧
      pathDemand s seg i ≤ max (seg.traj.start.get i) (seg.lineEnd.get i) ∧
      (seg.traj.s = 0 → pathDemand s seg i = seg.traj.start.get i) ∧
      (seg.traj.s = seg.traj.len * 65536 → pathDemand s seg i = seg.lineEnd.get i) ∧
      pathDemand s seg i = seg.traj.start.get i +
        roundDiv ((seg.lineEnd.get i - seg.traj.start.get i) * seg.traj.s) (seg.traj.len * 65536)) ∧
  (∀ (d : Nat) (t : Trajectory), 1 ≤ d →
    (t.s ≤ t.len * 65536 → (t.stop d true).s ≤ t.len * 65536 ∧ t.s ≤ (t.stop d true).s) ∧
    t.s ≤ (t.stop d false).s ∧
    (∀ hasEnd : Bool, (0 < t.u → (t.stop d hasEnd).u < t.u) ∧
      ((fun x => Trajectory.stop d hasEnd x)^[t.u] t).u = 0) ∧
    (∀ (s : State) (seg : Segment), s.station.stopDecel = d → seg.state = .stopping → seg.traj = t →
      let g := t.len * 65536 - t.s
      let early := seg.kind ≠ .reference ∧ 0 < g ∧ g < t.u * t.u / (2 * (d * 4096))
      ∃ fall, (¬ early → fall = d * 4096) ∧ (early → t.u * t.u ≤ 2 * g * fall ∧ 2 * g * (fall - 1) < t.u * t.u) ∧
        let p := t.s + (t.u + (t.u - fall)) / 2
        stepSegment s seg = { seg with traj := { t with
          u := t.u - fall, s := if seg.kind = .reference then p else min p (t.len * 65536) } }))

/-- O22. A MOVE that reaches its answer in RUN from the controlling station is refused, in this order and with nothing
changed: BAD VALUE for a kind that is neither POSITION nor PROBE, a mask that is empty, names an axis above 3 or one
not live, or another length than its kind and mask call for; BUSY during a probe change or with motion DISABLED or
FAULTED; QUEUE FULL with 8 segments queued; NOT REFERENCED for an axis of the mask, the reach axis or the zone axis
not referenced; then, for a POSITION, BAD VALUE for speed 0 and OUT OF RANGE for a raw target outside the soft limits
of its axis. The later checks of a PROBE are in its own statement. A MOVE of kind POSITION that reaches its answer in
RUN from the controlling station, with a mask of live channels and its length, no probe change, motion neither
DISABLED nor FAULTED, fewer than 8 segments queued, every axis of the mask and the reach and zone axes referenced, a
speed above 0 and raw targets within the soft limits: the reply is ACCEPTED with the segment number, the counter
advances by 1 with wrap, and the segment joins the tail with the raw targets of the inverse correction on the axes of
the mask and the start point elsewhere, and its speed lowered to the largest max speed of the mask. In an empty queue
it becomes head, WAITING with its needed set; behind others it is QUEUED. The queue is taken to be formed, the
invariant of its own statement. Nothing else changes before the step's end. (spec/04_segments_and_motion.md, Accepting
a MOVE; spec/04_segments_and_motion.md, The segment record and the queue.) -/
def Obligations.MovePositionIsAcceptedAsASegment : Prop :=
  (∀ (cmd : RxFrame → Instr) (f : RxFrame) (s : State), cmd ∈ [Instr.movePosition, Instr.moveProbe] →
    Commands 9 f s → s.station.mode = .run → f.sender.toNat = s.station.controller →
    let p := f.payload
    let mask := byteAt p 4
    let named := axisIds.filter fun i => mask.testBit i.val
    let h := heard f s
    let start : Vector Int 4 := match s.motion.queue.getLast? with
      | some seg => rawEnd s seg
      | none => demands s
    let targets : Vector Int 4 :=
      tab4 fun i => if i ∈ named then inverse h i (s32At p (5 + 4 * named.idxOf i)) else start.get i
    let form := byteAt p 1 ≤ 1 ∧ mask ≠ 0 ∧ mask < 16 ∧ (∀ i ∈ named, s.live i = true) ∧
      p.length = 5 + 4 * named.length + (if byteAt p 1 = 1 then 4 else 0)
    let free := s.probes.change.active = false ∧ s.gate = .normal
    let known := (∀ i ∈ named, (s.axis i).referenced = true) ∧
      ∀ i, reachAxis? s = some i ∨ zoneAxis? s = some i → (s.axis i).referenced = true
    (¬ form → exec (cmd f) s = .next (answered 9 f .badValue 0 h)) ∧
    (form → ¬ free → exec (cmd f) s = .next (answered 9 f .busy 0 h)) ∧
    (form → free → 8 ≤ s.motion.queue.length → exec (cmd f) s = .next (answered 9 f .queueFull 0 h)) ∧
    (form → free → s.motion.queue.length < 8 → ¬ known → exec (cmd f) s = .next (answered 9 f .notReferenced 0 h)) ∧
    (form → free → s.motion.queue.length < 8 → known → byteAt p 1 = 0 →
      (u16At p 2 = 0 → exec (cmd f) s = .next (answered 9 f .badValue 0 h)) ∧
      (u16At p 2 ≠ 0 →
        (∃ i ∈ named, targets.get i < (s.axis i).record.softMin ∨ (s.axis i).record.softMax < targets.get i) →
        exec (cmd f) s = .next (answered 9 f .outOfRange 0 h)))) ∧
  ∀ (f : RxFrame) (s : State), Commands 9 f s → s.station.mode = .run → f.sender.toNat = s.station.controller →
    let p := f.payload
    let mask := byteAt p 4
    let named := axisIds.filter fun i => mask.testBit i.val
    let h := heard f s
    let top := (named.map fun i => (s.axis i).record.maxSpeed).foldl max 0
    let start : Vector Int 4 := match s.motion.queue.getLast? with
      | some seg => rawEnd s seg
      | none => demands s
    let targets : Vector Int 4 :=
      tab4 fun i => if i ∈ named then inverse h i (s32At p (5 + 4 * named.idxOf i)) else start.get i
    byteAt p 1 = 0 → mask ≠ 0 → mask < 16 → (∀ i ∈ named, s.live i = true) → p.length = 5 + 4 * named.length →
    QueueShaped s → s.probes.change.active = false → s.gate = .normal → s.motion.queue.length < 8 →
    (∀ i ∈ named, (s.axis i).referenced = true) →
    (∀ i, reachAxis? s = some i ∨ zoneAxis? s = some i → (s.axis i).referenced = true) →
    u16At p 2 ≠ 0 →
    (∀ i ∈ named, (s.axis i).record.softMin ≤ targets.get i ∧ targets.get i ≤ (s.axis i).record.softMax) →
    let seg : Segment :=
      { number := s.motion.counter, issuer := .room, kind := .position, axis := 0, targets := targets,
        searchEnd := none, speed := min (u16At p 2) top, needed := none, decelerating := false, state := .queued,
        outcome := none, flushed := 0, traj := Trajectory.none }
    let joins : Segment := if s.motion.queue = [] then
        { seg with needed := some (neededSet h seg), state := .waiting } else seg
    exec (.movePosition f) s = .next (answered 9 f .accepted s.motion.counter.toNat { h with
      motion := { s.motion with queue := s.motion.queue ++ [joins], counter := s.motion.counter + 1 } })

/-- O23. A MOVE of kind PROBE that reaches its answer in RUN from the controlling station and passes the checks it shares
with a POSITION. Its speed is the smallest of the speed given, the largest max speed of the mask, the probing speed
cap and the overtravel speed, the root, rounded down, of 2 × stop deceleration × the allowance of the record on the
head. In this order: no record on the head, a search distance outside 1 to 2,000,000 or a speed of 0 is BAD VALUE; a
raw target outside its soft limits OUT OF RANGE; no travel on any live axis BAD VALUE. Otherwise the reply is ACCEPTED
with the segment number and the segment joins the tail at that speed, whose square is therefore at most 2 × stop
deceleration × allowance, and its search end on every live axis is the raw target moved on along the line by
round(distance × Δ / L), brought within the soft limits. Behind others it is QUEUED, and in an empty queue WAITING
with its needed set. The queue is taken to be formed where the move is accepted. (spec/04_segments_and_motion.md,
Accepting a MOVE.) -/
def Obligations.MoveProbeIsAcceptedWithItsSearch : Prop :=
  ∀ (f : RxFrame) (s : State), Commands 9 f s → s.station.mode = .run → f.sender.toNat = s.station.controller →
    let p := f.payload
    let mask := byteAt p 4
    let named := axisIds.filter fun i => mask.testBit i.val
    let h := heard f s
    let top := (named.map fun i => (s.axis i).record.maxSpeed).foldl max 0
    let distance := u32At p (5 + 4 * named.length)
    let start : Vector Int 4 := match s.motion.queue.getLast? with
      | some seg => rawEnd s seg
      | none => demands s
    let targets : Vector Int 4 :=
      tab4 fun i => if i ∈ named then inverse h i (s32At p (5 + 4 * named.idxOf i)) else start.get i
    let len := pathLength s (deltas start targets)
    byteAt p 1 = 1 → mask ≠ 0 → mask < 16 → (∀ i ∈ named, s.live i = true) → p.length = 9 + 4 * named.length →
    s.probes.change.active = false → s.gate = .normal → s.motion.queue.length < 8 →
    (∀ i ∈ named, (s.axis i).referenced = true) →
    (∀ i, reachAxis? s = some i ∨ zoneAxis? s = some i → (s.axis i).referenced = true) →
    let inside := ∀ i ∈ named, (s.axis i).record.softMin ≤ targets.get i ∧ targets.get i ≤ (s.axis i).record.softMax
    let travels := ∃ i, s.live i = true ∧ targets.get i ≠ start.get i
    (onHead? s = none → exec (.moveProbe f) s = .next (answered 9 f .badValue 0 h)) ∧
    ∀ (k : Fin 16) (r : ProbeRecord), onHead? s = some (k, r) →
      let speed := min (min (u16At p 2) top) (min s.station.probeCap (isqrt (2 * s.station.stopDecel * r.allowance)))
      let good := 1 ≤ distance ∧ distance ≤ 2000000 ∧ 1 ≤ speed
      (¬ good → exec (.moveProbe f) s = .next (answered 9 f .badValue 0 h)) ∧
      (good → ¬ inside → exec (.moveProbe f) s = .next (answered 9 f .outOfRange 0 h)) ∧
      (good → inside → ¬ travels → exec (.moveProbe f) s = .next (answered 9 f .badValue 0 h)) ∧
      (good → inside → travels → QueueShaped s →
        ∃ ends : Vector Int 4,
          speed * speed ≤ 2 * s.station.stopDecel * r.allowance ∧
          (∀ i, s.live i = true → ends.get i =
            max (s.axis i).record.softMin (min (s.axis i).record.softMax
              (targets.get i + roundDiv (distance * (targets.get i - start.get i)) len))) ∧
          (let seg : Segment :=
            { number := s.motion.counter, issuer := .room, kind := .probe, axis := 0, targets := targets,
              searchEnd := some ends, speed := speed, needed := none, decelerating := false, state := .queued,
              outcome := none, flushed := 0, traj := Trajectory.none }
           let joins : Segment := if s.motion.queue = [] then
              { seg with needed := some (neededSet h seg), state := .waiting } else seg
           exec (.moveProbe f) s = .next (answered 9 f .accepted s.motion.counter.toNat { h with
            motion := { s.motion with queue := s.motion.queue ++ [joins], counter := s.motion.counter + 1 } })))

/-- O24. A REFERENCE that reaches its answer in RUN from the controlling station. Of another length than two bytes: BAD
VALUE. During a probe change, or with motion DISABLED or FAULTED: BUSY. With 8 segments queued: QUEUE FULL. Otherwise:
for a live axis that is set up and not the zone axis, or the zone axis with a referenced reach axis whose position at
the start of the segment is at or below the free-reach limit: the reply is ACCEPTED with the segment number and a
REFERENCE segment joins with the axis's reference speed and its start point as targets. For the zone axis without
that: NOT REFERENCED. For an axis that is not live or not set up: BAD VALUE. The queue is taken to be formed where a
segment joins. (spec/04_segments_and_motion.md, Accepting a REFERENCE; spec/01_axis_channels.md, Referencing.) -/
def Obligations.ReferenceIsAcceptedUnderItsReachCondition : Prop :=
  ∀ (f : RxFrame) (s : State), Commands 10 f s → s.station.mode = .run → f.sender.toNat = s.station.controller →
    let h := heard f s
    let free := s.probes.change.active = false ∧ s.gate = .normal
    (f.payload.length ≠ 2 → exec (.reference f) s = .next (answered 10 f .badValue 0 h)) ∧
    (f.payload.length = 2 → ¬ free → exec (.reference f) s = .next (answered 10 f .busy 0 h)) ∧
    (f.payload.length = 2 → free →
    let start : Vector Int 4 := match s.motion.queue.getLast? with
      | some seg => rawEnd s seg
      | none => demands s
    let clear := ∃ r, reachAxis? s = some r ∧ (s.axis r).referenced = true ∧
      (match s.motion.queue.getLast? with
        | some seg => (rawEnd s seg).get r
        | none => (s.axis r).position) ≤ s.station.freeReach
    (8 ≤ s.motion.queue.length → exec (.reference f) s = .next (answered 10 f .queueFull 0 h)) ∧
    (s.motion.queue.length < 8 →
      ((∀ i : Fin 4, byteAt f.payload 1 = i.val → s.live i = true → (s.axis i).record.setUp = false) →
        exec (.reference f) s = .next (answered 10 f .badValue 0 h)) ∧
      ∀ i : Fin 4, byteAt f.payload 1 = i.val → s.live i = true → (s.axis i).record.setUp = true →
        ((s.axis i).record.role = .zoneAxis → ¬ clear →
          exec (.reference f) s = .next (answered 10 f .notReferenced 0 h)) ∧
        (((s.axis i).record.role = .zoneAxis → clear) → QueueShaped s →
          let seg : Segment :=
            { number := s.motion.counter, issuer := .room, kind := .reference, axis := i, targets := start,
              searchEnd := none, speed := (s.axis i).record.refSpeed, needed := none, decelerating := false,
              state := .queued, outcome := none, flushed := 0, traj := Trajectory.none }
          let joins : Segment := if s.motion.queue = [] then
              { seg with needed := some (neededSet h seg), state := .waiting } else seg
          exec (.reference f) s = .next (answered 10 f .accepted s.motion.counter.toNat { h with
            motion := { s.motion with queue := s.motion.queue ++ [joins], counter := s.motion.counter + 1 } }))))

/-- O25. A HALT of one byte addressed to the station, or to 0, that the station hears, with no probe change in progress.
With an empty queue it changes no segment. A MOVING head with speed left goes STOPPING with outcome HALTED and the
queue behind it is removed and counted. A head of the room that is WAITING or CLAIMING leaves the queue with outcome
HALTED on SEGMENT END, and the queue is empty. A head of the room in its settling wait, or MOVING with its demand at
rest, ends so too. A STOPPING head keeps its outcome and the queue behind it is removed and counted. A claim still in
its slot is withdrawn in every case. Before the step's end nothing changes outside motion, zones, probes, slots,
notices. With a change in progress that has taken no outcome: inside a commit stretch the change records HALTED as its
deferred cause, unless it holds HALTED or MUTE, and nothing else changes; outside, it is aborted with cause HALTED,
its segment stopping or ending HALTED. With a change that has taken its outcome, that outcome stays. A HALT for
another station, or of another length, changes nothing but the line. That the HALT is deferred whole, its withdrawal
of a claim included, is the model's reading of log entry 24, that a MOVING head at rest ends at once that of 27.
(spec/04_segments_and_motion.md, HALT; spec/04_segments_and_motion.md, How segments end;
spec/07_probes_and_the_rack.md, Interruptions and the commit stretch.) -/
def Obligations.HaltStopsTheHead : Prop :=
  ∀ (f : RxFrame) (s : State), Hears 0 f s →
    let h := heard f s
    let mine := f.payload.length = 1 ∧ (byteAt f.payload 0 = s.line.number ∨ byteAt f.payload 0 = 0)
    let unclaimed : Claim → Claim := fun c => match c with
      | .queued _ _ => .none
      | c => c
    (¬ mine → exec (.halt f) s = .next (settled h)) ∧
    (mine → s.probes.change.active = true → s.probes.change.result = none →
      (inCommit s = true → exec (.halt f) s = .next (settled { h with probes := { s.probes with
        change := { s.probes.change with deferred :=
          if s.probes.change.deferred = .mute then .mute else .halted } } })) ∧
      (inCommit s = false → ∃ v, exec (.halt f) s = .next (settled v) ∧ MotionOnly h v ∧ Aborted .halted .halted s v)) ∧
    (mine → s.probes.change.active = true → s.probes.change.result ≠ none →
      ∃ v, exec (.halt f) s = .next (settled v) ∧ MotionOnly h v ∧
        (v.probes.change = s.probes.change ∨ v.probes.change = Change.idle s.probes.change.last)) ∧
    (mine → s.probes.change.active = false →
      ∃ v, exec (.halt f) s = .next (settled v) ∧ MotionOnly h v ∧ v.zones.claim = unclaimed s.zones.claim ∧
        (s.motion.queue = [] → v.motion.queue = []) ∧
        (∀ seg rest, s.motion.queue = seg :: rest → seg.state = .moving → seg.traj.arrived = false →
          0 < seg.traj.u → (seg.kind = .reference ∨ seg.traj.s ≠ seg.traj.len * 65536) →
          v.motion.queue = [{ seg with
            state := .stopping, outcome := some .halted, flushed := min 7 (seg.flushed + rest.length) }]) ∧
        (∀ seg rest, s.motion.queue = seg :: rest → seg.state = .stopping →
          v.motion.queue = [{ seg with flushed := min 7 (seg.flushed + rest.length) }]) ∧
        (∀ seg rest, s.motion.queue = seg :: rest → Speedless seg →
          seg.issuer = .room → v.motion.queue = [] ∧
            (v.notices.get 6).detail = some (.segmentEnd seg.number .halted (min 7 (seg.flushed + rest.length)))))

/-- O26. A PERMIT of no bytes that the station hears, in RUN from the controlling station: the permit is VALID and its
timer runs the permit time from the end of the frame; an expiry deferred by a commit stretch is cancelled, with a
deferred cause LAPSED. From any other station, in SETUP, or with a payload, nothing changes but the line. Out of
reset, with a permit VALID whose deadline the tick reaches and no probe change in progress: the permit is LAPSED, its
timer stops, PERMIT LAPSED is latched with the cause timer, a MOVING head with speed left goes STOPPING with outcome
LAPSED and alone in the queue, a STOPPING one keeps its outcome with the queue behind it removed and counted, and one
of the room that is WAITING, CLAIMING, in its settling wait or at rest leaves an empty queue with outcome LAPSED;
auto-release frees exactly the FIRM zones of the station outside the keep set with a head on a joined line, and with
an empty queue zones, slots and probes are kept, the model's choice of log entry 54. Before the step's end nothing
changes outside motion, zones, probes, slots, notices. A change that has taken its outcome keeps it: its segment stops
as above or, without speed, leaves and the change ends. With a change in progress that has taken no outcome: outside
the commit stretches the permit lapses alike and the change is aborted with cause LAPSED, its segment stopping or
ending LAPSED; inside one the permit stays VALID, its timer stops, nothing is latched, and the change records LAPSED
if it holds no deferred cause and the deferred expiry TIMER if it holds none. A PERMIT before the stretch ends cancels
that expiry, as above; when the stretch ends with its phase completed and a cause deferred, the change ends ABORTED
with it and a deferred expiry is taken: the permit LAPSED with its cause latched. Without a deadline reached only time
passes. That an expiry acts only at its deadline is log entry 3, that a MOVING head at rest ends at once the reading
of 27. (spec/04_segments_and_motion.md, The keep-moving permit; spec/07_probes_and_the_rack.md, Interruptions and the
commit stretch; spec/04_segments_and_motion.md, Auto-release.) -/
def Obligations.PermitKeepsMotionAlive : Prop :=
  (∀ (f : RxFrame) (s : State), Hears 7 f s →
    let h := heard f s
    let granted := f.payload = [] ∧ s.station.mode = .run ∧ f.sender.toNat = s.station.controller
    let c := s.probes.change
    let renewed : State := { h with motion := { s.motion with
      permit := .valid, permitTimer := some ((advance f.tick s).uptime + s.station.permitTime * 10000) } }
    (granted → c.expiry = .none → exec (.permit f) s = .next (settled renewed)) ∧
    (granted → c.expiry ≠ .none → exec (.permit f) s = .next (settled { renewed with
      probes := { s.probes with change := { c with
        expiry := .none, deferred := if c.deferred = .lapsed then .none else c.deferred } } })) ∧
    (¬ granted → exec (.permit f) s = .next (settled h))) ∧
  ((∀ (t : Tick) (s : State) (d : Nat), s.inReset = false → s.motion.permit = .valid → s.motion.permitTimer = some d →
    d ≤ (advance t s).uptime → s.probes.change.active = false →
    ∃ v, exec (.permitTimerExpiry t) s = .next (finish v) ∧ MotionOnly (advance t s) v ∧ Released (advance t s) v ∧
      v.motion.permit = .lapsed ∧ v.motion.permitTimer = none ∧
      v.notices.get 5 = (s.notices.get 5).event (.permitLapsed false) ∧
      (s.motion.queue = [] → v.motion.queue = [] ∧ v.zones = s.zones ∧ v.slots = s.slots ∧ v.probes = s.probes) ∧
      ∀ seg rest, s.motion.queue = seg :: rest →
        (Shedding seg → v.motion.queue = [{ seg with
            state := .stopping, outcome := some .lapsed, flushed := min 7 (seg.flushed + rest.length) }] ∧
          v.probes = s.probes ∧ v.zones.claim = s.zones.claim) ∧
        (seg.state = .stopping → v.motion.queue = [{ seg with flushed := min 7 (seg.flushed + rest.length) }] ∧
          v.probes = s.probes ∧ v.zones.claim = s.zones.claim) ∧
        (Speedless seg → seg.issuer = .room → v.motion.queue = [] ∧ HeadDropped (advance t s) v ∧
          (v.notices.get 6).detail = some (.segmentEnd seg.number .lapsed (min 7 (seg.flushed + rest.length))))) ∧
  (∀ (t : Tick) (s : State) (d : Nat) (r : ChangeResult), s.inReset = false → s.motion.permit = .valid →
    s.motion.permitTimer = some d → d ≤ (advance t s).uptime → s.probes.change.active = true →
    s.probes.change.result = some r →
    ∃ v, exec (.permitTimerExpiry t) s = .next (finish v) ∧ MotionOnly (advance t s) v ∧ Released (advance t s) v ∧
      v.motion.permit = .lapsed ∧ v.motion.permitTimer = none ∧
      v.notices.get 5 = (s.notices.get 5).event (.permitLapsed false) ∧
      ∀ seg, s.motion.queue = [seg] → seg.issuer = .probeUnit →
        (seg.state = .stopping → v.motion.queue = [{ seg with flushed := min 7 seg.flushed }] ∧
          v.probes = s.probes) ∧
        (Shedding seg → v.motion.queue = [{ seg with
            state := .stopping, outcome := some .lapsed, flushed := min 7 seg.flushed }] ∧ v.probes = s.probes) ∧
        (Speedless seg → v.motion.queue = [] ∧
          v.probes = { s.probes with change := Change.idle s.probes.change.last } ∧
          v.notices.get 4 = (s.notices.get 4).event (.probeChangeEnd s.probes.change.target r))) ∧
  (∀ (t : Tick) (s : State) (d : Nat), s.inReset = false → s.motion.permit = .valid → s.motion.permitTimer = some d →
    d ≤ (advance t s).uptime → s.probes.change.active = true → s.probes.change.result = none →
    let c := s.probes.change
    (inCommit s = true → exec (.permitTimerExpiry t) s = .next (finish { advance t s with
      motion := { s.motion with permitTimer := none }
      probes := { s.probes with change := { c with
        deferred := if c.deferred = .none then .lapsed else c.deferred
        expiry := if c.expiry = .none then .timer else c.expiry } } })) ∧
    (inCommit s = false → ∃ v, exec (.permitTimerExpiry t) s = .next (finish v) ∧ MotionOnly (advance t s) v ∧
      v.motion.permit = .lapsed ∧ v.motion.permitTimer = none ∧
      v.notices.get 5 = (s.notices.get 5).event (.permitLapsed false) ∧ Aborted .lapsed .lapsed s v)) ∧
  (∀ (s : State) (proven : Bool) (next : State → State), s.motion.queue = [] → s.probes.change.active = true →
    let c := s.probes.change
    let v := stretchEnded proven next s
    let taken := c.expiry ≠ .none
    (c.deferred = .none → c.expiry = .none → v = next s) ∧
    (c.deferred ≠ .none →
      v.probes.change = Change.idle
        (some { outcome := .aborted, phase := c.phaseNumber, cause := c.deferred, idRead := 0 }) ∧
      (v.notices.get 4).detail = some (.probeChangeEnd c.target
        { outcome := .aborted, phase := c.phaseNumber, cause := c.deferred, idRead := 0 }) ∧
      v.motion.permit = (if taken then .lapsed else s.motion.permit) ∧
      v.notices.get 5 = (if taken then (s.notices.get 5).event (.permitLapsed (c.expiry == .hello))
        else s.notices.get 5))) ∧
  ∀ (t : Tick) (s : State), s.inReset = false → (∀ d, s.motion.permitTimer = some d → (advance t s).uptime < d) →
    exec (.permitTimerExpiry t) s = .next (finish (advance t s)))

/-- O27. For every table of boundaries, loaded or not: the zone of a position x is the number of boundaries at or below x,
so it rises with x and lies within 0 to 15; and the set that an interval from lo to hi overlaps holds zone z exactly
when some position from lo to hi, both included, has zone z. An empty zone is therefore never overlapped, and an
interval that ends on a boundary overlaps the zone that begins there. Positions are unbounded integers, so nothing
wraps. (R84.) -/
def Obligations.OverlappedZonesAreThoseOfThePositions : Prop :=
  ∀ (b : Vector Int 15),
    (∀ x, zoneOf b x = (boundaryIds.filter fun j => decide (b.get j ≤ x)).length ∧ zoneOf b x ≤ 15) ∧
    (∀ x y, x ≤ y → zoneOf b x ≤ zoneOf b y) ∧
    ∀ (lo hi : Int) (z : Fin 16),
      ZoneSet.has (overlapped b lo hi) z = true ↔ ∃ x, lo ≤ x ∧ x ≤ hi ∧ zoneOf b x = z.val

/-- O28. For a segment from a start to an end on a station with a reach axis: if the zone axis stands still, or there is
none, and the reach axis ends at or below its start, the set is empty; if the reach axis stays at or below the free-
reach limit, it is empty; otherwise, for every bed position p between those of the start and the end, it contains
every zone that the envelope p − h to p + h overlaps, and it is exactly the set of zones that the interval from the
smaller bed position − h to the larger + h overlaps. On a station with no reach axis the set is empty. The stationary
set with the reach axis or a zone axis not referenced is the set of zones the view records FIRM to the station; with
them referenced it is empty at or below the free-reach limit and otherwise the set of zones that the envelope there
overlaps. A segment that becomes head needs, as a REFERENCE of the reach axis, nothing; as another REFERENCE, the
stationary set at the present demand positions; and otherwise the set of its line from the present demand positions to
its search end, or its raw targets without one. (spec/05_zones_on_the_bed.md, Needed sets;
spec/04_segments_and_motion.md, The head segment.) -/
def Obligations.NeededSetCoversEveryEnvelope : Prop :=
  (∀ (s : State) (a b : Vector Int 4), reachAxis? s = none → travelSet s a b = 0 ∧ stationarySet s a = 0) ∧
  (∀ (s : State) (a b : Vector Int 4) (r : Fin 4), reachAxis? s = some r →
    let still := ∀ z, zoneAxis? s = some z → a.get z = b.get z
    (still → b.get r ≤ a.get r → travelSet s a b = 0) ∧
    (a.get r ≤ s.station.freeReach → b.get r ≤ s.station.freeReach → travelSet s a b = 0) ∧
    (¬ (still ∧ b.get r ≤ a.get r) → ¬ (a.get r ≤ s.station.freeReach ∧ b.get r ≤ s.station.freeReach) →
      ∀ p x, min (bedPosition s a) (bedPosition s b) ≤ p → p ≤ max (bedPosition s a) (bedPosition s b) →
        p - s.station.halfWidth ≤ x → x ≤ p + s.station.halfWidth →
        ∀ z : Fin 16, zoneOf s.zones.boundaries x = z.val → ZoneSet.has (travelSet s a b) z = true) ∧
    (¬ (still ∧ b.get r ≤ a.get r) → ¬ (a.get r ≤ s.station.freeReach ∧ b.get r ≤ s.station.freeReach) →
      ∀ z : Fin 16, ZoneSet.has (travelSet s a b) z = true ↔
        ∃ x, min (bedPosition s a) (bedPosition s b) - s.station.halfWidth ≤ x ∧
          x ≤ max (bedPosition s a) (bedPosition s b) + s.station.halfWidth ∧
          zoneOf s.zones.boundaries x = z.val)) ∧
  (∀ (s : State) (a : Vector Int 4) (r : Fin 4), reachAxis? s = some r →
    ((s.axis r).referenced = false ∨ ∃ z, zoneAxis? s = some z ∧ (s.axis z).referenced = false) →
    ∀ z : Fin 16, ZoneSet.has (stationarySet s a) z = true ↔
      ∃ since, s.zones.view.get z = some { holder := s.line.number, standing := .firm, since := since }) ∧
  (∀ (s : State) (seg : Segment),
    (seg.kind = .reference → reachAxis? s = some seg.axis → neededSet s seg = 0) ∧
    (seg.kind = .reference → reachAxis? s ≠ some seg.axis → neededSet s seg = stationarySet s (demands s)) ∧
    (seg.kind ≠ .reference → neededSet s seg = travelSet s (demands s) (seg.searchEnd.getD seg.targets))) ∧
  ∀ (s : State) (a : Vector Int 4) (r : Fin 4), reachAxis? s = some r → (s.axis r).referenced = true →
    (∀ z, zoneAxis? s = some z → (s.axis z).referenced = true) →
    (a.get r ≤ s.station.freeReach → stationarySet s a = 0) ∧
    (s.station.freeReach < a.get r → ∀ z : Fin 16, ZoneSet.has (stationarySet s a) z = true ↔
      ∃ x, bedPosition s a - s.station.halfWidth ≤ x ∧ x ≤ bedPosition s a + s.station.halfWidth ∧
        zoneOf s.zones.boundaries x = z.val)

/-- O29. A ZONE CLAIM of two bytes from station C for the set S that the station hears: in the view, a free zone of S
becomes TENTATIVE to C from the end of the frame, a zone of S TENTATIVE to C restarts, and every other entry stays. If
the receiver holds zones of S at either standing, an objection against C with exactly those zones is placed, with the
line joined in the slot naming C or else the lowest empty one, and otherwise ZONE CONFLICT is latched with cause NOT
SENT; nothing else changes before the withdrawal check. A claim of another length, or with an empty set, changes
nothing but the line. That slot is, of the three, the first that holds an objection naming C, with none such the
lowest-numbered empty one, and with none empty there is no slot. The slot and NOT SENT are R93, the length check R167.
After every frame taken: where another station now holds a zone of a QUEUED own claim that is not in flight, as none
is then, the claim record is NONE, its slot empty and a CLAIMING head WAITING; otherwise the check changes nothing.
(spec/05_zones_on_the_bed.md, Hearing a claim; spec/09_frames_and_transmit_slots.md, Taking a frame;
spec/05_zones_on_the_bed.md, Claiming.) -/
def Obligations.ClaimHeardChangesTheView : Prop :=
  (∀ (f : RxFrame) (s : State), Hears 5 f s →
    let h := heard f s
    let c := f.sender.toNat
    let x := zonesAt f.payload 0
    let mine := x &&& ownZones s
    let entry : Fin 16 → Option Hold := fun z =>
      if ZoneSet.has x z = true then
        match s.zones.view.get z with
        | none => some { holder := c, standing := .tentative, since := h.uptime }
        | some k => if k.holder = c ∧ k.standing = .tentative then some { k with since := h.uptime } else some k
      else s.zones.view.get z
    let w : State := { h with zones := { s.zones with view := tab16 entry } }
    (∀ z, ZoneSet.has mine z = true ↔
      ZoneSet.has x z = true ∧ ∃ k, s.zones.view.get z = some k ∧ k.holder = s.line.number) ∧
    (f.payload.length ≠ 2 → exec (.zoneClaimReceived f) s = .next (settled h)) ∧
    (f.payload.length = 2 → mine = 0 → exec (.zoneClaimReceived f) s = .next (settled w)) ∧
    (f.payload.length = 2 → mine ≠ 0 → joined h = true →
      ∀ i : Fin 3, objectSlot s c = some i →
        exec (.zoneClaimReceived f) s = .next (settled { w with slots := { h.slots with
          objects := s.slots.objects.set i.val
            (match (s.slots.objects.get i).frame with
              | none => { frame := some { claimant := c, zones := mine }, amend := none }
              | some y => { s.slots.objects.get i with frame := some { y with zones := y.zones ||| mine } }) } })) ∧
    (f.payload.length = 2 → mine ≠ 0 → (joined h = false ∨ objectSlot s c = none) →
      exec (.zoneClaimReceived f) s = .next (settled { w with
        notices := s.notices.set 3 ((s.notices.get 3).event (.zoneConflict c mine false)) })) ∧
    (x = 0 → exec (.zoneClaimReceived f) s = .next (settled h))) ∧
  (∀ (s : State) (c : Nat),
    let names := fun i : Fin 3 => ∃ y, (s.slots.objects.get i).frame = some y ∧ y.claimant = c
    (∀ i, names i → (∀ j, j < i → ¬ names j) → objectSlot s c = some i) ∧
    ((∀ i, ¬ names i) →
      (∀ i, (s.slots.objects.get i).frame = none → (∀ j, j < i → (s.slots.objects.get j).frame ≠ none) →
        objectSlot s c = some i) ∧
      ((∀ i, (s.slots.objects.get i).frame ≠ none) → objectSlot s c = none))) ∧
  ∀ u : State,
    let taken := ∃ x outlived z k, u.zones.claim = .queued x outlived ∧ ZoneSet.has x z = true ∧
      u.zones.view.get z = some k ∧ k.holder ≠ u.line.number
    (¬ taken → settled u = finish u) ∧
    (taken → inFlight u .claim = false → settled u = finish { u with
      zones := { u.zones with claim := .none }
      slots := { u.slots with claim := none }
      motion := { u.motion with queue := match u.motion.queue with
        | [] => []
        | seg :: rest => (if seg.state = .claiming then { seg with state := .waiting } else seg) :: rest } })

/-- O30. A ZONE OBJECT of three bytes from O against C with set X, C neither 0 nor 31 and X not empty, that the station
hears: every zone TENTATIVE to C goes free, then every zone of X is FIRM to O from the end of the frame, but for zones
the receiver still holds when it is not C. If the receiver is C, its claim in a window fails: the record is NONE and a
CLAIMING head is WAITING. If it then loses zones that were FIRM to it, the objection is late: ZONE CONFLICT is latched
with O, the lost zones and cause LATE, and a head MOVING with speed on a lost zone stops CONFLICT with the queue
behind it removed; one STOPPING keeps its outcome, the queue behind it removed and counted; one of the room in its
settling wait, or at rest (log entry 27), ends CONFLICT at once with the queue empty, and one of a change fails its
phase with CONFLICT. A head that does not move, or needs no lost zone, goes on. Any other ZONE OBJECT changes nothing
but the line. The late objection is R97, the length check R167. (spec/05_zones_on_the_bed.md, Hearing an objection;
spec/04_segments_and_motion.md, How segments end; spec/09_frames_and_transmit_slots.md, Taking a frame.) -/
def Obligations.ObjectionHeardPassesTheZones : Prop :=
  ∀ (f : RxFrame) (s : State), Hears 2 f s →
    let h := heard f s
    let o := f.sender.toNat
    let c := byteAt f.payload 0
    let x := zonesAt f.payload 1
    let self := s.line.number
    let freed : Fin 16 → Option Hold := fun z => match s.zones.view.get z with
      | some k => if k.holder = c ∧ k.standing = .tentative then none else some k
      | none => none
    let entry : Fin 16 → Option Hold := fun z =>
      if ZoneSet.has x z = true then
        match freed z with
        | some k => if k.holder = self ∧ self ≠ c then some k
            else some { holder := o, standing := .firm, since := h.uptime }
        | none => some { holder := o, standing := .firm, since := h.uptime }
      else freed z
    let seen : State := { h with zones := { s.zones with view := tab16 entry } }
    let lost := x &&& firmZones s
    let failed : State := match s.zones.claim with
      | .window _ _ =>
        { seen with
          zones := { seen.zones with claim := .none }
          motion := { s.motion with queue := match s.motion.queue with
            | [] => []
            | seg :: rest => (if seg.state = .claiming then { seg with state := .waiting } else seg) :: rest } }
      | _ => seen
    let late : State := { failed with
      notices := s.notices.set 3 ((s.notices.get 3).event (.zoneConflict o lost true)) }
    let taken := f.payload.length = 3 ∧ c ≠ 0 ∧ c ≠ 31 ∧ x ≠ 0
    (¬ taken → exec (.zoneObjectReceived f) s = .next (settled h)) ∧
    (taken → c ≠ self → exec (.zoneObjectReceived f) s = .next (settled seen)) ∧
    (taken → c = self → lost = 0 → exec (.zoneObjectReceived f) s = .next (settled failed)) ∧
    (taken → c = self → lost ≠ 0 →
      ∃ v, exec (.zoneObjectReceived f) s = .next (settled v) ∧ MotionOnly h v ∧
        v.notices.get 3 = late.notices.get 3 ∧
        ((∀ seg rest, s.motion.queue = seg :: rest →
          (seg.state ≠ .moving ∧ seg.state ≠ .stopping) ∨ seg.needed.getD 0 &&& lost = 0) → v = late) ∧
        (∀ seg rest, s.motion.queue = seg :: rest → seg.state = .stopping → seg.needed.getD 0 &&& lost ≠ 0 →
          v.motion.queue = [{ seg with flushed := min 7 (seg.flushed + rest.length) }] ∧ v.probes = s.probes) ∧
        (∀ seg rest, s.motion.queue = seg :: rest → seg.state = .moving → Speedless seg →
          seg.needed.getD 0 &&& lost ≠ 0 →
          (seg.issuer = .room → v.motion.queue = [] ∧ (v.notices.get 6).detail =
            some (.segmentEnd seg.number .conflict (min 7 (seg.flushed + rest.length)))) ∧
          (seg.issuer = .probeUnit → s.probes.change.active = true → s.probes.change.result = none →
            v.motion.queue = [] ∧ PhaseFailed .conflict s v)) ∧
        (∀ seg rest, s.motion.queue = seg :: rest → seg.state = .moving → seg.traj.arrived = false → 0 < seg.traj.u →
          (seg.kind = .reference ∨ seg.traj.s ≠ seg.traj.len * 65536) → seg.needed.getD 0 &&& lost ≠ 0 →
          v.motion.queue = [{ seg with
            state := .stopping, outcome := some .conflict, flushed := min 7 (seg.flushed + rest.length) }]))

/-- O31. A ZONE RELEASE of two bytes from S with set R that the station hears: every zone of R held by S at either
standing goes free, and every other entry of the view, and everything else before the withdrawal check, stays. With an
empty set the view stays as it is. One of another length changes nothing but the line. When the station's own RELEASE
has been sent its view is not changed: the slot takes what was held beside it (R175). The length check is R167. Out of
reset, at a tentative-hold expiry: every zone TENTATIVE to another station whose hold began at least 16 ms before the
tick becomes FIRM to that station and keeps its start; every other entry of the view, and everything else before the
step's end, stays. Zones whose holds began together therefore ripen together. That the expiry is a command, and acts
only on holds past their 16 ms, is the model's choice of log entry 3. (spec/05_zones_on_the_bed.md, Releasing;
spec/05_zones_on_the_bed.md, The end of a window; spec/09_frames_and_transmit_slots.md, The fifteen slots;
spec/09_frames_and_transmit_slots.md, Taking a frame.) -/
def Obligations.HoldsOfOthersRipenAndAreReleased : Prop :=
  ((∀ (f : RxFrame) (s : State), Hears 4 f s →
    let h := heard f s
    let r := zonesAt f.payload 0
    (f.payload.length ≠ 2 → exec (.zoneReleaseReceived f) s = .next (settled h)) ∧
    (f.payload.length = 2 →
      ∃ view, exec (.zoneReleaseReceived f) s = .next (settled { h with zones := { s.zones with view := view } }) ∧
        (∀ z, view.get z =
          if ZoneSet.has r z = true ∧ ∃ k, s.zones.view.get z = some k ∧ k.holder = f.sender.toNat then none
          else s.zones.view.get z) ∧
        (r = 0 → view = s.zones.view))) ∧
  ∀ s : State, slotSent .release s =
    { s with slots := { s.slots with release := { frame := s.slots.release.amend, amend := none } } }) ∧
  (∀ (t : Tick) (s : State), s.inReset = false →
    exec (.tentativeHoldExpiry t) s = .next (finish { advance t s with
      zones := { s.zones with view := tab16 fun z => match s.zones.view.get z with
        | some k =>
          if k.standing = .tentative ∧ k.holder ≠ s.line.number ∧ k.since + 160000 ≤ (advance t s).uptime then
            some { k with standing := .firm }
          else some k
        | none => none } }))

/-- O32. A HELLO of two bytes from station S that the station hears: every zone held by S goes free; if S is the peer
station named, the peer record is GONE with its timer stopped; and in RUN, if S is the controlling station, the permit
expires as by its timer but with cause HELLO. A permit not VALID stays as it is, and nothing else changes. A VALID
one, outside the commit stretches, is LAPSED with PERMIT LAPSED latched, and auto-release frees of the other zones
exactly the FIRM ones of the station outside the keep set, with a head or a change on a joined line (with neither it
does not run, the model's choice of log entry 54). With no change in progress a MOVING head with speed left is
STOPPING LAPSED alone in the queue, a STOPPING one keeps its outcome with the queue behind it removed, and one of the
room that is WAITING, CLAIMING or at rest ends LAPSED with the queue empty; probes are kept. A change that has taken
no outcome is aborted with cause LAPSED; one that has taken its outcome keeps it, its segment stopping as above or,
without speed, leaving and the change ending. Inside a commit stretch the permit stays VALID, its timer stops, and the
change records LAPSED if it holds no deferred cause and the deferred expiry HELLO if it holds none. Nothing outside
motion, zones, probes, slots, notices and the attempt in flight changes further before the withdrawal check. A HELLO
of another length changes nothing but the line. That a MOVING head at rest ends at once is the model's reading of log
entry 27. (spec/05_zones_on_the_bed.md, HELLO; spec/02_temperature_channels_and_figures.md, The peer record;
spec/04_segments_and_motion.md, The keep-moving permit; spec/07_probes_and_the_rack.md, Interruptions and the commit
stretch; spec/04_segments_and_motion.md, Auto-release.) -/
def Obligations.HelloForgetsItsSender : Prop :=
  ∀ (f : RxFrame) (s : State), Hears 3 f s →
    let h := heard f s
    let o := f.sender.toNat
    let w : State := { h with
      zones := { s.zones with view := tab16 fun z => match s.zones.view.get z with
        | some k => if k.holder = o then none else some k
        | none => none }
      thermal := { s.thermal with peer :=
        if o = s.thermal.peerStation then { s.thermal.peer with standing := .gone, timer := none }
        else s.thermal.peer } }
    let commands := s.station.mode = .run ∧ o = s.station.controller
    (f.payload.length ≠ 2 → exec (.helloReceived f) s = .next (settled h)) ∧
    (f.payload.length = 2 → ¬ commands → exec (.helloReceived f) s = .next (settled w)) ∧
    (f.payload.length = 2 → commands → s.motion.permit ≠ .valid →
      exec (.helloReceived f) s = .next (settled w)) ∧
    (f.payload.length = 2 → commands → s.motion.permit = .valid → s.probes.change.active = false →
      ∃ v, exec (.helloReceived f) s = .next (settled v) ∧ MotionOnly w v ∧ Released w v ∧
        v.motion.permit = .lapsed ∧ v.motion.permitTimer = none ∧
        v.notices.get 5 = (s.notices.get 5).event (.permitLapsed true) ∧
        (s.motion.queue = [] → v.motion.queue = [] ∧ v.zones = w.zones ∧ v.slots = w.slots ∧ v.probes = w.probes) ∧
        ∀ seg rest, s.motion.queue = seg :: rest →
          (Shedding seg → v.motion.queue = [{ seg with
              state := .stopping, outcome := some .lapsed, flushed := min 7 (seg.flushed + rest.length) }] ∧
            v.probes = w.probes ∧ v.zones.claim = w.zones.claim) ∧
          (seg.state = .stopping →
            v.motion.queue = [{ seg with flushed := min 7 (seg.flushed + rest.length) }] ∧
            v.probes = w.probes ∧ v.zones.claim = w.zones.claim) ∧
          (Speedless seg → seg.issuer = .room → v.motion.queue = [] ∧ HeadDropped w v ∧
            (v.notices.get 6).detail = some (.segmentEnd seg.number .lapsed (min 7 (seg.flushed + rest.length))))) ∧
    (f.payload.length = 2 → commands → s.motion.permit = .valid → s.probes.change.active = true →
      ∀ r, s.probes.change.result = some r →
      ∃ v, exec (.helloReceived f) s = .next (settled v) ∧ MotionOnly w v ∧ Released w v ∧
        v.motion.permit = .lapsed ∧ v.motion.permitTimer = none ∧
        v.notices.get 5 = (s.notices.get 5).event (.permitLapsed true) ∧
        ∀ seg, s.motion.queue = [seg] → seg.issuer = .probeUnit →
          (seg.state = .stopping → v.motion.queue = [{ seg with flushed := min 7 seg.flushed }] ∧
            v.probes = w.probes) ∧
          (Shedding seg → v.motion.queue = [{ seg with
              state := .stopping, outcome := some .lapsed, flushed := min 7 seg.flushed }] ∧ v.probes = w.probes) ∧
          (Speedless seg → v.motion.queue = [] ∧
            v.probes = { s.probes with change := Change.idle s.probes.change.last } ∧
            v.notices.get 4 = (s.notices.get 4).event (.probeChangeEnd s.probes.change.target r))) ∧
    (f.payload.length = 2 → commands → s.motion.permit = .valid → s.probes.change.active = true →
      s.probes.change.result = none →
      let c := s.probes.change
      (inCommit s = true → exec (.helloReceived f) s = .next (settled { w with
        motion := { s.motion with permitTimer := none }
        probes := { s.probes with change := { c with
          deferred := if c.deferred = .none then .lapsed else c.deferred
          expiry := if c.expiry = .none then .hello else c.expiry } } })) ∧
      (inCommit s = false → ∃ v, exec (.helloReceived f) s = .next (settled v) ∧ MotionOnly w v ∧ Released w v ∧
        v.motion.permit = .lapsed ∧ v.motion.permitTimer = none ∧
        v.notices.get 5 = (s.notices.get 5).event (.permitLapsed true) ∧ Aborted .lapsed .lapsed s v))

/-- O33. Out of reset, with the own claim in a window that began at least 16 ms before the tick: every zone held by the
station becomes FIRM with its start kept, the claim record is NONE, a CLAIMING head is WAITING, and auto-release runs.
Before the 16 ms, or without a claim in its window, only time passes (log entry 3). (spec/05_zones_on_the_bed.md, The
end of a window.) -/
def Obligations.OwnClaimBecomesFirm : Prop :=
  (∀ (t : Tick) (s : State) (x : ZoneSet) (began : Nat), s.inReset = false → s.zones.claim = .window x began →
    began + 160000 ≤ (advance t s).uptime →
    exec (.claimWindowExpiry t) s = .next (finish (autoRelease { advance t s with
      zones := { s.zones with
        claim := .none
        view := tab16 fun z => match s.zones.view.get z with
          | some k => if k.holder = s.line.number then some { k with standing := .firm } else some k
          | none => none }
      motion := { s.motion with queue := match s.motion.queue with
        | [] => []
        | seg :: rest => (if seg.state = .claiming then { seg with state := .waiting } else seg) :: rest } }))) ∧
  ∀ (t : Tick) (s : State), s.inReset = false →
    (∀ x began, s.zones.claim = .window x began → (advance t s).uptime < began + 160000) →
    exec (.claimWindowExpiry t) s = .next (finish (advance t s))

/-- O34. With the line joined, after auto-release every zone FIRM to the station that lies outside the keep set is free,
every other entry of the view stays, TENTATIVE zones of the station included, and nothing else changes but the RELEASE
slot. Where any went free, an empty slot takes them as its frame; a frame that waits takes them in, and keeps an
amendment; and a frame in flight stays as it is, the zones joining the amendment held beside it. With the line not
joined, or no such zone, nothing changes. The keep set is empty in SETUP and otherwise the stationary set at the
demand positions with the needed set of the head. (spec/05_zones_on_the_bed.md, Releasing;
spec/04_segments_and_motion.md, Auto-release; spec/09_frames_and_transmit_slots.md, The fifteen slots.) -/
def Obligations.AutoReleaseKeepsOnlyTheKeepSet : Prop :=
  (∀ s : State, joined s = true →
    let out := firmZones s &&& ~~~keepSet s
    let t := autoRelease s
    (∀ z, t.zones.view.get z = if ZoneSet.has out z = true then none else s.zones.view.get z) ∧
    (∀ z, ZoneSet.has (firmZones t) z = true → ZoneSet.has (keepSet s) z = true) ∧
    (out ≠ 0 →
      (s.slots.release.frame = none → t.slots.release = { frame := some out, amend := none }) ∧
      ∀ y, s.slots.release.frame = some y →
        (inFlight s .release = false → t.slots.release = { s.slots.release with frame := some (y ||| out) }) ∧
        (inFlight s .release = true →
          t.slots.release = { frame := some y, amend := some (s.slots.release.amend.getD 0 ||| out) })) ∧
    (out = 0 → t = s) ∧
    t = { s with
      zones := { s.zones with view := t.zones.view }
      slots := { s.slots with release := t.slots.release } }) ∧
  (∀ s : State, joined s = false → autoRelease s = s) ∧
  (∀ s : State, s.station.mode = .setup → keepSet s = 0) ∧
  ∀ s : State, s.station.mode ≠ .setup → keepSet s = stationarySet s (demands s) |||
    match s.motion.queue with
    | [] => 0
    | seg :: _ => seg.needed.getD (neededSet s seg)

/-- O35. A SETUP ZONES that reaches its answer outside RUN. With 1 or more whole values, a first index of 1 to 15 and no
index beyond 15, let the new table hold the frame's values in place of the old and the new marks add the frame's
boundaries. If every two boundaries marked loaded are strictly ascending in the new table, the reply is DONE and table
and marks are written; otherwise, or with a bad form, the reply is BAD VALUE and nothing is written.
(spec/05_zones_on_the_bed.md, Geometry.) -/
def Obligations.SetupZonesKeepsLoadedBoundariesRising : Prop :=
  ∀ (f : RxFrame) (s : State), Commands 23 f s → s.station.mode ≠ .run →
    let p := f.payload
    let first := byteAt p 1
    let n := (p.length - 2) / 4
    let form := 6 ≤ p.length ∧ (p.length - 2) % 4 = 0 ∧ 1 ≤ first ∧ first ≤ 15 ∧ first + n ≤ 16
    let written : Fin 15 → Bool := fun j => decide (first ≤ j.val + 1) && decide (j.val + 1 < first + n)
    let table := tab15 fun j =>
      if written j = true then s32At p (2 + 4 * (j.val + 1 - first)) else s.zones.boundaries.get j
    let marks := tab15 fun j => written j || s.zones.loaded.get j
    let rises := ∀ i j : Fin 15, i < j → marks.get i = true → marks.get j = true → table.get i < table.get j
    (form → rises → exec (.setupZones f) s = .next (answered 23 f .done 0 { heard f s with
      zones := { s.zones with boundaries := table, loaded := marks } })) ∧
    (¬ (form ∧ rises) → exec (.setupZones f) s = .next (answered 23 f .badValue 0 (heard f s)))

/-- O36. Out of reset, with the trigger SEATED, an edge to DEFLECTED at tick t in every mode and state: the latch holds t
and the position of every live channel, whatever it held before, the re-seat state is SPENT with its timer stopped,
and axes, temperature unit, station control and pins but the trigger are unchanged. An edge while the re-seat is SPENT
does nothing else. With the trigger DEFLECTED already there is no edge. After a full reset the latch is EMPTY, and a
reference mark does not change it. Out of reset: an edge to SEATED starts the re-seat timer 5 ms from the tick and
changes nothing else but the pin; with the trigger SEATED already there is no edge. A re-seat timer whose deadline the
tick reaches, with the input SEATED, makes the state READY and stops; otherwise the expiry changes nothing but time.
That a level which does not change is no edge, and that an expiry acts only at its deadline, are the model's choices
of log entries 5 and 3. (spec/01_axis_channels.md, The capture latch; spec/06_touches_points_and_companions.md, The
trigger input.) -/
def Obligations.TriggerEdgesLoadTheLatchAndReseat : Prop :=
  ((∀ (t : Tick) (s : State), s.inReset = false → s.pins.deflected = false →
    let latch : Capture := { tick := t, counts := tab4 fun i => if s.live i = true then (s.axis i).position else 0 }
    (∃ u, exec (.triggerDeflected t) s = .next u ∧ u.latch = some latch ∧
      u.capture.reseat = .spent ∧ u.capture.reseatTimer = none ∧ u.axes = s.axes ∧ u.thermal = s.thermal ∧
      u.station = s.station ∧ u.gate = s.gate ∧ u.pins = { s.pins with deflected := true }) ∧
    (s.capture.reseat = .spent → exec (.triggerDeflected t) s = .next (finish { advance t s with
      pins := { s.pins with deflected := true }, latch := some latch
      capture := { s.capture with reseatTimer := none } }))) ∧
  (∀ (t : Tick) (s : State), s.inReset = false → s.pins.deflected = true →
    exec (.triggerDeflected t) s = .next (finish (advance t s))) ∧
  (∀ (x : Straps) (s : State), (afterReset x s).latch = none) ∧
  ∀ (i : Fin 4) (s : State), (referenceMark i s).latch = s.latch) ∧
  ((∀ (t : Tick) (s : State), s.inReset = false → s.pins.deflected = true →
    exec (.triggerSeated t) s = .next (finish { advance t s with
      pins := { s.pins with deflected := false }
      capture := { s.capture with reseatTimer := some ((advance t s).uptime + 50000) } })) ∧
  (∀ (t : Tick) (s : State), s.inReset = false → s.pins.deflected = false →
    exec (.triggerSeated t) s = .next (finish (advance t s))) ∧
  (∀ (t : Tick) (s : State) (d : Nat), s.inReset = false → s.capture.reseatTimer = some d → d ≤ (advance t s).uptime →
    s.pins.deflected = false →
    exec (.reseatTimerExpiry t) s = .next (finish { advance t s with
      capture := { s.capture with reseat := .ready, reseatTimer := none } })) ∧
  ∀ (t : Tick) (s : State), s.inReset = false →
    (s.pins.deflected = true ∨ ∀ d, s.capture.reseatTimer = some d → (advance t s).uptime < d) →
    exec (.reseatTimerExpiry t) s = .next (finish (advance t s)))

/-- O37. Out of reset in RUN, with the trigger SEATED, the re-seat READY, the line not OFFLINE, no probe change, probe
record r on the head and a PROBE head MOVING: the edge at tick t appends one point, with the point counter as number,
the segment's number, r's id, every live channel as mask, the forward correction of each latched count with the tip as
coordinates, the flags of those corrections with UNQUALIFIED and DECELERATING, and state READY without a companion
named or AWAITING COMPANION with its timer 25 ms from the edge. The point counter rises by 1 with wrap, the touch
count of r by 1 up to 2^32 − 1, and nothing behind the head is flushed. With speed left the head is STOPPING with
outcome TOUCHED. Without, as a head of the room, it leaves the queue TOUCHED at once with SEGMENT END latched, the
model's reading of log entry 27; the segment behind it becomes head, WAITING with its needed set, a QUEUED claim made
for the one that left is withdrawn, or outlives it in flight, and auto-release frees exactly the FIRM zones of the
station outside the new keep set. Nothing else changes before the step's end.
(spec/06_touches_points_and_companions.md, Classifying a touch; spec/06_touches_points_and_companions.md, The point
record; spec/04_segments_and_motion.md, Auto-release; spec/05_zones_on_the_bed.md, Claiming.) -/
def Obligations.TouchOnAProbeSegmentFormsAPoint : Prop :=
  ∀ (t : Tick) (s : State) (k : Fin 16) (r : ProbeRecord) (seg : Segment) (rest : List Segment),
    s.inReset = false → s.pins.deflected = false → s.capture.reseat = .ready → s.station.mode = .run →
    s.line.state ≠ .offline → s.probes.change.active = false → onHead? s = some (k, r) →
    s.motion.queue = seg :: rest → seg.kind = .probe → seg.state = .moving →
    let cs := s.liveAxes.map fun i => forward s i (s.axis i).position true
    let absent := cs.any fun c => c.absent
    let named := s.station.companion ≠ 0
    let point : PointRecord :=
      { number := s.capture.counter, segment := seg.number, probe := r.id
        flags :=
          { clamped := cs.any fun c => c.clamped, mapOutside := cs.any fun c => c.mapOutside
            thermalStale := !absent && cs.any fun c => c.stale, thermalAbsent := absent
            unqualified := !r.qualified, companionPresent := false, companionMissing := false
            decelerating := seg.decelerating }
        mask := BitVec.ofFnLE fun i => s.live i, coords := cs.map fun c => c.value, companion := none
        state := if named then .awaiting else .ready, expected := s.station.companion, captureTick := t
        announced := false, timer := if named then some ((advance t s).uptime + 250000) else none }
    let table := s.probes.table.set k.val { r with touches := min 4294967295 (r.touches + 1) }
    let points := s.capture.points ++ [point]
    let formed : State := { advance t s with
      pins := { s.pins with deflected := true }
      latch := some { tick := t, counts := tab4 fun i => if s.live i = true then (s.axis i).position else 0 }
      capture := { s.capture with
        reseat := .spent, reseatTimer := none, points := points, counter := s.capture.counter + 1 }
      probes := { s.probes with table := table } }
    (Shedding seg → exec (.triggerDeflected t) s = .next (finish { formed with
      motion := { s.motion with queue := { seg with state := .stopping, outcome := some .touched } :: rest } })) ∧
    (Speedless seg → seg.issuer = .room →
      ∃ v, exec (.triggerDeflected t) s = .next (finish v) ∧ MotionOnly formed v ∧ HeadDropped formed v ∧
        v.motion = { s.motion with queue := match rest with
          | [] => []
          | x :: xs => (if x.state = .queued then { x with state := .waiting, needed := some (neededSet formed x) }
              else x) :: xs } ∧
        v.notices = s.notices.set 6 ((s.notices.get 6).event (.segmentEnd seg.number .touched seg.flushed)))

/-- O38. Out of reset in RUN, with the trigger SEATED, the re-seat READY, the line not OFFLINE, no probe change and probe
record r on the head. On a POSITION or REFERENCE head MOVING with speed left: the head is STOPPING with outcome
COLLISION alone in the queue, r is no longer qualified, COLLISION is latched with segment number, kind and r's id, and
no point is formed. One in its settling wait, or at rest, ends COLLISION at once with the queue empty; one STOPPING
keeps its outcome, the queue behind it removed and counted; each with the same other effects. On a PROBE head that is
STOPPING, on a WAITING or CLAIMING head, or with no segment, the edge loads the latch and spends the re-seat and does
nothing else. Outside RUN, or with no record on the head and no change, it also does nothing else. During a probe
change only a RACK-TRAVEL head that is MOVING or STOPPING collides, whatever the mode: the record on the head, if any,
is no longer qualified and COLLISION is latched with its id or 0. In TRAVEL-DROP and TRAVEL-PICK, the phases with such
a head, with no expiry deferred: MOVING with speed left, the head is STOPPING COLLISION and the change, where it has
taken no outcome, takes FAILED with cause COLLISION and its phase; in its settling wait the head and the change end so
at once. A RACK-TRAVEL head already STOPPING keeps its outcome and the change its own. On any other head, or none, the
edge is ignored. That a MOVING head at rest ends at once is the model's reading of log entry 27.
(spec/06_touches_points_and_companions.md, Classifying a touch; spec/06_touches_points_and_companions.md, The trigger
input; spec/07_probes_and_the_rack.md, Interruptions and the commit stretch.) -/
def Obligations.TouchElsewhereCollidesOrIsIgnored : Prop :=
  (∀ (t : Tick) (s : State) (k : Fin 16) (r : ProbeRecord), s.inReset = false → s.pins.deflected = false →
    s.capture.reseat = .ready → s.station.mode = .run → s.line.state ≠ .offline → s.probes.change.active = false →
    onHead? s = some (k, r) →
    let ignored : State := { advance t s with
      pins := { s.pins with deflected := true }
      latch := some { tick := t, counts := tab4 fun i => if s.live i = true then (s.axis i).position else 0 }
      capture := { s.capture with reseat := .spent, reseatTimer := none } }
    (∀ seg rest, s.motion.queue = seg :: rest → (seg.kind = .position ∨ seg.kind = .reference) →
      seg.state = .moving → seg.traj.arrived = false → 0 < seg.traj.u →
      (seg.kind = .reference ∨ seg.traj.s ≠ seg.traj.len * 65536) →
      ∃ v, exec (.triggerDeflected t) s = .next (finish v) ∧
        MotionOnly ignored v ∧ v.capture.points = s.capture.points ∧
        v.motion.queue = [{ seg with
          state := .stopping, outcome := some .collision, flushed := min 7 (seg.flushed + rest.length) }] ∧
        v.probes = { s.probes with table := s.probes.table.set k.val { r with qualified := false } } ∧
        v.notices = s.notices.set 2 ((s.notices.get 2).event (.collision seg.number seg.kind r.id))) ∧
    (∀ seg rest, s.motion.queue = seg :: rest → (seg.kind = .position ∨ seg.kind = .reference) →
      ((seg.state = .moving ∧ Speedless seg) ∨ seg.state = .stopping) →
      ∃ v, exec (.triggerDeflected t) s = .next (finish v) ∧
        MotionOnly ignored v ∧ v.capture.points = s.capture.points ∧
        (seg.issuer = .room → v.probes = { s.probes with table := s.probes.table.set k.val { r with qualified := false } }) ∧
        v.notices.get 2 = (s.notices.get 2).event (.collision seg.number seg.kind r.id) ∧
        (seg.state = .stopping →
          v.motion.queue = [{ seg with flushed := min 7 (seg.flushed + rest.length) }]) ∧
        (seg.state = .moving → v.motion.queue = [] ∧ (seg.issuer = .room → (v.notices.get 6).detail =
          some (.segmentEnd seg.number .collision (min 7 (seg.flushed + rest.length)))))) ∧
    ((s.motion.queue = [] ∨ ∃ seg rest, s.motion.queue = seg :: rest ∧
        (seg.state = .waiting ∨ seg.state = .claiming ∨ (seg.kind = .probe ∧ seg.state = .stopping))) →
      exec (.triggerDeflected t) s = .next (finish ignored))) ∧
  (∀ (t : Tick) (s : State), s.inReset = false → s.pins.deflected = false → s.capture.reseat = .ready →
    s.probes.change.active = true →
    let ignored : State := { advance t s with
      pins := { s.pins with deflected := true }
      latch := some { tick := t, counts := tab4 fun i => if s.live i = true then (s.axis i).position else 0 }
      capture := { s.capture with reseat := .spent, reseatTimer := none } }
    let c := s.probes.change
    let r : ChangeResult := { outcome := .failed, phase := c.phaseNumber, cause := .collision, idRead := 0 }
    (∀ seg, s.motion.queue = [seg] → seg.kind = .rackTravel → seg.issuer = .probeUnit →
      (seg.state = .moving ∨ seg.state = .stopping) → (c.phase = some .travelDrop ∨ c.phase = some .travelPick) →
      c.expiry = .none →
      ∃ v, exec (.triggerDeflected t) s = .next (finish v) ∧ MotionOnly ignored v ∧
        (onHead? s = none → v.probes.table = s.probes.table ∧
          v.notices.get 2 = (s.notices.get 2).event (.collision seg.number .rackTravel 0)) ∧
        (∀ k x, onHead? s = some (k, x) →
          v.probes.table = s.probes.table.set k.val { x with qualified := false } ∧
          v.notices.get 2 = (s.notices.get 2).event (.collision seg.number .rackTravel x.id)) ∧
        (seg.state = .stopping → v.motion.queue = [{ seg with flushed := min 7 seg.flushed }] ∧
          v.probes.change = c) ∧
        (Shedding seg →
          v.motion.queue = [{ seg with
            state := .stopping, outcome := some .collision, flushed := min 7 seg.flushed }] ∧
          (c.result = none → v.probes.change =
            { c with result := some r, last := some r, timer := none, deferred := .none }) ∧
          (c.result ≠ none → v.probes.change = c)) ∧
        (seg.state = .moving → Speedless seg → c.result = none →
          v.motion.queue = [] ∧ v.probes.change = Change.idle (some r) ∧
          (v.notices.get 4).detail = some (.probeChangeEnd c.target r))) ∧
    ((∀ seg rest, s.motion.queue = seg :: rest →
        seg.kind ≠ .rackTravel ∨ (seg.state ≠ .moving ∧ seg.state ≠ .stopping)) →
      exec (.triggerDeflected t) s = .next (finish ignored))) ∧
  ∀ (t : Tick) (s : State), s.inReset = false → s.pins.deflected = false →
    s.probes.change.active = false → (s.station.mode ≠ .run ∨ onHead? s = none) →
    exec (.triggerDeflected t) s = .next (finish { advance t s with
      pins := { s.pins with deflected := true }
      latch := some { tick := t, counts := tab4 fun i => if s.live i = true then (s.axis i).position else 0 }
      capture := { s.capture with reseat := .spent, reseatTimer := none } })

/-- O39. Out of reset, with an AWAITING record of the point whose deadline the tick reaches, every such record is READY
with COMPANION MISSING, no companion value and its timer stopped, the TOUCH of that point leaves the TOUCH slot, or,
with its attempt in flight, the withdrawal is held on the attempt while its tag is being sent and has no effect past a
won tag (log entry 16), and nothing else changes before the step's end. With no such record only time passes: that the
expiry acts only at its deadline is the model's choice of log entry 3. A COMPANION of eight bytes to the station's own
number that the station hears: every record AWAITING a companion from its sender under its point number becomes READY
with its timer stopped, with COMPANION PRESENT and the value for status OK and with COMPANION MISSING and no value for
any other status; every other record, and everything else before the withdrawal check, stays. A COMPANION for another
station, or of another length, changes nothing but the line. (spec/06_touches_points_and_companions.md, The wait for
the companion; spec/08_the_gauge_line.md, Arbitration.) -/
def Obligations.AwaitingPointsBecomeReady : Prop :=
  ((∀ (n : BitVec 16) (t : Tick) (s : State), s.inReset = false →
    let due : PointRecord → Bool := fun r =>
      r.number == n && r.state == .awaiting && (match r.timer with
        | some d => decide (d ≤ (advance t s).uptime)
        | none => false)
    let missing : PointRecord → PointRecord := fun r =>
      if due r = true then
        { r with
          state := .ready, timer := none, companion := none, flags := { r.flags with companionMissing := true } }
      else r
    let here := s.slots.touch.map (fun x => x.point) = some n
    let flying := s.line.attempt.map (fun x => x.slot) = some SlotId.touch
    let line : Line := (advance t s).line
    ((∃ r ∈ s.capture.points, due r = true) →
      exec (.companionTimerExpiry n t) s = .next (finish { advance t s with
        capture := { s.capture with points := s.capture.points.map missing }
        slots := { s.slots with touch := if here ∧ ¬ flying then none else s.slots.touch }
        line := if here ∧ flying then
            { line with attempt := line.attempt.map fun x =>
                { x with withdrawn := x.withdrawn || decide ((advance t s).uptime ≤ x.tagSent) } }
          else line })) ∧
    ((∀ r ∈ s.capture.points, due r = false) →
      exec (.companionTimerExpiry n t) s = .next (finish (advance t s))))) ∧
  (∀ (f : RxFrame) (s : State), Hears 6 f s →
    let h := heard f s
    let p := f.payload
    let mine := p.length = 8 ∧ byteAt p 0 = s.line.number
    let merged : PointRecord → PointRecord := fun r =>
      if r.expected = f.sender.toNat ∧ r.number = BitVec.ofNat 16 (u16At p 1) ∧ r.state = .awaiting then
        if byteAt p 7 = 0 then { r with
          state := .ready, timer := none, companion := some (s32At p 3)
          flags := { r.flags with companionPresent := true } }
        else { r with
          state := .ready, timer := none, companion := none, flags := { r.flags with companionMissing := true } }
      else r
    (mine → exec (.companionReceived f) s =
      .next (settled { h with capture := { s.capture with points := s.capture.points.map merged } })) ∧
    (¬ mine → exec (.companionReceived f) s = .next (settled h)))

/-- O40. A TOUCH that the station hears. Of six bytes, from a station of the serve set with the line joined, it is a
request at T, its start of frame less its age. On no serve axis, or one not live or not referenced, the answer is NOT
REFERENCED with value 0; with T before the oldest ring entry or an empty ring it is BEYOND HISTORY; with T after the
newest entry it waits; otherwise it is OK. An answer goes into the COMPANION slot of the same toucher and point, or
else the lowest empty one, and drops a pending request of the same toucher and point; a request that waits replaces a
pending one of the same toucher and point, or else joins while fewer than 2 are pending, and is dropped with 2
pending. The slot is, of the two, the first that holds an answer to the same toucher and point, with none such the
lowest-numbered empty one; with none empty the answer is not made. Any other TOUCH changes nothing but the line. For a
ring with consecutive entries a and b, an instant T earlier than b's tick and not earlier than that of a or of any
entry before it, the raw value is a's count + round((b's − a's) × (T − a's tick) / (b's tick − a's tick)), with
differences modulo 2^32. When T is not earlier than any entry's tick, the raw value is the newest count. On a live,
referenced serve axis with a ring whose oldest tick T is not earlier than and whose newest tick T is not later than,
the answer is OK with the forward correction of that raw value, the tip left out, by the figures of the moment, within
±2,000,000,000. At every servo sample out of reset, the new entries having joined the rings, each pending request is
settled again by the same rule, the one that joined first first, the model's choice of log entry 43: one that still
waits stays pending and every other leaves, its answer going into its slot as above, or beside a frame in flight
there. (spec/06_touches_points_and_companions.md, Answering as companion; spec/01_axis_channels.md, The servo sample
and the history ring; spec/09_frames_and_transmit_slots.md, The fifteen slots.) -/
def Obligations.TouchHeardIsAnsweredByTheRing : Prop :=
  ((∀ (s : State) (t : Tick),
    ((∀ i, s.station.serveAxis = some i → s.live i = false ∨ (s.axis i).referenced = false) →
      settle s t = .answer .notReferenced 0) ∧
    ∀ i, s.station.serveAxis = some i → s.live i = true → (s.axis i).referenced = true →
      ((s.axis i).ring = [] → settle s t = .answer .beyondHistory 0) ∧
      (∀ o, (s.axis i).ring.head? = some o → Tick.earlier t o.tick = true → settle s t = .answer .beyondHistory 0) ∧
      (∀ o n, (s.axis i).ring.head? = some o → (s.axis i).ring.getLast? = some n → Tick.earlier t o.tick = false →
        Tick.later t n.tick = true → settle s t = .wait)) ∧
  ∀ (f : RxFrame) (s : State), Hears 1 f s →
    let h := heard f s
    let served := f.payload.length = 6 ∧ joined h = true ∧ s.station.serveSet.getLsbD f.sender.toNat = true
    let q : Request := { toucher := f.sender.toNat, point := BitVec.ofNat 16 (u16At f.payload 0),
                         instant := f.sof - BitVec.ofNat 32 (u24At f.payload 2) }
    let same : Request → Bool := fun x => x.toucher == q.toucher && x.point == q.point
    (¬ served → exec (.touchReceived f) s = .next (settled h)) ∧
    (served → settle h q.instant = .wait → s.capture.requests.any same = false → s.capture.requests.length < 2 →
      exec (.touchReceived f) s = .next (settled { h with
        capture := { s.capture with requests := s.capture.requests ++ [q] } })) ∧
    (served → settle h q.instant = .wait → s.capture.requests.any same = true →
      exec (.touchReceived f) s = .next (settled { h with
        capture := { s.capture with requests := s.capture.requests.map fun x => if same x then q else x } })) ∧
    (served → settle h q.instant = .wait → s.capture.requests.any same = false → 2 ≤ s.capture.requests.length →
      exec (.touchReceived f) s = .next (settled h)) ∧
    (served → ∀ (st : CompanionStatus) (v : Int) (i : Fin 2), settle h q.instant = .answer st v →
      companionSlot h q.toucher q.point = some i →
      let x : CompanionFrame := { dest := q.toucher, point := q.point, value := v, status := st }
      let slot : Slot CompanionFrame := if (s.slots.companions.get i).frame.isNone then
          { frame := some x, amend := none }
        else { s.slots.companions.get i with frame := some x }
      exec (.touchReceived f) s = .next (settled { h with
        capture := { s.capture with requests := s.capture.requests.filter fun x => !same x }
        slots := { h.slots with companions := s.slots.companions.set i.val slot } })) ∧
    (served → ∀ (st : CompanionStatus) (v : Int), settle h q.instant = .answer st v →
      companionSlot h q.toucher q.point = none →
      exec (.touchReceived f) s = .next (settled { h with
        capture := { s.capture with requests := s.capture.requests.filter fun x => !same x } }))) ∧
  (∀ (s : State) (dest : Nat) (n : BitVec 16),
    let holds := fun i : Fin 2 => ∃ x, (s.slots.companions.get i).frame = some x ∧ x.dest = dest ∧ x.point = n
    (∀ i, holds i → (∀ j, j < i → ¬ holds j) → companionSlot s dest n = some i) ∧
    ((∀ i, ¬ holds i) →
      (∀ i, (s.slots.companions.get i).frame = none → (∀ j, j < i → (s.slots.companions.get j).frame ≠ none) →
        companionSlot s dest n = some i) ∧
      ((∀ i, (s.slots.companions.get i).frame ≠ none) → companionSlot s dest n = none))) ∧
  (∀ (t : Tick) (s : State), s.inReset = false →
    let entries := fun i => (s.axis i).ring ++ [{ tick := t, count := (s.axis i).position }]
    let ring := fun i => if 64 < (entries i).length then (entries i).drop 1 else entries i
    let r : State := { advance t s with
      axes := tab4 fun i => if s.live i = true then { s.axis i with ring := ring i } else s.axis i }
    let place : State → Request → State := fun u q => match settle r q.instant with
      | .wait => u
      | .answer status value => match companionSlot u q.toucher q.point with
        | none => u
        | some i =>
          let x : CompanionFrame := { dest := q.toucher, point := q.point, value := value, status := status }
          let held := u.slots.companions.get i
          let slot : Slot CompanionFrame :=
            if held.frame.isNone then { frame := some x, amend := none }
            else if inFlight s (.companion i) then { held with amend := some x } else { held with frame := some x }
          { u with slots := { u.slots with companions := u.slots.companions.set i.val slot } }
    ∃ v, exec (.servoSample t) s = .next v ∧
      v.capture.requests = s.capture.requests.filter (fun q => settle r q.instant = .wait) ∧
      v.slots.companions = (s.capture.requests.foldl place r).slots.companions) ∧
  ((∀ (t : Tick) (pre post : List Sample) (a b : Sample),
    (∀ e ∈ pre ++ [a], Tick.earlier t e.tick = false) → Tick.earlier t b.tick = true →
    interpolate t (pre ++ a :: b :: post) =
      a.count + roundDiv ((b.count - a.count) * (t - a.tick).toNat) (b.tick - a.tick).toNat) ∧
  (∀ (t : Tick) (pre : List Sample) (a : Sample), (∀ e ∈ pre ++ [a], Tick.earlier t e.tick = false) →
    interpolate t (pre ++ [a]) = a.count) ∧
  ∀ (s : State) (i : Fin 4) (t : Tick) (oldest newest : Sample), s.station.serveAxis = some i → s.live i = true →
    (s.axis i).referenced = true → (s.axis i).ring.head? = some oldest → (s.axis i).ring.getLast? = some newest →
    Tick.earlier t oldest.tick = false → Tick.later t newest.tick = false →
    settle s t = .answer .ok (forward s i (interpolate t (s.axis i).ring) false).value ∧
      (forward s i (interpolate t (s.axis i).ring) false).value.natAbs ≤ 2000000000)

/-- O41. Out of reset with no probe change in progress, a lock-state, lid-state or presence input changes its pins and
nothing else; the presence input does so during a change too. The lock state is LOCKED with the locked input alone,
UNLOCKED with the unlocked input alone and MOVING otherwise; a lid is OPEN or OPENING under output OPEN and CLOSED or
CLOSING under output CLOSED, by its input. An identity read that begins is noted, and its completion replaces the
identity reading; a start during a read, or a completion without one, changes nothing but time, the model's choice of
log entry 5. A read that begins during a change with no outcome taken, in DETACH after its segment has ended ARRIVED
or in IDENTIFY, is marked begun in time, and nothing else is. During a change with no outcome taken, the open input of
the port in which the head stands going inactive under output OPEN fails the phase running with LID FAULT: records,
lids and lock as the phase has it, a deferred expiry taken; a MOVING segment of the change with speed left goes
STOPPING HALTED and the change waits for it, one STOPPING keeps its outcome; one with no speed left (log entries 27
and 31), or none, and the change ends at once. (spec/07_probes_and_the_rack.md, The head;
spec/07_probes_and_the_rack.md, Ports; spec/07_probes_and_the_rack.md, The drop; spec/07_probes_and_the_rack.md, The
pick; spec/07_probes_and_the_rack.md, Failures.) -/
def Obligations.HeadAndRackInputsAreFollowed : Prop :=
  (∀ (locked unlocked : Bool) (t : Tick) (s : State), s.inReset = false → s.probes.change.active = false →
    exec (.lockStateInput locked unlocked t) s = .next (finish { advance t s with
      pins := { s.pins with locked := locked, unlocked := unlocked } })) ∧
  (∀ (p : Fin 8) (o c : Bool) (t : Tick) (s : State), s.inReset = false → s.probes.change.active = false →
    exec (.lidStateInput p o c t) s = .next (finish { advance t s with
      pins := { s.pins with
        ports := s.pins.ports.set p.val { s.pins.ports.get p with openIn := o, closedIn := c } } })) ∧
  (∀ (p : Fin 8) (active : Bool) (t : Tick) (s : State), s.inReset = false →
    exec (.presenceInput p active t) s = .next (finish { advance t s with
      pins := { s.pins with ports := s.pins.ports.set p.val { s.pins.ports.get p with present := active } } })) ∧
  (∀ s : State, lockState s = match s.pins.locked, s.pins.unlocked with
    | true, false => .locked
    | false, true => .unlocked
    | _, _ => .moving) ∧
  (∀ (s : State) (p : Fin 8),
    lidState s p = match (s.probes.ports.get p).lidOpen, (s.pins.ports.get p).openIn, (s.pins.ports.get p).closedIn with
      | true, true, _ => .opened
      | true, false, _ => .opening
      | false, _, true => .closed
      | false, _, false => .closing) ∧
  (∀ (t : Tick) (s : State), s.inReset = false → s.probes.change.active = false → s.probes.reading = false →
    exec (.identityReadStart t) s = .next (finish { advance t s with
      probes := { s.probes with reading := true } })) ∧
  (∀ (t : Tick) (s : State), s.inReset = false → s.probes.change.active = true → s.probes.reading = false →
    let c := s.probes.change
    exec (.identityReadStart t) s = .next (finish { advance t s with
      probes := { s.probes with
        reading := true
        change := { c with readBegun := c.readBegun || decide (c.result = none ∧
          (c.phase = some .identify ∨ c.phase = some .detach ∧ c.segArrived = true)) } } })) ∧
  (∀ (p : Fin 8) (closed : Bool) (t : Tick) (s : State), s.inReset = false → s.probes.change.active = true →
    s.probes.change.result = none → headStands s.probes.change p = true → (s.probes.ports.get p).lidOpen = true →
    (s.pins.ports.get p).openIn = true →
    (s.motion.queue = [] ∨ ∃ seg, s.motion.queue = [seg] ∧ seg.issuer = .probeUnit) →
    ∃ v, exec (.lidStateInput p false closed t) s = .next (finish v) ∧ PhaseFailed .lidFault s v ∧
      MotionOnly { advance t s with pins := { s.pins with
        ports := s.pins.ports.set p.val { s.pins.ports.get p with openIn := false, closedIn := closed } } } v ∧
      (s.motion.queue = [] → v.motion.queue = []) ∧
      ∀ seg, s.motion.queue = [seg] →
        (Speedless seg → v.motion.queue = []) ∧
        (Shedding seg → v.motion.queue = [{ seg with
          state := .stopping, outcome := some .halted, flushed := min 7 seg.flushed }]) ∧
        (seg.state = .stopping → v.motion.queue = [{ seg with flushed := min 7 seg.flushed }])) ∧
  (∀ (s : State) (p : Fin 8), headStands s.probes.change p = true ↔
    let c := s.probes.change
    (c.drop = some p ∧ (c.phase = some .insert ∨ c.phase = some .unlock ∨
      c.phase = some .detach ∧ c.segArrived = false)) ∨
    (c.pick = some p ∧ (c.phase = some .engage ∨ c.phase = some .lock ∨ c.phase = some .identify ∨
      c.phase = some .withdraw ∧ c.segArrived = false))) ∧
  (∀ (t : Tick) (s : State), s.inReset = false → s.probes.reading = true →
    exec (.identityReadStart t) s = .next (finish (advance t s))) ∧
  (∀ (v : Byte) (t : Tick) (s : State), s.inReset = false → s.probes.change.active = false → s.probes.reading = true →
    exec (.identityReadComplete v t) s = .next (finish { advance t s with
      probes := { s.probes with identity := v.toNat, reading := false } })) ∧
  ∀ (v : Byte) (t : Tick) (s : State), s.inReset = false → s.probes.reading = false →
    exec (.identityReadComplete v t) s = .next (finish (advance t s))

/-- O42. Out of reset with a change in progress, no outcome taken; the drop phases have a drop port, the pick phases need
none. A segment issued is alone in the queue, WAITING under the next number, with the port's approach point or insert
target (the approach moved by the depth on the insert axis) on the approach axes and the others at their demands. No
segment queued: OPEN-DROP's lid OPEN begins INSERT, UNLOCK's lock UNLOCKED DETACH, CLOSE-DROP's lid CLOSED TRAVEL-
PICK, OPEN-PICK's lid OPEN with the lock UNLOCKED ENGAGE, and LOCK's lock LOCKED with nothing deferred IDENTIFY;
CLOSE-PICK's lid CLOSED ends the change DONE. A read begun in time completes: in DETACH, 0 with the drop port PRESENT
puts the old probe IN PORT and, with nothing deferred, begins CLOSE-DROP, another id fails with DROP FAULT and an
ABSENT port with PRESENCE FAULT, the old probe UNKNOWN and the lids as they stand; in IDENTIFY, the target's id puts
it ON HEAD and begins WITHDRAW, 0 fails with PICK FAULT and another id with WRONG PROBE and that id, the target
UNKNOWN and a record of the id read ON HEAD. A read not begun in time decides nothing. The segment, alone in the
queue, ends ARRIVED in a servo sample: TRAVEL-DROP begins OPEN-DROP and TRAVEL-PICK OPEN-PICK, the lid commanded OPEN
with 2 s; INSERT begins UNLOCK and ENGAGE LOCK, the lock commanded with 500 ms; DETACH waits for a read; WITHDRAW
fails with PRESENCE FAULT with the pick port PRESENT, and otherwise begins CLOSE-PICK, the lid commanded CLOSED with 2
s. Each of these where the new phase's condition does not hold already (log entry 26). That a failing end check lies
in the commit stretch is log entry 45, that the sample of demand arrival is itself looked at the reading of 12.
(spec/07_probes_and_the_rack.md, Rack segments; spec/07_probes_and_the_rack.md, The drop;
spec/07_probes_and_the_rack.md, The pick; spec/07_probes_and_the_rack.md, Failures; spec/07_probes_and_the_rack.md,
The end of a change.) -/
def Obligations.ChangePhasesAdvanceOnTheirConditions : Prop :=
  (∀ (t : Tick) (s : State) (q : Fin 8), s.inReset = false → s.probes.change.active = true →
    s.probes.change.result = none → s.motion.queue = [] → s.probes.change.pick = some q →
    let c := s.probes.change
    let approach := fun (p : Fin 8) => (s.probes.ports.get p).approach
    let target := fun (p : Fin 8) (k : Fin 3) => (s.probes.ports.get p).approach.get k +
      (if approachIx? s (s.probes.ports.get p).insertAxis = some k then (s.probes.ports.get p).insertDepth else 0)
    let issued := fun (v : State) (ph : Phase) (kind : SegKind) (pt : Fin 3 → Int) (speed : Nat) =>
      v.probes.change.phase = some ph ∧ v.probes.change.active = true ∧ v.probes.change.result = none ∧
      ∃ seg, v.motion.queue = [seg] ∧ seg.kind = kind ∧ seg.issuer = .probeUnit ∧ seg.state = .waiting ∧
        seg.number = s.motion.counter ∧ seg.speed = speed ∧ seg.searchEnd = none ∧
        ∀ i, seg.targets.get i = match approachIx? s i with
          | some k => pt k
          | none => (s.axis i).demand
    let cap := s.station.probeCap
    let top := ((approachAxes s).map fun i => (s.axis i).record.maxSpeed).foldl max 0
    let ends := fun (v : State) (o : ChangeOutcome) (ph : Nat) (cause : ChangeCause) (id : Nat) =>
      v.motion.queue = [] ∧
      v.probes.change = Change.idle (some { outcome := o, phase := ph, cause := cause, idRead := id }) ∧
      v.notices.get 4 = (s.notices.get 4).event
        (.probeChangeEnd c.target { outcome := o, phase := ph, cause := cause, idRead := id })
    let located := fun (v : State) (id : Nat) (l : Location) => ∀ i, v.probes.table.get i =
      if id ≠ 0 ∧ (s.probes.table.get i).id = id then { s.probes.table.get i with location := l }
      else s.probes.table.get i
    (∀ d closed, c.phase = some .openDrop → c.drop = some d → (s.probes.ports.get d).lidOpen = true →
      (s.pins.ports.get d).openIn = false →
      ∃ v, exec (.lidStateInput d true closed t) s = .next (finish v) ∧
        issued v .insert .rackInsert (target d) cap ∧ v.probes.table = s.probes.table) ∧
    (∀ d, c.phase = some .unlock → c.drop = some d → lockState s ≠ .unlocked →
      ∃ v, exec (.lockStateInput false true t) s = .next (finish v) ∧
        issued v .detach .rackInsert (approach d).get cap ∧ v.probes.table = s.probes.table) ∧
    (∀ d opened, c.phase = some .closeDrop → c.drop = some d → (s.probes.ports.get d).lidOpen = false →
      (s.pins.ports.get d).closedIn = false →
      ∃ v, exec (.lidStateInput d opened true t) s = .next (finish v) ∧
        issued v .travelPick .rackTravel (approach q).get top ∧ v.probes.table = s.probes.table) ∧
    (∀ closed, c.phase = some .openPick → (s.probes.ports.get q).lidOpen = true → (s.pins.ports.get q).openIn = false →
      lockState s = .unlocked →
      ∃ v, exec (.lidStateInput q true closed t) s = .next (finish v) ∧
        issued v .engage .rackInsert (target q) cap ∧ v.probes.table = s.probes.table) ∧
    (c.phase = some .openPick → lidState s q = .opened → lockState s ≠ .unlocked →
      ∃ v, exec (.lockStateInput false true t) s = .next (finish v) ∧
        issued v .engage .rackInsert (target q) cap ∧ v.probes.table = s.probes.table) ∧
    (c.phase = some .lock → lockState s ≠ .locked → c.deferred = .none → c.expiry = .none →
      ∃ v, exec (.lockStateInput true false t) s = .next (finish v) ∧ v.probes.change.phase = some .identify ∧
        v.probes.change.timer = some ((advance t s).uptime + 1000000) ∧ v.probes.change.readBegun = false ∧
        v.motion = s.motion ∧ v.probes.table = s.probes.table) ∧
    (∀ opened, c.phase = some .closePick → (s.probes.ports.get q).lidOpen = false →
      (s.pins.ports.get q).closedIn = false →
      ∃ v, exec (.lidStateInput q opened true t) s = .next (finish v) ∧ ends v .done 0 .none 0 ∧
        v.probes.table = s.probes.table) ∧
    (∀ (d : Fin 8) (id : Byte), c.phase = some .detach → c.drop = some d → s.probes.reading = true →
      c.readBegun = true → c.expiry = .none →
      ∃ v, exec (.identityReadComplete id t) s = .next (finish v) ∧ v.probes.identity = id.toNat ∧
        (id = 0 → present s d = true → c.deferred = .none → (s.pins.ports.get d).closedIn = false →
          v.probes.change.phase = some .closeDrop ∧ (v.probes.ports.get d).lidOpen = false ∧
          v.probes.change.timer = some ((advance t s).uptime + 20000000) ∧ located v c.oldId .inPort) ∧
        (id = 0 → present s d = false → ends v .failed 5 .presenceFault 0 ∧ located v c.oldId .unknown ∧
          v.probes.ports = s.probes.ports) ∧
        (id ≠ 0 → ends v .failed 5 .dropFault 0 ∧ located v c.oldId .unknown ∧ v.probes.ports = s.probes.ports)) ∧
    (∀ id : Byte, c.phase = some .identify → s.probes.reading = true → c.readBegun = true → c.target ≠ 0 →
      c.expiry = .none →
      ∃ v, exec (.identityReadComplete id t) s = .next (finish v) ∧ v.probes.identity = id.toNat ∧
        (id.toNat = c.target → issued v .withdraw .rackInsert (approach q).get cap ∧ located v c.target .onHead) ∧
        (id = 0 → ends v .failed 11 .pickFault 0 ∧ located v c.target .unknown) ∧
        (id ≠ 0 → id.toNat ≠ c.target → ends v .failed 11 .wrongProbe id.toNat ∧
          (∀ i, v.probes.table.get i =
            if (s.probes.table.get i).id = id.toNat then { s.probes.table.get i with location := .onHead }
            else if (s.probes.table.get i).id = c.target then { s.probes.table.get i with location := .unknown }
            else s.probes.table.get i)) ∧
        (id.toNat ≠ c.target → v.probes.unlockOut = s.probes.unlockOut ∧
          ∀ p, (v.probes.ports.get p).lidOpen = ((s.probes.ports.get p).lidOpen && p == q))) ∧
    (∀ id : Byte, (c.phase = some .detach ∨ c.phase = some .identify) → s.probes.reading = true → c.readBegun = false →
      exec (.identityReadComplete id t) s = .next (finish { advance t s with
        probes := { s.probes with identity := id.toNat, reading := false } }))) ∧
  ∀ (t : Tick) (s : State) (seg : Segment) (q : Fin 8), Arrives t s seg → s.motion.queue = [seg] →
    seg.issuer = .probeUnit → s.probes.change.active = true → s.probes.change.result = none →
    s.probes.change.pick = some q → s.probes.change.expiry = .none →
    let c := s.probes.change
    ∃ v, exec (.servoSample t) s = .next (finish v) ∧
      (c.deferred = .none → v.probes.table = s.probes.table) ∧
      (let begun := fun (ph : Phase) (ticks : Nat) => v.motion.queue = [] ∧ v.probes.change =
        { c with phase := some ph, timer := some ((advance t s).uptime + ticks), segArrived := false, readBegun := false }
      let lid := fun (p : Fin 8) => (v.probes.ports.get p).lidOpen
      (∀ d, c.phase = some .travelDrop → c.drop = some d → (s.pins.ports.get d).openIn = false →
        begun .openDrop 20000000 ∧ lid d = true) ∧
      (c.phase = some .insert → lockState s ≠ .unlocked → begun .unlock 5000000 ∧ v.probes.unlockOut = true) ∧
      (c.phase = some .detach → v.motion.queue = [] ∧
        v.probes.change = { c with segArrived := true, readBegun := false }) ∧
      (c.phase = some .travelPick → ¬ ((s.pins.ports.get q).openIn = true ∧ lockState s = .unlocked) →
        begun .openPick 20000000 ∧ lid q = true) ∧
      (c.phase = some .engage → lockState s ≠ .locked → begun .lock 5000000 ∧ v.probes.unlockOut = false) ∧
      (c.phase = some .withdraw → present s q = true → v.motion.queue = [] ∧
        v.probes.change = Change.idle (some { outcome := .failed, phase := 12, cause := .presenceFault, idRead := 0 })) ∧
      (c.phase = some .withdraw → present s q = false → (s.pins.ports.get q).closedIn = false →
        begun .closePick 20000000 ∧ lid q = false))

/-- O43. Out of reset with a probe change in progress, no outcome taken, no segment queued and the phase timer's deadline
reached: the lid timer fails OPEN-DROP, CLOSE-DROP and CLOSE-PICK with LID FAULT, and OPEN-PICK with LOCK FAULT when
its lid is OPEN and LID FAULT otherwise; the lock timer fails UNLOCK and LOCK with LOCK FAULT; the identify timer
fails IDENTIFY with PICK FAULT. The change is no longer in progress, its last outcome is FAILED with the phase number
and the cause, and PROBE CHANGE END is latched with target and outcome. UNLOCK leaves the old probe UNKNOWN, LOCK and
IDENTIFY leave the target UNKNOWN, and no other record changes. In UNLOCK and LOCK the lid outputs stay; otherwise
every lid but that of a port in which the head stands is commanded CLOSED. With no such timer due, only time passes,
the model's choice of log entry 3. (spec/07_probes_and_the_rack.md, Failures; spec/07_probes_and_the_rack.md, The end
of a change.) -/
def Obligations.ChangeTimersFailTheirPhase : Prop :=
  (∀ (cmd : Tick → Instr) (t : Tick) (s : State) (d : Nat) (ph : Phase) (cause : ChangeCause), s.inReset = false →
    s.probes.change.active = true → s.probes.change.result = none → s.motion.queue = [] →
    s.probes.change.timer = some d → d ≤ (advance t s).uptime → s.probes.change.phase = some ph →
    ((cmd = .lidTimerExpiry ∧ ((ph = .openDrop ∨ ph = .closeDrop ∨ ph = .closePick) ∧ cause = .lidFault ∨
        ph = .openPick ∧ cause = if lidIs s s.probes.change.pick .opened = true then .lockFault else .lidFault)) ∨
      (cmd = .lockTimerExpiry ∧ (ph = .unlock ∨ ph = .lock) ∧ cause = .lockFault) ∨
      (cmd = .identifyTimerExpiry ∧ ph = .identify ∧ cause = .pickFault)) →
    let c := s.probes.change
    let r : ChangeResult := { outcome := .failed, phase := ph.number, cause := cause, idRead := 0 }
    let unsure : Nat := match ph with
      | .unlock => c.oldId
      | .lock | .identify => c.target
      | _ => 0
    ∃ v, exec (cmd t) s = .next (finish v) ∧ MotionOnly (advance t s) v ∧ v.motion.queue = [] ∧
      v.probes.change = Change.idle (some r) ∧
      v.notices.get 4 = (s.notices.get 4).event (.probeChangeEnd c.target r) ∧
      (∀ i, v.probes.table.get i =
        if unsure ≠ 0 ∧ (s.probes.table.get i).id = unsure then
          { s.probes.table.get i with location := .unknown } else s.probes.table.get i) ∧
      (∀ p, (v.probes.ports.get p).lidOpen =
        ((s.probes.ports.get p).lidOpen && (ph == .unlock || ph == .lock || headStands c p))) ∧
      v.probes.unlockOut = s.probes.unlockOut) ∧
  ∀ (t : Tick) (s : State), s.inReset = false → (advance t s).due s.probes.change.timer = false →
    exec (.lidTimerExpiry t) s = .next (finish (advance t s)) ∧
    exec (.lockTimerExpiry t) s = .next (finish (advance t s)) ∧
    exec (.identifyTimerExpiry t) s = .next (finish (advance t s))

/-- O44. A PROBE CHANGE that reaches its answer in RUN from the controlling station, by its checks in order. A payload of
another length or target 0: BAD VALUE. A change in progress, motion not IDLE or a queued segment: BUSY. An id that no
record holds: BAD VALUE, detail 7. A target ON HEAD: DONE. A target not IN PORT or with no configured home port: BAD
VALUE, 7. No rack zone, fewer than three approach axes or probing speed cap 0: BAD VALUE, 0. With identity not 0: no
record ON HEAD of that id with a configured home port BAD VALUE, 1; the head not LOCKED or the drop port PRESENT BUSY,
1. Then for the drop port (detail 1) and the pick port (detail 7): an insert axis that is no approach axis BAD VALUE,
an approach point or insert target outside a soft limit of an approach axis OUT OF RANGE, the rack zone outside the
stationary set at the approach point BAD VALUE. Otherwise ACCEPTED with detail 0: the change record is set, every lid
but those of the two ports is CLOSED, and TRAVEL-DROP or, with identity 0, TRAVEL-PICK runs with one RACK-TRAVEL
segment WAITING under the next number, to the approach point with the other axes at their demands, at the largest max
speed of the approach axes. With identity 0 the lock output is UNLOCK and every record ON HEAD becomes UNKNOWN; no
other record changes. (spec/07_probes_and_the_rack.md, Accepting a probe change; spec/07_probes_and_the_rack.md, Rack
segments; spec/07_probes_and_the_rack.md, Ports.) -/
def Obligations.ProbeChangeIsCheckedAndBegins : Prop :=
  ∀ (f : RxFrame) (s : State), Commands 12 f s → s.station.mode = .run → f.sender.toNat = s.station.controller →
    let p := f.payload
    let h := heard f s
    let form := p.length = 2 ∧ byteAt p 1 ≠ 0
    let free := s.probes.change.active = false ∧ motionState s = .idle ∧ s.motion.queue = []
    let port := fun k : Fin 8 => s.probes.ports.get k
    let homed := fun (r : ProbeRecord) (k : Fin 8) => r.home = some k ∧ (port k).configured = true
    let carried := fun (r : ProbeRecord) => (onHead? s).map (·.2) = some r ∧ r.id = s.probes.identity
    let insert := fun (k : Fin 8) (j : Fin 3) => (port k).approach.get j +
      (if approachIx? s (port k).insertAxis = some j then (port k).insertDepth else 0)
    let goal := fun (k : Fin 8) (i : Fin 4) => match approachIx? s i with
      | some j => (port k).approach.get j
      | none => (s.axis i).demand
    let outside := fun k : Fin 8 => ∃ (i : Fin 4) (j : Fin 3), approachIx? s i = some j ∧
      ((port k).approach.get j < (s.axis i).record.softMin ∨ (s.axis i).record.softMax < (port k).approach.get j ∨
        insert k j < (s.axis i).record.softMin ∨ (s.axis i).record.softMax < insert k j)
    let apart := fun k : Fin 8 => ∀ z, s.station.rackZone = some z →
      (stationarySet s (tab4 (goal k))).getLsbD z.val = false
    let unfit := fun (k : Fin 8) (code : ReplyCode) =>
      if approachIx? s (port k).insertAxis = none then code = .badValue
      else if outside k then code = .outOfRange
      else apart k ∧ code = .badValue
    let fit := fun k : Fin 8 => approachIx? s (port k).insertAxis ≠ none ∧ ¬ outside k ∧ ¬ apart k
    let known := form ∧ free
    let aims := fun r : ProbeRecord => known ∧ recordOf? s (byteAt p 1) = some r
    let ready := fun q : Fin 8 => known ∧
      ∃ r, recordOf? s (byteAt p 1) = some r ∧ r.location = .inPort ∧ homed r q
    let able := s.station.rackZone ≠ none ∧ 3 ≤ (approachAxes s).length ∧ s.station.probeCap ≠ 0
    let drops := fun d : Fin 8 => ∃ old, carried old ∧ homed old d
    let loose := fun d : Fin 8 => lockState s = .locked ∧ present s d = false
    let chosen := fun drop : Option (Fin 8) => match drop with
      | none => s.probes.identity = 0
      | some d => s.probes.identity ≠ 0 ∧ drops d ∧ loose d ∧ fit d
    (¬ form → exec (.probeChange f) s = .next (answered 12 f .badValue 0 h)) ∧
    (form → ¬ free → exec (.probeChange f) s = .next (answered 12 f .busy 0 h)) ∧
    (known → recordOf? s (byteAt p 1) = none → exec (.probeChange f) s = .next (answered 12 f .badValue 7 h)) ∧
    (∀ r, aims r → r.location = .onHead → exec (.probeChange f) s = .next (answered 12 f .done 0 h)) ∧
    (∀ r, aims r → r.location ≠ .onHead → (r.location ≠ .inPort ∨ ∀ q, ¬ homed r q) →
      exec (.probeChange f) s = .next (answered 12 f .badValue 7 h)) ∧
    ∀ q : Fin 8, ready q →
      (¬ able → exec (.probeChange f) s = .next (answered 12 f .badValue 0 h)) ∧
      (able → s.probes.identity ≠ 0 → (∀ d, ¬ drops d) →
        exec (.probeChange f) s = .next (answered 12 f .badValue 1 h)) ∧
      (∀ d, able → s.probes.identity ≠ 0 → drops d → ¬ loose d →
        exec (.probeChange f) s = .next (answered 12 f .busy 1 h)) ∧
      (∀ d code, able → s.probes.identity ≠ 0 → drops d → loose d → unfit d code →
        exec (.probeChange f) s = .next (answered 12 f code 1 h)) ∧
      (∀ drop code, able → chosen drop → unfit q code →
        exec (.probeChange f) s = .next (answered 12 f code 7 h)) ∧
      ∀ drop, able → chosen drop → fit q →
        ∃ v, exec (.probeChange f) s = .next (answered 12 f .accepted 0 v) ∧ MotionOnly h v ∧
          v.probes.change = { Change.idle s.probes.change.last with
            active := true, target := byteAt p 1, oldId := s.probes.identity, drop := drop, pick := some q
            phase := some (if s.probes.identity = 0 then .travelPick else .travelDrop) } ∧
          v.probes.unlockOut = (s.probes.unlockOut || s.probes.identity == 0) ∧
          (∀ k, v.probes.ports.get k =
            if k = q ∨ drop = some k then port k else { port k with lidOpen := false }) ∧
          (∀ k, v.probes.table.get k =
            if s.probes.identity = 0 ∧ (s.probes.table.get k).location = .onHead then
              { s.probes.table.get k with location := .unknown }
            else s.probes.table.get k) ∧
          v.motion.counter = s.motion.counter + 1 ∧
          ∃ seg, v.motion.queue = [seg] ∧ seg.number = s.motion.counter ∧ seg.issuer = .probeUnit ∧
            seg.kind = .rackTravel ∧ seg.state = .waiting ∧ seg.searchEnd = none ∧
            seg.speed = ((approachAxes s).map fun i => (s.axis i).record.maxSpeed).foldl max 0 ∧
            ∀ i, seg.targets.get i = goal (drop.getD q) i

/-- O45. A PROBE SET that reaches its answer, in RUN from the controlling station. A bad form gives BAD VALUE; then a
change in progress BUSY; a record ON HEAD while motion is neither IDLE nor HELD BUSY; a non-zero id, or a home port of
a non-zero id, that another non-empty record holds BAD VALUE. Otherwise the reply is DONE: id 0 empties the record;
another id writes id, home, tip, allowance and qualified with touch count 0, and the location is ON HEAD if the head
is LOCKED and reads the id (any other record ON HEAD becomes UNKNOWN), else IN PORT if the home port is PRESENT, else
ABSENT. No other record changes. (spec/07_probes_and_the_rack.md, The probe table.) -/
def Obligations.ProbeSetDerivesTheLocation : Prop :=
  ∀ (f : RxFrame) (s : State), Commands 13 f s → (s.station.mode = .run → f.sender.toNat = s.station.controller) →
    let p := f.payload
    let h := heard f s
    let id := byteAt p 2
    let home : Option (Fin 8) := finOf 8 (byteAt p 3)
    let form := p.length = 21 ∧ byteAt p 1 < 16 ∧ (byteAt p 3 < 8 ∨ byteAt p 3 = 255) ∧
      (∀ i : Fin 3, -3000000 ≤ s32At p (4 + 4 * i.val) ∧ s32At p (4 + 4 * i.val) ≤ 3000000) ∧
      u32At p 16 ≤ 200000 ∧ byteAt p 20 ≤ 1
    (¬ form → exec (.probeSet f) s = .next (answered 13 f .badValue 0 h)) ∧
    (form → s.probes.change.active = true → exec (.probeSet f) s = .next (answered 13 f .busy 0 h)) ∧
    ∀ k : Fin 16, byteAt p 1 = k.val → form → s.probes.change.active = false →
      let used := (s.probes.table.get k).location = .onHead ∧ motionState s ≠ .idle ∧ motionState s ≠ .held
      let taken := id ≠ 0 ∧ ∃ i, i ≠ k ∧ (s.probes.table.get i).id ≠ 0 ∧
        ((s.probes.table.get i).id = id ∨ (home ≠ none ∧ (s.probes.table.get i).home = home))
      let onHead := lockState s = .locked ∧ s.probes.identity = id
      let location : Location := if onHead then .onHead else match home with
        | some q => if present s q = true then .inPort else .absent
        | none => .absent
      let r : ProbeRecord :=
        { id := id, home := home, location := location, tip := #v[s32At p 4, s32At p 8, s32At p 12],
          allowance := u32At p 16, qualified := byteAt p 20 == 1, touches := 0 }
      let table := tab16 fun i =>
        if i = k then r
        else if onHead ∧ (s.probes.table.get i).location = .onHead then
          { s.probes.table.get i with location := .unknown }
        else s.probes.table.get i
      (used → exec (.probeSet f) s = .next (answered 13 f .busy 0 h)) ∧
      (¬ used → taken → exec (.probeSet f) s = .next (answered 13 f .badValue 0 h)) ∧
      (¬ used → ¬ taken → id = 0 → exec (.probeSet f) s = .next (answered 13 f .done 0 { h with
        probes := { s.probes with table := s.probes.table.set k.val ProbeRecord.empty } })) ∧
      (¬ used → ¬ taken → id ≠ 0 → exec (.probeSet f) s = .next (answered 13 f .done 0 { h with
        probes := { s.probes with table := table } }))

/-- O46. In every state a full reset sets the drive demands to 0, the lids CLOSED, the strap fault off, ends an attempt,
turns the amplifiers off and keeps the lock output but at power-on, where it is LOCK. The end of reset reads the
straps: number, bit rate and up to 4 axes; SETUP and LISTEN integrating, or OFFLINE with the strap-fault output for
number 0 or 31. Station control, line, queue, permit, zones, buffer, requests, table, ports, slots, latches, channels
and figures take the values of their tables; input levels, lock output and waiting commands stay; drives are off,
DISABLED while drive-enable is low or with a strap fault. The tick counter at 0 is the model's choice of log entry 7,
the moment at which 11 bits have been read recessive its reckoning of log entry 23. State.reset is this end with the
straps and inputs of log entry 6. (spec/10_station_life_setup_and_status.md, Full reset and RESTART;
spec/08_the_gauge_line.md, OFFLINE; spec/09_frames_and_transmit_slots.md, After reset; spec/01_axis_channels.md, State
of the channels after reset and in OFFLINE; spec/02_temperature_channels_and_figures.md, After reset;
spec/04_segments_and_motion.md, After reset; spec/07_probes_and_the_rack.md, The end of a change.) -/
def Obligations.FullResetBeginsAndEndsWithTheTables : Prop :=
  (∀ (cause : ResetCause) (t : Tick) (s : State), ∃ u, exec (.fullReset cause t) s = .next u ∧ u.inReset = true ∧
    ampOn u = false ∧ (∀ i, u.axis i = { s.axis i with driveOut := 0 }) ∧
    (∀ p, u.probes.ports.get p = { s.probes.ports.get p with lidOpen := false }) ∧
    u.probes.unlockOut = (if cause = .powerOn then false else s.probes.unlockOut) ∧
    u.line.strapFault = false ∧ u.line.attempt = none ∧ u.line.acked = false ∧ u.pins = s.pins) ∧
  (∀ (x : Straps) (s : State),
    let t := afterReset x s
    let fault := x.number = 0 ∨ x.number = 31
    exec (.resetEnd x) s = .next t ∧ t.inReset = false ∧ t.uptime = 0 ∧ ampOn t = false ∧ t.pins = s.pins ∧
      t.pending = s.pending ∧ t.axisCount = min x.axes.toNat 4 ∧
      t.station =
        { mode := if fault then .offline else .setup, controller := 0, permitTime := 0, accel := 1, stopDecel := 1,
          probeCap := 0, halfWidth := 0, freeReach := 0, rackZone := none, companion := 0, serveSet := 0,
          serveAxis := none, restartPending := false } ∧
      t.line =
        { number := x.number.toNat, fast := x.fast, state := if fault then .offline else .listenIntegrating,
          strapFault := decide fault, failures := 0, mutes := 0, muteStart := none, muteTimer := none, quiet := 0,
          lastSof := 0, idleAt := some (if x.fast = true then 107 else 214), attempt := none, acked := false } ∧
      (∀ i, (t.axis i).record.setUp = false ∧ (t.axis i).record.role = .other ∧ (t.axis i).position = 0 ∧
        (t.axis i).demand = 0 ∧ (t.axis i).referenced = false ∧ (t.axis i).ring = [] ∧ (t.axis i).driveOut = 0 ∧
        (t.axis i).comp.alpha = 0 ∧ (t.axis i).comp.scaleChannel = none ∧ (t.axis i).comp.tip = none ∧
        (t.axis i).comp.datum = 0 ∧ ∀ j : Fin 65, (t.axis i).comp.nodes.get j = 0) ∧
      t.latch = none ∧ t.faultPending = false ∧
      t.gate = (if s.pins.driveEnable = true ∧ ¬ fault then .normal else .disabled) ∧
      t.thermal.mask = 0 ∧ t.thermal.shift = 0 ∧ t.thermal.source = .localChannels ∧ t.thermal.publish = false ∧
      t.thermal.peerStation = 0 ∧ t.thermal.peer.standing = .neverHeard ∧
      (∀ c, (t.thermal.channels.get c).state = .unused) ∧
      workFigure t = { value := 20000, quality := .absent } ∧
      t.motion = { queue := [], counter := 0, permit := .none, permitTimer := none } ∧
      (∀ z, t.zones.view.get z = none) ∧ (∀ j, t.zones.loaded.get j = false) ∧ t.zones.claim = .none ∧
      t.capture = { reseat := .spent, reseatTimer := if s.pins.deflected then none else some 50000, points := [],
                    counter := 0, requests := [] } ∧
      (∀ k, t.probes.table.get k = ProbeRecord.empty) ∧
      (∀ p, (t.probes.ports.get p).configured = false ∧ (t.probes.ports.get p).lidOpen = false) ∧
      t.probes.unlockOut = s.probes.unlockOut ∧ t.probes.identity = 0 ∧ t.probes.change.active = false ∧
      (∀ id, occupied t id = false) ∧
      (∀ k, (t.notices.get k).pending = false ∧ (t.notices.get k).count = 0) ∧ t.overrun = false) ∧
  State.reset = { afterReset strapsAtReset State.reset with freeIx := 0 }

/-- O47. Out of reset: the MUTE timer at its deadline in MUTE enters LISTEN integrating with failure count 0; the quiet
count of 64 in LISTEN integrating places the HELLO and enters announcing; in any other state they change nothing but
time. With the line IDLE and no attempt, an attempt takes the frame of the first occupied slot of the fifteen, fixes
its content at this start of frame, which it timestamps, and is ARBITRATING; no slot occupied, nothing begins. While
announcing, with the line idle, it takes the HELLO alone, with axis count and mode, and the line stays in LISTEN. In
every other line state, while announcing on a line that is not idle (as in the frame that won over a lost HELLO), or
with an attempt in flight, nothing begins. The classes rise with the slots. For the stations 1 to 30, the tag ends 9
bits after the beginning of the start of frame, or 10 where a stuff bit falls before its end: in a COMPANION of
station 30, a POINT of station 1 and a NOTICE of the stations 28 to 30. When the tag has been sent, and from when the
line is idle, is the model's reckoning of log entry 23; that the MUTE timer acts only at its deadline, and the other
commands only in their states, is log entries 3 and 5. The payload of each of the fifteen slots is that of the
Payloads tables, at every start of frame: its length, each field at its place, numbers modulo their width, and each
code; a TOUCH with the ticks since its capture as age (an age beyond its three bytes is a free value, log entry 9), a
POINT with a coordinate for each it holds and the companion value last, a NOTICE with the detail of its kind. An empty
slot has none. HELLO has no code for OFFLINE, in which nothing is sent (log entry 37). (spec/08_the_gauge_line.md,
MUTE and LISTEN; spec/08_the_gauge_line.md, Arbitration; spec/09_frames_and_transmit_slots.md, The fifteen slots;
spec/09_frames_and_transmit_slots.md, Payloads; spec/08_the_gauge_line.md, The frame on the line.) -/
def Obligations.ListenEndsByQuietAndAttemptsBegin : Prop :=
  (∀ (t : Tick) (s : State), s.inReset = false →
    let a := advance t s
    (∀ d, s.line.state = .mute → s.line.muteTimer = some d → d ≤ a.uptime →
      exec (.muteTimerExpiry t) s = .next (finish { a with
        line := { a.line with state := .listenIntegrating, failures := 0, muteTimer := none } })) ∧
    ((s.line.state ≠ .mute ∨ ∀ d, s.line.muteTimer = some d → a.uptime < d) →
      exec (.muteTimerExpiry t) s = .next (finish a)) ∧
    (s.line.state = .listenIntegrating →
      exec (.listenQuietCount t) s = .next (finish { a with
        line := { a.line with state := .listenAnnouncing, quiet := 64, idleAt := some a.uptime }
        slots := { s.slots with hello := true } })) ∧
    (s.line.state ≠ .listenIntegrating → exec (.listenQuietCount t) s = .next (finish a)) ∧
    (∀ (id : SlotId) (pre post : List SlotId) (payload : List Byte), a.line.state = .idle → a.line.attempt = none →
      slotOrder = pre ++ id :: post → (∀ j ∈ pre, occupied a j = false) → slotPayload a t id = some payload →
      exec (.attemptStart t) s = .next (finish { a with line := { a.line with
        state := .arbitrating, lastSof := t, quiet := 0, idleAt := none
        attempt := some
          { slot := id, kind := id.kind, payload := payload, sof := t, withdrawn := false
            tagSent := a.uptime + bitTicks s * tagBits id.cls s.line.number } } })) ∧
    (a.line.state = .idle → a.line.attempt = none → (∀ id, occupied a id = false) →
      exec (.attemptStart t) s = .next (finish a)) ∧
    (∀ d, a.line.state = .listenAnnouncing → a.line.attempt = none → a.line.idleAt = some d → d ≤ a.uptime →
      s.slots.hello = true →
      exec (.attemptStart t) s = .next (finish { a with line := { a.line with
        lastSof := t, quiet := 0, idleAt := none
        attempt := some
          { slot := .hello, kind := 3, payload := put8 s.axisCount ++ put8 s.station.mode.code, sof := t
            withdrawn := false, tagSent := a.uptime + bitTicks s * tagBits 2 s.line.number } } })) ∧
    ((a.line.attempt ≠ none ∨ (a.line.state ≠ .idle ∧ a.line.state ≠ .listenAnnouncing) ∨
        (a.line.state = .listenAnnouncing ∧ (s.slots.hello = false ∨ ∀ d, a.line.idleAt = some d → a.uptime < d))) →
      exec (.attemptStart t) s = .next (finish a))) ∧
  slotOrder.length = 15 ∧ (∀ id : SlotId, id ∈ slotOrder) ∧
  slotOrder.Pairwise (fun x y => x.cls ≤ y.cls) ∧ (∀ id : SlotId, classOf id.kind = some id.cls) ∧
  (∀ (id : SlotId) (n : Nat), 1 ≤ n → n ≤ 30 → tagBits id.cls n =
    if (id.cls = 3 ∧ n = 30) ∨ (id.cls = 4 ∧ n = 1) ∨ (id.cls = 7 ∧ 28 ≤ n) then 10 else 9) ∧
  ∀ (s : State) (sof : Tick),
    Carries s sof .touch s.slots.touch (fun f p => p.length = 6 ∧ u16At p 0 = f.point.toNat ∧
      ((sof - f.captureTick).toNat < 16777216 → u24At p 2 = (sof - f.captureTick).toNat) ∧
      byteAt p 5 = f.probe % 256) ∧
    (∀ i, Carries s sof (.object i) (s.slots.objects.get i).frame fun f p => p.length = 3 ∧
      byteAt p 0 = f.claimant % 256 ∧ u16At p 1 = f.zones.toNat) ∧
    Carries s sof .hello (if s.slots.hello = true then some () else none) (fun _ p => p.length = 2 ∧
      byteAt p 0 = s.axisCount % 256 ∧ (s.station.mode = .setup → byteAt p 1 = 0) ∧
      (s.station.mode = .run → byteAt p 1 = 1)) ∧
    Carries s sof .release s.slots.release.frame (fun x p => p.length = 2 ∧ u16At p 0 = x.toNat) ∧
    Carries s sof .claim s.slots.claim (fun x p => p.length = 2 ∧ u16At p 0 = x.toNat) ∧
    (∀ i, Carries s sof (.companion i) (s.slots.companions.get i).frame fun f p => p.length = 8 ∧
      byteAt p 0 = f.dest % 256 ∧ u16At p 1 = f.point.toNat ∧ Holds32 p 3 f.value ∧
      byteAt p 7 = [CompanionStatus.ok, .beyondHistory, .notReferenced].idxOf f.status) ∧
    Carries s sof .point s.slots.point (fun f p =>
      p.length = 6 + 4 * f.coords.length + (if f.companion.isSome = true then 4 else 0) ∧
      u16At p 0 = f.number.toNat ∧ byteAt p 2 = f.segment.toNat ∧ byteAt p 3 = f.probe % 256 ∧ byteAt p 4 < 256 ∧
      (∀ k b, (k, b) ∈ [(7, f.flags.clamped), (6, f.flags.mapOutside), (5, f.flags.thermalStale),
          (4, f.flags.thermalAbsent), (3, f.flags.unqualified), (2, f.flags.companionPresent),
          (1, f.flags.companionMissing), (0, f.flags.decelerating)] → (byteAt p 4).testBit k = b) ∧
      byteAt p 5 = f.mask.toNat ∧ (∀ j v, f.coords[j]? = some v → Holds32 p (6 + 4 * j) v) ∧
      ∀ v, f.companion = some v → Holds32 p (6 + 4 * f.coords.length) v) ∧
    (∀ i, Carries s sof (.reply i) (s.slots.replies.get i) fun f p => p.length = 5 ∧ byteAt p 0 = f.dest % 256 ∧
      byteAt p 1 = f.kind % 256 ∧
      byteAt p 2 = [ReplyCode.accepted, .done, .wrongState, .badValue, .outOfRange, .notReferenced, .busy, .queueFull,
        .notController].idxOf f.code ∧
      u16At p 3 = f.detail % 65536) ∧
    Carries s sof .temp s.slots.temp.frame (fun f p => p.length = 5 ∧ Holds32 p 0 f.value ∧
      byteAt p 4 = [Quality.fresh, .stale, .absent].idxOf f.quality) ∧
    Carries s sof .status s.slots.status (fun f p => byteAt p 0 = f.dest % 256 ∧ byteAt p 1 = f.sect % 256 ∧
      byteAt p 2 = f.index % 256 ∧ 3 ≤ p.length ∧ p.drop 3 = f.content) ∧
    Carries s sof .notice s.slots.notice fun f p => byteAt p 1 = f.count % 256 ∧ match f.notice with
      | .driveChange high => p.length = 3 ∧ byteAt p 0 = 1 ∧ byteAt p 2 = high.toNat
      | .motionFault axis cause => p.length = 4 ∧ byteAt p 0 = 2 ∧ byteAt p 2 = axis.val ∧
        byteAt p 3 = [FaultCause.encoder, .overrange, .endMin, .endMax, .following, .notFound].idxOf cause
      | .collision segment kind probe => p.length = 5 ∧ byteAt p 0 = 3 ∧ byteAt p 2 = segment.toNat ∧
        byteAt p 3 = [SegKind.position, .probe, .reference, .rackTravel, .rackInsert].idxOf kind ∧
        byteAt p 4 = probe % 256
      | .zoneConflict station zones late => p.length = 6 ∧ byteAt p 0 = 4 ∧ byteAt p 2 = station % 256 ∧
        u16At p 3 = zones.toNat ∧ byteAt p 5 = late.toNat
      | .probeChangeEnd target r => p.length = 7 ∧ byteAt p 0 = 5 ∧ byteAt p 2 = target % 256 ∧
        byteAt p 3 = [ChangeOutcome.done, .failed, .aborted].idxOf r.outcome ∧ byteAt p 4 = r.phase % 256 ∧
        byteAt p 5 = [ChangeCause.none, .collision, .lidFault, .lockFault, .dropFault, .presenceFault, .pickFault,
          .wrongProbe, .settleFault, .conflict, .motionFault, .drivesOff, .halted, .mute, .lapsed].idxOf r.cause ∧
        byteAt p 6 = r.idRead % 256
      | .permitLapsed hello => p.length = 3 ∧ byteAt p 0 = 6 ∧ byteAt p 2 = hello.toNat
      | .segmentEnd number outcome flushed => p.length = 5 ∧ byteAt p 0 = 7 ∧ byteAt p 2 = number.toNat ∧
        byteAt p 3 = [SegOutcome.arrived, .unsettled, .touched, .missed, .halted, .lapsed, .collision, .conflict,
          .motionFault, .drivesOff].idxOf outcome ∧
        byteAt p 4 = flushed % 256
      | .thermal channel state => p.length = 4 ∧ byteAt p 0 = 8 ∧ byteAt p 2 = channel.val ∧
        byteAt p 3 = [ChannelState.unused, .settling, .valid, .held, .faulted].idxOf state
      | .lineRejoined mutes ms => p.length = 5 ∧ byteAt p 0 = 9 ∧ byteAt p 2 = mutes % 256 ∧ u16At p 3 = ms % 65536

/-- O48. Out of reset. Lost up to the end of the last bit of its tag: the attempt is over, the failure count unchanged,
the line RECEIVING (or still announcing) with quiet count 0 and not idle until the winning frame ends, the amendment
of its slot applied; a held withdrawal empties the TOUCH slot, or the CLAIM slot with a QUEUED claim. Failed past its
tag, with fewer than 15 failures before: the same with the failure count 1 higher, but that a withdrawal held before
has no effect and the frame stays (log entry 16), and the line idle after at least 10 recessive bits and a quiet count
of 11. Failed with 15 or more: MUTE with failure count 16, mute count 1 higher up to 255, its timer at 200 ms, every
slot empty, a waiting notice back in its latch, OFFERED points READY, no request, a QUEUED claim NONE, and view and a
claim in its window kept. With no change in progress, a MOVING head with speed left is STOPPING HALTED alone in the
queue, a STOPPING one keeps its outcome with the queue behind it counted, one of the room without speed leaves an
empty queue HALTED, and the probe unit is kept. Without a pending restart no other unit changes. A change that has
taken its outcome keeps it: its segment stops alike or, without speed, leaves and the change ends. One that has taken
none, with no restart pending, is aborted with cause MUTE outside the commit stretches; inside one it records MUTE as
its deferred cause, unless it holds HALTED or MUTE, and a MOVING segment goes on. An amended RELEASE is the union. An
event that does not fit the attempt changes nothing but time. The moments of the tag and of the idle line are the
model's reckoning of log entry 23, that a failure before the tag has no effect is 48, an event without its attempt 5,
and the end at once of a head at rest 27. (spec/08_the_gauge_line.md, Arbitration; spec/08_the_gauge_line.md, Failed
attempts and acknowledge; spec/09_frames_and_transmit_slots.md, The fifteen slots; spec/07_probes_and_the_rack.md,
Interruptions and the commit stretch; spec/04_segments_and_motion.md, HALT; spec/05_zones_on_the_bed.md, MUTE, rejoin
and OFFLINE.) -/
def Obligations.LostAndFailedAttemptsKeepTheFrame : Prop :=
  (∀ (t : Tick) (s : State) (x : Attempt), s.inReset = false → s.line.attempt = some x →
    let a := advance t s
    let ended := fun (idleAt : Option Nat) (quiet : Nat) => { a with line := { a.line with
      attempt := none, idleAt := idleAt, quiet := quiet
      state := if s.line.state = .listenAnnouncing then .listenAnnouncing else .receiving } }
    (a.uptime ≤ x.tagSent →
      (x.withdrawn = false →
        exec (.arbitrationLost t) s = .next (finish (applyAmendment x.slot (ended none 0)))) ∧
      (x.withdrawn = true → x.slot = .touch →
        exec (.arbitrationLost t) s = .next (finish { ended none 0 with slots := { s.slots with touch := none } })) ∧
      (∀ zones e, x.withdrawn = true → x.slot = .claim → s.zones.claim = .queued zones e →
        ∃ v, exec (.arbitrationLost t) s = .next (finish v) ∧ v.slots = { s.slots with claim := none } ∧
          v.zones = { s.zones with claim := .none } ∧ v.line = (ended none 0).line) ∧
      exec (.attemptSuccess t) s = .next (finish a) ∧ ∀ q, exec (.attemptFailed q t) s = .next (finish a)) ∧
    (x.tagSent < a.uptime →
      exec (.arbitrationLost t) s = .next (finish a) ∧
      (∀ q : Nat, s.line.failures < 15 →
        let idle := a.uptime + bitTicks s * max 10 (11 - q) - (if s.line.fast = true then 3 else 6)
        exec (.attemptFailed q t) s = .next (finish (applyAmendment x.slot { ended (some idle) q with
          line := { (ended (some idle) q).line with failures := s.line.failures + 1 } }))) ∧
      (∀ q : Nat, 15 ≤ s.line.failures → ∃ v, exec (.attemptFailed q t) s = .next v ∧
        v.line.state = .mute ∧ v.line.failures = 16 ∧ v.line.mutes = min 255 (s.line.mutes + 1) ∧
        v.line.muteStart = (if s.line.mutes = 0 then some a.uptime else s.line.muteStart) ∧
        v.line.muteTimer = some (a.uptime + 2000000) ∧ v.line.attempt = none ∧
        (∀ id, occupied v id = false) ∧
        v.capture = { s.capture with
          requests := []
          points := s.capture.points.map fun r => if r.state = .offered then { r with state := .ready } else r } ∧
        v.zones = { s.zones with claim := match s.zones.claim with
          | .queued _ _ => .none
          | c => c } ∧
        (∀ f, s.slots.notice = some f → (v.notices.get f.notice.latchIx).pending = true) ∧
        v.inReset = s.station.restartPending ∧
        (s.station.restartPending = false → MotionOnly { a with line := v.line, capture := v.capture } v) ∧
        (s.probes.change.active = false →
          (s.station.restartPending = false → (∀ seg ∈ s.motion.queue, seg.issuer = .room) → v.probes = s.probes) ∧
          (s.motion.queue = [] → v.motion.queue = []) ∧
          ∀ seg rest, s.motion.queue = seg :: rest →
            (Shedding seg → v.motion.queue = [{ seg with
              state := .stopping, outcome := some .halted, flushed := min 7 (seg.flushed + rest.length) }]) ∧
            (seg.state = .stopping →
              v.motion.queue = [{ seg with flushed := min 7 (seg.flushed + rest.length) }]) ∧
            (Speedless seg → seg.issuer = .room → v.motion.queue = [] ∧ (v.notices.get 6).detail =
              some (.segmentEnd seg.number .halted (min 7 (seg.flushed + rest.length))))) ∧
        (s.probes.change.active = true → ∀ r, s.probes.change.result = some r →
          ∀ seg, s.motion.queue = [seg] → seg.issuer = .probeUnit →
            (Shedding seg → v.motion.queue = [{ seg with
              state := .stopping, outcome := some .halted, flushed := min 7 seg.flushed }]) ∧
            (seg.state = .stopping → v.motion.queue = [{ seg with flushed := min 7 seg.flushed }]) ∧
            ((Shedding seg ∨ seg.state = .stopping) → v.probes.change = s.probes.change) ∧
            (Speedless seg → v.motion.queue = [] ∧ v.probes.change = Change.idle s.probes.change.last ∧
              (v.notices.get 4).detail = some (.probeChangeEnd s.probes.change.target r))) ∧
        (s.station.restartPending = false → s.probes.change.active = true → s.probes.change.result = none →
          (inCommit s = true → v.probes = { s.probes with change := { s.probes.change with deferred :=
              if s.probes.change.deferred = .halted then .halted else .mute } } ∧
            v.motion.queue.length = s.motion.queue.length ∧
            ∀ seg rest, s.motion.queue = seg :: rest → seg.state = .moving → v.motion.queue = s.motion.queue) ∧
          (inCommit s = false → Aborted .mute .halted s v))))) ∧
  (∀ (t : Tick) (s : State), s.inReset = false → s.line.attempt = none →
    exec (.arbitrationLost t) s = .next (finish (advance t s)) ∧
    exec (.attemptSuccess t) s = .next (finish (advance t s)) ∧
    ∀ q, exec (.attemptFailed q t) s = .next (finish (advance t s))) ∧
  ∀ (s : State) (x y : ZoneSet), s.slots.release = { frame := some x, amend := some y } →
    (applyAmendment .release s).slots.release = { frame := some (x ||| y), amend := none }

/-- O49. Out of reset with an attempt whose tag is won. Its success ends it, sets the failure count to 0 and starts the
interframe. By slot: an AWAITING record of a TOUCH is announced; a RELEASE or TEMP leaves its amendment as the next
frame; a QUEUED claim enters its window from now with its free zones TENTATIVE; an own OBJECT records its zones FIRM
to the station, zones it held keeping their start, and auto-release follows exactly where one was newly recorded (the
model's reading, log entry 17); a COMPANION leaves; the OFFERED point leaves the buffer; a REPLY leaves, and the DONE
of a pending RESTART begins the full reset; a STATUS of STATION 0 clears the overrun flag unless set since it was
built; a NOTICE leaves; a HELLO frees the station's own holdings and keeps those of the others, ends a claim in its
window with a CLAIMING head WAITING again, clears the mute count and latches LINE REJOINED where it was above 0;
nothing else changes before the step's end unless a MOVING or STOPPING head needs a zone so freed: then it stops
CONFLICT with the queue behind it removed, keeps its outcome while STOPPING, or ends CONFLICT at once without speed,
its phase failing for a segment of a change, and nothing changes outside motion, zones, probes, slots and notices (the
model's readings, log entries 25 and 27). At the end of every step out of reset the head is evaluated and then, with
the line joined, each of three slots if empty is loaded (log entries 14 and 15): TOUCH with the oldest record AWAITING
and not announced, POINT with the oldest record of the buffer if it is READY, which becomes OFFERED, NOTICE with the
first pending latch, which is cleared; otherwise the slot, the buffer and the latches stay. That only index 0 clears
the overrun flag is log entry 21, that the episode time of LINE REJOINED is rounded down 46, and the end of the
interframe is reckoned by 23. (spec/08_the_gauge_line.md, Failed attempts and acknowledge; spec/08_the_gauge_line.md,
MUTE and LISTEN; spec/09_frames_and_transmit_slots.md, The fifteen slots; spec/09_frames_and_transmit_slots.md, Notice
latches; spec/09_frames_and_transmit_slots.md, Commands and their answers; spec/06_touches_points_and_companions.md,
Delivering points; spec/05_zones_on_the_bed.md, Claiming; spec/05_zones_on_the_bed.md, Hearing a claim;
spec/05_zones_on_the_bed.md, Releasing; spec/06_touches_points_and_companions.md, Announcing a touch;
spec/05_zones_on_the_bed.md, MUTE, rejoin and OFFLINE.) -/
def Obligations.SuccessfulAttemptsInformTheirOwner : Prop :=
  (∀ (t : Tick) (s : State) (x : Attempt), s.inReset = false → s.line.attempt = some x →
    x.tagSent < (advance t s).uptime →
    let a := advance t s
    let b : State := { a with line := { a.line with
      attempt := none, failures := 0, state := .sending, quiet := 7
      idleAt := some (a.uptime + bitTicks s * 4 - (if s.line.fast = true then 3 else 6)) } }
    let ends := fun v => exec (.attemptSuccess t) s = .next (finish v)
    (∀ f, x.slot = .touch → s.slots.touch = some f → ends { b with
      slots := { s.slots with touch := none }
      capture := { s.capture with points := s.capture.points.map fun r =>
        if r.number = f.point ∧ r.state = .awaiting then { r with announced := true } else r } }) ∧
    (∀ i f, x.slot = .object i → (s.slots.objects.get i).frame = some f → ∃ w : State,
      (∀ z, (ZoneSet.has f.zones z = true →
          ∃ since, w.zones.view.get z = some { holder := s.line.number, standing := .firm, since := since } ∧
            ∀ h, s.zones.view.get z = some h → h.holder = s.line.number →
              (h.holder ≠ f.claimant ∨ h.standing = .firm) → since = h.since) ∧
        (ZoneSet.has f.zones z = false → w.zones.view.get z =
          match s.zones.view.get z with
          | some h => if h.holder = f.claimant ∧ h.standing = .tentative then none else some h
          | none => none)) ∧
      (w.slots.objects.get i) = { frame := (s.slots.objects.get i).amend, amend := none } ∧
      w = { b with slots := w.slots, zones := { s.zones with view := w.zones.view } } ∧
      ends (if f.zones &&& ~~~ownZones s = 0 then w else autoRelease w)) ∧
    (x.slot = .release → ends { b with
      slots := { s.slots with release := { frame := s.slots.release.amend, amend := none } } }) ∧
    (∀ zones e, x.slot = .claim → s.zones.claim = .queued zones e → ends { b with
      slots := { s.slots with claim := none }
      zones := { s.zones with
        claim := .window zones a.uptime
        view := tab16 fun z =>
          if ZoneSet.has zones z = true ∧ s.zones.view.get z = none then
            some { holder := s.line.number, standing := .tentative, since := a.uptime }
          else s.zones.view.get z } }) ∧
    (∀ i, x.slot = .companion i → ends { b with
      slots := { s.slots with companions := s.slots.companions.set i.val { frame := none, amend := none } } }) ∧
    (∀ r rest, x.slot = .point → s.capture.points = r :: rest → r.state = .offered → ends { b with
      slots := { s.slots with point := none }, capture := { s.capture with points := rest } }) ∧
    (∀ i f, x.slot = .reply i → s.slots.replies.get i = some f →
      let c : State := { b with slots := { s.slots with replies := s.slots.replies.set i.val none } }
      (¬ (f.kind = 17 ∧ f.code = .done ∧ s.station.restartPending = true) → ends c) ∧
      (f.kind = 17 → f.code = .done → s.station.restartPending = true → ends (beginReset false c))) ∧
    (x.slot = .temp → ends { b with
      slots := { s.slots with temp := { frame := s.slots.temp.amend, amend := none } } }) ∧
    (∀ f, x.slot = .status → s.slots.status = some f → ends { b with
      slots := { s.slots with status := none }
      overrun := s.overrun && !(f.sect == 0 && f.index == 0 && !s.overrunSince) }) ∧
    (x.slot = .notice → ends { b with slots := { s.slots with notice := none } }) ∧
    (x.slot = .hello →
      let joins : State := { b with
        line := { b.line with mutes := 0, muteStart := none }
        slots := { s.slots with hello := false }
        zones := { s.zones with
          claim := match s.zones.claim with
            | .window _ _ => .none
            | c => c
          view := tab16 fun z => match s.zones.view.get z with
            | some h => if h.holder = s.line.number then none else some h
            | none => none }
        motion := { s.motion with queue := match s.zones.claim, s.motion.queue with
          | .window _ _, seg :: rest => (if seg.state = .claiming then { seg with state := .waiting } else seg) :: rest
          | _, q => q }
        notices := if s.line.mutes = 0 then s.notices
          else s.notices.set 8 ((s.notices.get 8).event (.lineRejoined s.line.mutes
            (match s.line.muteStart with
              | some d => min 65535 ((a.uptime - d) / 10000)
              | none => 0))) }
      let loses := fun seg : Segment =>
        ∃ z h, ZoneSet.has (seg.needed.getD 0) z = true ∧ s.zones.view.get z = some h ∧ h.holder = s.line.number
      ((∀ seg rest, s.motion.queue = seg :: rest →
        (seg.state ≠ .moving ∧ seg.state ≠ .stopping) ∨ ¬ loses seg) → ends joins) ∧
      ∃ v, ends v ∧ MotionOnly joins v ∧ v.slots.hello = false ∧ v.zones.view = joins.zones.view ∧
        (∀ zones began, v.zones.claim ≠ .window zones began) ∧ v.notices.get 8 = joins.notices.get 8 ∧
        ∀ seg rest, s.motion.queue = seg :: rest → loses seg →
          (seg.state = .stopping →
            v.motion.queue = [{ seg with flushed := min 7 (seg.flushed + rest.length) }] ∧ v.probes = s.probes) ∧
          (Shedding seg → v.motion.queue = [{ seg with
              state := .stopping, outcome := some .conflict, flushed := min 7 (seg.flushed + rest.length) }] ∧
            v.probes = s.probes) ∧
          (seg.state = .moving → Speedless seg →
            (seg.issuer = .room → v.motion.queue = [] ∧ (v.notices.get 6).detail =
              some (.segmentEnd seg.number .conflict (min 7 (seg.flushed + rest.length)))) ∧
            (seg.issuer = .probeUnit → s.probes.change.active = true → s.probes.change.result = none →
              v.motion.queue = [] ∧ PhaseFailed .conflict s v)))) ∧
  (∀ (s : State) (k : Fin 9) (n : Notice), joined s = true → s.slots.notice = none → (s.notices.get k).pending = true →
    (∀ j, j < k → (s.notices.get j).pending = false) → (s.notices.get k).detail = some n →
    loadNotice s = { s with
      notices := s.notices.set k.val { pending := false, count := 0, detail := none }
      slots := { s.slots with notice := some { notice := n, count := (s.notices.get k).count } } }) ∧
  (∀ s : State, (s.inReset = true → finish s = s) ∧
    (s.inReset = false → finish s = loadNotice (loadPoint (loadTouch (evaluateHead s))))) ∧
  (∀ (s : State) (pre post : List PointRecord) (r : PointRecord), joined s = true → s.slots.touch = none →
    s.capture.points = pre ++ r :: post → (∀ x ∈ pre, x.state = .awaiting → x.announced = true) →
    r.state = .awaiting → r.announced = false →
    loadTouch s = { s with slots := { s.slots with
      touch := some { point := r.number, probe := r.probe, captureTick := r.captureTick } } }) ∧
  (∀ (s : State) (r : PointRecord) (rest : List PointRecord), joined s = true → s.slots.point = none →
    s.capture.points = r :: rest → r.state = .ready →
    loadPoint s = { s with
      capture := { s.capture with points := { r with state := .offered } :: rest }
      slots := { s.slots with
        point := some
          { number := r.number, segment := r.segment, probe := r.probe, flags := r.flags, mask := r.mask
            coords := r.coords, companion := r.companion } } }) ∧
  ∀ s : State,
    ((joined s = false ∨ s.slots.touch ≠ none ∨ ∀ x ∈ s.capture.points, x.state = .awaiting → x.announced = true) →
      loadTouch s = s) ∧
    ((joined s = false ∨ s.slots.point ≠ none ∨ ∀ r rest, s.capture.points = r :: rest → r.state ≠ .ready) →
      loadPoint s = s) ∧
    ((joined s = false ∨ s.slots.notice ≠ none ∨ ∀ k, (s.notices.get k).pending = false) → loadNotice s = s)

/-- O50. Out of reset, not OFFLINE and with no attempt in flight. Bits from an edge on an idle line, or in the frame that
won over a lost attempt, with a length, stuff, check or format error set the last start of frame and the quiet count,
the line idle at 11 recessive bits, a joined station RECEIVING, the acknowledge driven only for a format error by a
station that acknowledges, and reach no block. Bits from an edge on a line that is not idle start no frame: a dominant
one among them sets the quiet count and the wait for 11 recessive bits anew, and nothing else changes. A duplicate
number, found whole or in a frame of the own number that passed its check and shows an error after it: mode and line
OFFLINE with the strap-fault output, the amplifiers off and every drive demand of a live channel 0, the queue empty,
no change in progress, every slot empty, no acknowledge; controlling station, permit time, failure and mute counts and
the zone view stay; with a restart pending the full reset begins. Without one, a probe change in progress ends FAILED
with its phase and DRIVES OFF, both its records UNKNOWN, the lids and the lock left and a deferred expiry taken (an
outcome taken before stands, log entry 18), and with none, and no head but one of the room, the probe unit is kept.
Bits of a frame with no error, an OFFLINE station, or an attempt in flight: nothing but time. From when the line is
idle, that the line can carry stray bits, and the duplicate after its check are the model's readings of log entries
23, 49 and 50. (spec/08_the_gauge_line.md, The frame on the line; spec/08_the_gauge_line.md, Receiving and
timestamping; spec/08_the_gauge_line.md, OFFLINE; spec/07_probes_and_the_rack.md, Interruptions and the commit
stretch.) -/
def Obligations.ReceiveErrorsAndDuplicatesAreFound : Prop :=
  (∀ (bits : List Bool) (sof t : Tick) (s : State), s.inReset = false → s.line.state ≠ .offline →
    s.line.attempt = none →
    let a := advance t s
    let quiet := (bits.reverse.takeWhile fun b => b).length
    let starts := ∀ d, s.line.idleAt = some d → d ≤ a.uptime - (t - sof).toNat
    let followed : State := { a with line := { a.line with
      quiet := quiet, state := if joined s then .receiving else s.line.state
      idleAt := some (a.uptime + bitTicks s * (11 - quiet) - (if s.line.fast = true then 3 else 6)) } }
    (∀ e, starts → receiveBits bits = .error e → e ≠ .cutShort → checkedSender bits ≠ some s.line.number →
      exec (.frameReceiveError bits sof t) s = .next (finish { followed with line := { followed.line with
        lastSof := sof, acked := (joined s || s.line.state == .listenAnnouncing) && e == .format } })) ∧
    (¬ starts → false ∈ bits → exec (.frameReceiveError bits sof t) s = .next (finish followed)) ∧
    (¬ starts → false ∉ bits → exec (.frameReceiveError bits sof t) s = .next (finish a))) ∧
  (∀ (bits : List Bool) (sof t : Tick) (s : State), s.inReset = false →
    (s.line.state = .offline ∨ s.line.attempt ≠ none ∨
      ((∀ d, s.line.idleAt = some d → d ≤ (advance t s).uptime - (t - sof).toNat) ∧
        (receiveBits bits = .error .cutShort ∨ ∃ f, receiveBits bits = .ok f))) →
    exec (.frameReceiveError bits sof t) s = .next (finish (advance t s))) ∧
  (∀ (cmd : Instr) (sof t : Tick) (s : State), s.inReset = false → s.line.state ≠ .offline → s.line.attempt = none →
    (cmd = .duplicateNumber sof t ∨ ∃ bits e, cmd = .frameReceiveError bits sof t ∧
      (∀ d, s.line.idleAt = some d → d ≤ (advance t s).uptime - (t - sof).toNat) ∧
      receiveBits bits = .error e ∧ e ≠ .cutShort ∧ checkedSender bits = some s.line.number) →
    ∃ v, exec cmd s = .next v ∧ v.station.mode = .offline ∧ v.line.state = .offline ∧
      ampOn v = false ∧ (∀ i, s.live i = true → (v.axis i).driveOut = 0) ∧ v.motion.queue = [] ∧
      v.probes.change.active = false ∧ v.gate = .disabled ∧ (∀ id, occupied v id = false) ∧ v.line.lastSof = sof ∧
      v.line.acked = false ∧ v.inReset = s.station.restartPending ∧
      v.line.strapFault = !s.station.restartPending ∧ v.station.controller = s.station.controller ∧
      v.station.permitTime = s.station.permitTime ∧ v.line.failures = s.line.failures ∧
      v.line.mutes = s.line.mutes ∧ v.zones.view = s.zones.view ∧
      (s.station.restartPending = false → s.probes.change.active = true → PowerLost .drivesOff (returnNotice s) v) ∧
      (s.station.restartPending = false → s.probes.change.active = false →
        (∀ seg rest, s.motion.queue = seg :: rest → seg.issuer = .room) → v.probes = s.probes)) ∧
  ∀ (sof t : Tick) (s : State), s.inReset = false → (s.line.state = .offline ∨ s.line.attempt ≠ none) →
    exec (.duplicateNumber sof t) s = .next (finish (advance t s))

/-- O51. For every class below 8, sender and kind below 32 and payload of at most 28 bytes: the bits of the stuffed frame,
whatever the acknowledge slot reads, with a recessive delimiter and end field, are received as that class, sender,
kind and payload. No 8 consecutive bits of a stuffed sequence are equal, and a stuffed frame has at most one stuff bit
in each 6. A length of 29, 30 or 31 is a length error, and a wrong check a check error, at the field's last bit,
whatever follows, a stuff bit due there included (log entry 50); a right check makes its sender known; a dominant bit
among the seven after the acknowledge slot is a format error; seven equal bits from the start are a stuff error. The
check register over the digits 1 to 9 ends at 29B1 hexadecimal. (spec/08_the_gauge_line.md, The frame on the line;
spec/09_frames_and_transmit_slots.md, The frame.) -/
def Obligations.ReceiverTakesExactlyWhatIsSent : Prop :=
  (∀ (cls sender kind : Nat) (payload : List Byte) (ack : Bool), cls < 8 → sender < 32 → kind < 32 →
    payload.length ≤ 28 →
    let bits := stuff none (stuffable (frameBody cls sender kind payload))
    receiveBits (bits ++ ack :: List.replicate 7 true) =
        .ok { cls := cls, sender := sender, kind := kind, payload := payload } ∧
      transmit cls sender kind payload = bits ++ true :: List.replicate 7 true ∧
      35 + 8 * payload.length ≤ bits.length ∧
      bits.length ≤ 35 + 8 * payload.length + (35 + 8 * payload.length) / 6 ∧
      ∀ tail : List Bool, (∃ i, i < 7 ∧ tail[i]? = some false) →
        receiveBits (bits ++ ack :: tail) = .error .format) ∧
  (∀ bits pre mid post : List Bool, stuff none bits = pre ++ mid ++ post → mid.length = 8 → true ∈ mid ∧ false ∈ mid) ∧
  (∀ (cls sender kind len : Nat) (rest : List Bool), cls < 8 → sender < 32 → kind < 32 → 28 < len → len < 32 →
    receiveBits (stuff none (false :: bitsOf 3 cls ++ bitsOf 5 sender ++ bitsOf 5 kind ++ bitsOf 5 len) ++ rest) =
      .error .length) ∧
  (∀ (cls sender kind len : Nat) (rest : List Bool), cls < 8 → sender < 32 → kind < 32 → 28 < len → len < 32 →
    receiveBits (stuff none (false :: bitsOf 3 cls ++ bitsOf 5 sender ++ bitsOf 5 kind ++ bitsOf 4 (len / 2)) ++
      (len % 2 == 1) :: rest) = .error .length) ∧
  (∀ (cls sender kind : Nat) (payload : List Byte) (check : BitVec 16) (rest : List Bool), cls < 8 → sender < 32 →
    kind < 32 → payload.length ≤ 28 →
    let body := frameBody cls sender kind payload
    let sent := stuff none (false :: body ++ bitsOf 15 (check.toNat / 2)) ++ (check.toNat % 2 == 1) :: rest
    (check ≠ checkOf body → receiveBits sent = .error .check) ∧
    (checkedSender sent = if check = checkOf body then some sender else none)) ∧
  (∀ rest : List Bool, receiveBits (List.replicate 7 false ++ rest) = .error .stuff) ∧
  checkOf ((List.range 9).flatMap fun i => bitsOf 8 (49 + i)) = 0x29B1

/-- O52. A POINT, REPLY, STATUS or NOTICE that the station hears, of any length, changes nothing but the line. Following a
frame sets the last start of frame, the quiet count, the acknowledge (driven when joined or announcing) and the
interframe; a joined station is RECEIVING, and LISTEN integrating places its HELLO and enters announcing. Out of
reset, not OFFLINE, no attempt in flight and not its own number: a frame of kind 31, or of any kind with another class
than the kind's or of a sender 0 or 31, does that and reaches no block. A frame with its own number is a duplicate
number. OFFLINE, or with an attempt in flight, a frame changes nothing but time. The moment at which the line is idle
is the model's reckoning of log entry 23, and that LISTEN announces before the frame is interpreted is 47.
(spec/08_the_gauge_line.md, Receiving and timestamping; spec/08_the_gauge_line.md, MUTE and LISTEN;
spec/09_frames_and_transmit_slots.md, Taking a frame.) -/
def Obligations.FramesAreFollowedAndIgnoredByRule : Prop :=
  (∀ (kind : Nat) (cmd : RxFrame → Instr) (f : RxFrame) (s : State), Hears kind f s →
    (kind, cmd) ∈ [(8, Instr.pointReceived), (27, Instr.replyReceived), (29, Instr.statusReceived),
      (30, Instr.noticeReceived)] →
    exec (cmd f) s = .next (settled (heard f s))) ∧
  (∀ (f : RxFrame) (s : State),
    let a := advance f.tick s
    heard f s = { a with
      slots := if s.line.state = .listenIntegrating then { s.slots with hello := true } else s.slots
      line := { a.line with
        lastSof := f.sof, quiet := f.quiet, acked := joined s || s.line.state == .listenAnnouncing
        state := if joined s = true then .receiving
          else if s.line.state = .listenIntegrating then .listenAnnouncing else s.line.state
        idleAt := some (a.uptime + bitTicks s * 4 - (if s.line.fast = true then 3 else 6)) } }) ∧
  (∀ (f : RxFrame) (s : State), s.inReset = false → s.line.state ≠ .offline → s.line.attempt = none →
    f.sender.toNat ≠ s.line.number →
    exec (.unusedKindFrame f) s = .next (finish (heard f s)) ∧
    ∀ (kind : Nat) (body : State → State),
      (classOf kind ≠ some f.cls.toNat ∨ f.sender = 0 ∨ f.sender = 31) →
      receive kind f body s = finish (heard f s)) ∧
  ∀ (f : RxFrame) (s : State) (kind : Nat) (body : State → State), s.inReset = false →
    (s.line.state ≠ .offline → s.line.attempt = none → f.sender.toNat = s.line.number →
      receive kind f body s = finish (duplicateFound f.sof (advance f.tick s))) ∧
    ((s.line.state = .offline ∨ s.line.attempt ≠ none) → receive kind f body s = finish (advance f.tick s))

/-- O53. ARM outside RUN with length 3 and every live channel set up: DONE, mode RUN, the sender the controlling station,
the permit VALID with its timer at the time given brought into 50 to 1,000 ms, and demands at the positions where the
amplifiers are on; otherwise BAD VALUE. DISARM in RUN from the controlling station: length 1, else BAD VALUE; no
change, an empty queue and motion IDLE or HELD, else BUSY; then DONE, mode SETUP, no controlling station, permit NONE,
amplifiers off with drive demands 0 and every demand kept, a QUEUED claim withdrawn, and on a joined line every FIRM
zone of the station free in its view and in one RELEASE. RESTART from a station that may command: BUSY during a change
or with a head MOVING or STOPPING, then BAD VALUE for another length than 1 (log entry 20 orders the two), else DONE
with the restart pending, and in MUTE the full reset begins at once. (spec/10_station_life_setup_and_status.md, ARM;
spec/10_station_life_setup_and_status.md, DISARM; spec/10_station_life_setup_and_status.md, Full reset and RESTART;
spec/01_axis_channels.md, State of the channels after reset and in OFFLINE.) -/
def Obligations.ArmDisarmAndRestartChangeTheStation : Prop :=
  (∀ (f : RxFrame) (s : State), Commands 15 f s → s.station.mode ≠ .run →
    let h := heard f s
    let ok := f.payload.length = 3 ∧ ∀ i, s.live i = true → (s.axis i).record.setUp = true
    let ms := max 50 (min 1000 (u16At f.payload 1))
    let u : State := { h with
      station := { s.station with mode := .run, controller := f.sender.toNat, permitTime := ms }
      motion := { s.motion with permit := .valid, permitTimer := some (h.uptime + ms * 10000) } }
    (ok → exec (.arm f) s = .next (answered 15 f .done 0 (u.mapAxes fun i a =>
      if s.live i = true ∧ ampOn u = true then { a with demand := a.position } else a))) ∧
    (¬ ok → exec (.arm f) s = .next (answered 15 f .badValue 0 h))) ∧
  (∀ (f : RxFrame) (s : State), Commands 16 f s → s.station.mode = .run → f.sender.toNat = s.station.controller →
    let h := heard f s
    let free := s.probes.change.active = false ∧ s.motion.queue = [] ∧ (motionState s = .idle ∨ motionState s = .held)
    (f.payload.length ≠ 1 → exec (.disarm f) s = .next (answered 16 f .badValue 0 h)) ∧
    (f.payload.length = 1 → ¬ free → exec (.disarm f) s = .next (answered 16 f .busy 0 h)) ∧
    (f.payload.length = 1 → free → ∃ v, exec (.disarm f) s = .next (answered 16 f .done 0 v) ∧
      v.station = { s.station with mode := .setup, controller := 0 } ∧ ampOn v = false ∧
      v.motion = { s.motion with permit := .none, permitTimer := none } ∧
      (∀ i, v.axis i = if s.live i = true then
          { s.axis i with driveOut := 0, followErr := 0 } else s.axis i) ∧
      v.zones.claim = (match s.zones.claim with
        | .queued _ _ => .none
        | c => c) ∧
      (joined s = true →
        (∀ z, v.zones.view.get z = if ZoneSet.has (firmZones s) z = true then none else s.zones.view.get z) ∧
        (firmZones s ≠ 0 → v.slots.release.frame = some (match s.slots.release.frame with
          | some x => x ||| firmZones s
          | none => firmZones s))) ∧
      (joined s = false → v.zones.view = s.zones.view) ∧ v.zones.boundaries = s.zones.boundaries ∧
      v.thermal = s.thermal ∧ v.capture = s.capture ∧ v.probes = s.probes ∧ v.notices = s.notices ∧
      v.faultPending = s.faultPending ∧ v.gate = s.gate)) ∧
  ∀ (f : RxFrame) (s : State), Commands 17 f s → (s.station.mode = .run → f.sender.toNat = s.station.controller) →
    let h := heard f s
    let busy := s.probes.change.active = true ∨
      ∃ seg rest, s.motion.queue = seg :: rest ∧ (seg.state = .moving ∨ seg.state = .stopping)
    (busy → exec (.restart f) s = .next (answered 17 f .busy 0 h)) ∧
    (¬ busy → f.payload.length ≠ 1 → exec (.restart f) s = .next (answered 17 f .badValue 0 h)) ∧
    (¬ busy → f.payload.length = 1 → s.line.state ≠ .mute →
      exec (.restart f) s = .next (answered 17 f .done 0 { h with
        station := { s.station with restartPending := true } })) ∧
    (¬ busy → f.payload.length = 1 → s.line.state = .mute →
      ∃ v, exec (.restart f) s = .next v ∧ v.inReset = true ∧ v.station.restartPending = true)

/-- O54. Each reaching its answer outside RUN. With its length and every field in its range the reply is DONE and the
fields are written whole; otherwise BAD VALUE and nothing is written. SETUP STATION applies the mask and the shift,
clamped to 6: a channel newly enabled is SETTLING, a disabled one UNUSED, one still enabled keeps its record. SETUP
AXIS clamps the reference speed to the max speed, takes a REACH AXIS to search −, refuses a role that another channel
holds, and keeps the referenced flag only for a record already set up with the same kind. SETUP THERMAL forgets the
peer record when the peer changes, to 20,000 ABSENT with its timer stopped by the model's choice of log entry 40.
SETUP RACK marks its port configured. (spec/10_station_life_setup_and_status.md, Setup frames;
spec/01_axis_channels.md, The axis record; spec/02_temperature_channels_and_figures.md, The workpiece figure;
spec/02_temperature_channels_and_figures.md, Enabling a channel and setting the shift; spec/07_probes_and_the_rack.md,
Ports.) -/
def Obligations.SetupFramesWriteWholeOrNothing : Prop :=
  (∀ (f : RxFrame) (s : State), Commands 19 f s → s.station.mode ≠ .run →
    let p := f.payload
    let h := heard f s
    let mask := BitVec.ofNat 16 (u16At p 16)
    let ok := p.length = 19 ∧ 1 ≤ u16At p 1 ∧ u16At p 1 ≤ 200 ∧ 1 ≤ u16At p 3 ∧ u16At p 3 ≤ 200 ∧ u16At p 5 ≤ 20000 ∧
      0 ≤ s32At p 7 ∧ s32At p 7 ≤ 100000000 ∧ (byteAt p 15 < 16 ∨ byteAt p 15 = 255)
    (ok → exec (.setupStation f) s = .next (answered 19 f .done 0 { h with
      station := { s.station with
        accel := u16At p 1, stopDecel := u16At p 3, probeCap := u16At p 5, halfWidth := s32At p 7
        freeReach := s32At p 11, rackZone := finOf 16 (byteAt p 15) }
      thermal := { s.thermal with
        mask := mask, shift := min (byteAt p 18) 6
        channels := tab16 fun c =>
          if mask.getLsbD c.val = false then Channel.afterReset
          else if s.thermal.mask.getLsbD c.val = true then s.thermal.channels.get c
          else { Channel.afterReset with state := .settling }
        reading := s.thermal.reading && mask.getLsbD s.thermal.slot.val } })) ∧
    (¬ ok → exec (.setupStation f) s = .next (answered 19 f .badValue 0 h))) ∧
  (∀ (f : RxFrame) (s : State), Commands 20 f s → s.station.mode ≠ .run →
    let p := f.payload
    let h := heard f s
    ∀ (i : Fin 4) (kind : AxisKind) (role : Role), byteAt p 1 = i.val → s.live i = true → byteAt p 2 = kind.code →
      byteAt p 3 = role.code →
      let r : AxisRecord :=
        { setUp := true, kind := kind, role := role, softMin := s32At p 4, softMax := s32At p 8, maxSpeed := u16At p 12
          followLimit := u32At p 14, window := u16At p 18, refValue := s32At p 20
          searchNeg := role == .reachAxis || byteAt p 24 == 1, refSpeed := min (u16At p 25) (u16At p 12) }
      let ok := p.length = 27 ∧ byteAt p 24 ≤ 1 ∧ r.softMin < r.softMax ∧ 1 ≤ r.maxSpeed ∧ r.maxSpeed ≤ 20000 ∧
        1 ≤ r.followLimit ∧ r.followLimit ≤ 1000000 ∧ r.window ≤ 10000 ∧ 1 ≤ u16At p 25 ∧ u16At p 25 ≤ 20000 ∧
        r.softMin ≤ r.refValue ∧ r.refValue ≤ r.softMax ∧ (role ≠ .other → kind = .linear) ∧
        (role ≠ .other → ∀ j, j ≠ i → (s.axis j).record.role ≠ role)
      (ok → exec (.setupAxis f) s = .next (answered 20 f .done 0 (h.setAxis i { s.axis i with
        record := r
        referenced := (s.axis i).referenced && (s.axis i).record.setUp && (s.axis i).record.kind == kind }))) ∧
      (¬ ok → exec (.setupAxis f) s = .next (answered 20 f .badValue 0 h))) ∧
  (∀ (f : RxFrame) (s : State), Commands 20 f s → s.station.mode ≠ .run →
    (4 ≤ byteAt f.payload 1 ∨ s.axisCount ≤ byteAt f.payload 1 ∨ 2 ≤ byteAt f.payload 2 ∨ 3 ≤ byteAt f.payload 3) →
    exec (.setupAxis f) s = .next (answered 20 f .badValue 0 (heard f s))) ∧
  (∀ (f : RxFrame) (s : State), Commands 24 f s → s.station.mode ≠ .run →
    let p := f.payload
    let h := heard f s
    let entry := fun j : Nat => byteAt p (6 + j)
    let ok := p.length = 12 ∧ -5000 ≤ s32At p 1 ∧ s32At p 1 ≤ 40000 ∧ byteAt p 5 ≤ 1 ∧ byteAt p 11 ≤ 1 ∧
      (∀ j, j < 4 → entry j < 16 ∨ entry j = 255) ∧
      (∀ j k, j < k → k < 4 → entry j = entry k → entry j = 255) ∧
      (byteAt p 5 = 1 → 1 ≤ byteAt p 10 ∧ byteAt p 10 ≤ 30 ∧ byteAt p 10 ≠ s.line.number ∧ byteAt p 11 = 0)
    (ok → exec (.setupThermal f) s = .next (answered 24 f .done 0 { h with
      thermal := { s.thermal with
        alphaW := s32At p 1, source := if byteAt p 5 = 1 then .peer else .localChannels
        entries := #v[finOf 16 (entry 0), finOf 16 (entry 1), finOf 16 (entry 2), finOf 16 (entry 3)]
        peerStation := byteAt p 10, publish := byteAt p 11 == 1
        peer := if byteAt p 10 = s.thermal.peerStation then s.thermal.peer
          else { standing := .neverHeard, figure := 20000, quality := .absent, timer := none } } })) ∧
    (¬ ok → exec (.setupThermal f) s = .next (answered 24 f .badValue 0 h))) ∧
  (∀ (f : RxFrame) (s : State), Commands 25 f s → s.station.mode ≠ .run →
    let p := f.payload
    let h := heard f s
    let serve := BitVec.ofNat 32 (u32At p 2)
    let ok := p.length = 7 ∧ byteAt p 1 ≤ 30 ∧ byteAt p 1 ≠ s.line.number ∧ serve.getLsbD 0 = false ∧
      serve.getLsbD 31 = false ∧ (byteAt p 6 < 4 ∨ byteAt p 6 = 255)
    (ok → exec (.setupLinks f) s = .next (answered 25 f .done 0 { h with
      station := { s.station with companion := byteAt p 1, serveSet := serve, serveAxis := finOf 4 (byteAt p 6) } })) ∧
    (¬ ok → exec (.setupLinks f) s = .next (answered 25 f .badValue 0 h))) ∧
  ∀ (f : RxFrame) (s : State), Commands 26 f s → s.station.mode ≠ .run →
    let p := f.payload
    let h := heard f s
    let form := p.length = 19 ∧ s32At p 15 ≠ 0 ∧ -1000000 ≤ s32At p 15 ∧ s32At p 15 ≤ 1000000
    (∀ (k : Fin 8) (i : Fin 4), byteAt p 1 = k.val → byteAt p 14 = i.val → form →
      exec (.setupRack f) s = .next (answered 26 f .done 0 { h with
        probes := { s.probes with
          ports := s.probes.ports.set k.val { s.probes.ports.get k with
            configured := true, approach := #v[s32At p 2, s32At p 6, s32At p 10], insertAxis := i
            insertDepth := s32At p 15 } } })) ∧
    (¬ (byteAt p 1 < 8 ∧ byteAt p 14 < 4 ∧ form) →
      exec (.setupRack f) s = .next (answered 26 f .badValue 0 h))

/-- O55. Each of the seven QUERY commands, heard with a payload that names the station. Of three bytes with an index in
the range of its section: with the STATUS slot empty one STATUS to the sender, echoing section and index, is placed
and its content kept; with the slot held the overrun flag is set. Any other QUERY draws a REPLY BAD VALUE of kind 18,
or sets the overrun flag when both reply slots are held. The sections have the ranges of the table, AXIS a live
channel, and the content the lengths of the table. That only STATION 0 carries the flag on to its clearing is log
entry 21. STATION (of a mode SETUP or RUN), AXIS, ZONES, CHANNEL, PROBE, PORT and POINTS carry every field of their
tables at its place, numbers modulo their width: the line state is RECEIVING while joined, the permit time left is
rounded down and 0 unless VALID with its timer running, no rack zone and no serve axis are 255, the following error is
0 with the amplifiers off, zone 0 has boundary 0 not loaded, an absent home port, drop port or pick port is 255, the
last outcome 255 before any change has ended, and the expected companion 0 where not awaiting. The announced field of
a record no longer awaiting is the one it kept (log entry 44). (spec/10_station_life_setup_and_status.md, QUERY and
STATUS; spec/09_frames_and_transmit_slots.md, Commands and their answers.) -/
def Obligations.QueriesAreAnsweredByOneStatus : Prop :=
  let holds32 := fun (c : List Byte) (j : Nat) (x : Int) => BitVec.ofNat 32 (u32At c j) = BitVec.ofInt 32 x
  let place := fun p : Option (Fin 8) => (p.map fun k => k.val).getD 255
  let holder := fun (s : State) (z : Fin 16) => ((s.zones.view.get z).map fun h => h.holder).getD 0
  (∀ (cmd : RxFrame → Instr) (f : RxFrame) (s : State),
    cmd ∈ [Instr.queryStation, Instr.queryAxis, Instr.queryZones, Instr.queryChannel, Instr.queryProbe,
      Instr.queryPort, Instr.queryPoints] →
    Hears 18 f s → f.payload ≠ [] → (byteAt f.payload 0 = s.line.number ∨ byteAt f.payload 0 = 0) →
    let h := heard f s
    let sect := byteAt f.payload 1
    let index := byteAt f.payload 2
    let overrun : State := { h with overrun := true, overrunSince := true }
    let good := f.payload.length = 3 ∧ ∃ content, statusContent h sect index = some content
    (∀ content, f.payload.length = 3 → statusContent h sect index = some content → s.slots.status = none →
      exec (cmd f) s = .next (settled { h with
        slots := { h.slots with
          status := some { dest := f.sender.toNat, sect := sect, index := index, content := content } }
        overrunSince := if sect = 0 ∧ index = 0 then false else s.overrunSince })) ∧
    (good → s.slots.status ≠ none → exec (cmd f) s = .next (settled overrun)) ∧
    (¬ good → (s.slots.replies.get 0 = none ∨ s.slots.replies.get 1 = none) →
      exec (cmd f) s = .next (answered 18 f .badValue 0 h)) ∧
    (¬ good → s.slots.replies.get 0 ≠ none → s.slots.replies.get 1 ≠ none →
      exec (cmd f) s = .next (settled overrun))) ∧
  (∀ (s : State) (sect index : Nat),
    (statusContent s sect index).isSome = true ↔
      (sect = 0 ∧ index ≤ 1) ∨ (sect = 1 ∧ index < 4 ∧ index < s.axisCount) ∨ (sect = 2 ∧ index ≤ 16) ∨
      (sect = 3 ∧ index ≤ 16) ∨ (sect = 4 ∧ index ≤ 15) ∨ (sect = 5 ∧ index ≤ 8) ∨ (sect = 6 ∧ index ≤ 15)) ∧
  (∀ (s : State) (sect index : Nat) (c : List Byte), statusContent s sect index = some c →
    (sect = 0 → c.length = 24) ∧ (sect = 1 → c.length = 23) ∧
    (sect = 2 → c.length = if index = 16 then 22 else 9) ∧ (sect = 3 → c.length = if index = 16 then 18 else 13) ∧
    (sect = 4 → c.length = 24) ∧ (sect = 5 → c.length = if index = 8 then 13 else 21) ∧
    (sect = 6 → c.length = if index < s.capture.points.length then 11 else 3)) ∧
  (∀ (s : State) (c : List Byte), statusContent s 0 0 = some c → s.station.mode ≠ .offline →
    byteAt c 0 = (if s.station.mode = .run then 1 else 0) ∧ byteAt c 1 = s.station.controller % 256 ∧
    byteAt c 2 = [Motion.idle, .waiting, .moving, .held, .faulted, .disabled].idxOf (motionState s) ∧
    byteAt c 3 = [Permit.none, .valid, .lapsed].idxOf s.motion.permit ∧ u16At c 4 = s.station.permitTime % 65536 ∧
    u16At c 6 = (match s.motion.permit, s.motion.permitTimer with
      | .valid, some d => (d - s.uptime) / 10000
      | _, _ => 0) % 65536 ∧
    byteAt c 8 = (if joined s = true then 3 else s.line.state.code) ∧ byteAt c 9 = s.line.failures % 256 ∧
    byteAt c 10 = s.line.mutes % 256 ∧ u32At c 11 = s.line.lastSof.toNat ∧
    byteAt c 15 = (if s.overrun = true then 1 else 0) ∧ byteAt c 16 = s.faultPending.toNat ∧
    byteAt c 17 = s.pins.driveEnable.toNat ∧ byteAt c 18 = s.axisCount % 256 ∧ byteAt c 19 = s.motion.counter.toNat ∧
    byteAt c 20 = s.motion.queue.length % 256 ∧ byteAt c 21 = s.capture.points.length % 256 ∧
    u16At c 22 = s.capture.counter.toNat) ∧
  (∀ (s : State) (c : List Byte), statusContent s 0 1 = some c →
    u16At c 0 = s.station.accel % 65536 ∧ u16At c 2 = s.station.stopDecel % 65536 ∧
    u16At c 4 = s.station.probeCap % 65536 ∧ holds32 c 6 s.station.halfWidth ∧ holds32 c 10 s.station.freeReach ∧
    byteAt c 14 = (s.station.rackZone.map fun k => k.val).getD 255 ∧ u16At c 15 = s.thermal.mask.toNat ∧
    byteAt c 17 = s.thermal.shift % 256 ∧ byteAt c 18 = s.station.companion % 256 ∧
    u32At c 19 = s.station.serveSet.toNat ∧
    byteAt c 23 = (s.station.serveAxis.map fun k => k.val).getD 255) ∧
  (∀ (s : State) (i : Fin 4) (c : List Byte), statusContent s 1 i.val = some c →
    let a := s.axis i
    byteAt c 0 = a.record.setUp.toNat ∧ byteAt c 1 = [AxisKind.linear, .angular].idxOf a.record.kind ∧
    byteAt c 2 = [Role.other, .zoneAxis, .reachAxis].idxOf a.record.role ∧ byteAt c 3 = a.referenced.toNat ∧
    byteAt c 4 = [EndState.none, .atMin, .atMax, .atBoth].idxOf (endState s i) ∧
    holds32 c 5 a.position ∧ holds32 c 9 a.demand ∧ holds32 c 13 (if ampOn s = true then a.followErr else 0) ∧
    holds32 c 17 (scaleFigure s i).value ∧
    byteAt c 21 = [Quality.fresh, .stale, .absent].idxOf (scaleFigure s i).quality ∧
    byteAt c 22 = a.ring.length % 256) ∧
  (∀ (s : State) (z : Fin 16) (c : List Byte), statusContent s 2 z.val = some c →
    byteAt c 0 = holder s z % 256 ∧
    byteAt c 1 = (match s.zones.view.get z with
      | none => 0
      | some h => if h.standing = .tentative then 1 else 2) ∧
    u16At c 2 = (match s.zones.view.get z with
      | none => 0
      | some h => min 65535 ((s.uptime - h.since) / 10000)) ∧
    (∀ k : Fin 15, z.val = k.val + 1 → holds32 c 4 (s.zones.boundaries.get k) ∧
      byteAt c 8 = (s.zones.loaded.get k).toNat) ∧
    (z = 0 → u32At c 4 = 0 ∧ byteAt c 8 = 0)) ∧
  (∀ (s : State) (c : List Byte), statusContent s 2 16 = some c →
    (∀ z : Fin 16, byteAt c z.val = holder s z % 256 ∧ (BitVec.ofNat 16 (u16At c 16)).getLsbD z.val =
      (s.zones.view.get z).any fun h => h.standing == .firm) ∧
    (byteAt c 18, u16At c 19) = (match s.zones.claim with
      | .none => (0, 0)
      | .queued x _ => (1, x.toNat)
      | .window x _ => (2, x.toNat)) ∧
    byteAt c 21 = ([0, 1, 2] : List (Fin 3)).countP fun k => (s.slots.objects.get k).frame.isSome) ∧
  (∀ (s : State) (n : Fin 16) (c : List Byte), statusContent s 3 n.val = some c →
    let ch := s.thermal.channels.get n
    byteAt c 0 = (s.thermal.mask.getLsbD n.val).toNat ∧
    byteAt c 1 = [ChannelState.unused, .settling, .valid, .held, .faulted].idxOf ch.state ∧ holds32 c 2 ch.average ∧
    holds32 c 6 ch.last ∧ byteAt c 10 = ch.rejects % 256 ∧ byteAt c 11 = ch.heldAge % 256 ∧
    byteAt c 12 = ch.settle % 256) ∧
  (∀ (s : State) (c : List Byte), statusContent s 3 16 = some c →
    let t := s.thermal
    byteAt c 0 = [Source.localChannels, .peer].idxOf t.source ∧ holds32 c 1 (workFigure s).value ∧
    byteAt c 5 = [Quality.fresh, .stale, .absent].idxOf (workFigure s).quality ∧ holds32 c 6 t.alphaW ∧
    byteAt c 10 = t.peerStation % 256 ∧ byteAt c 11 = [PeerStanding.neverHeard, .heard, .gone].idxOf t.peer.standing ∧
    holds32 c 12 t.peer.figure ∧ byteAt c 16 = [Quality.fresh, .stale, .absent].idxOf t.peer.quality ∧
    byteAt c 17 = t.publish.toNat) ∧
  (∀ (s : State) (k : Fin 16) (c : List Byte), statusContent s 4 k.val = some c →
    let r := s.probes.table.get k
    byteAt c 0 = r.id % 256 ∧ byteAt c 1 = place r.home ∧
    byteAt c 2 = [Location.onHead, .inPort, .absent, .unknown].idxOf r.location ∧ holds32 c 3 (r.tip.get 0) ∧
    holds32 c 7 (r.tip.get 1) ∧ holds32 c 11 (r.tip.get 2) ∧ u32At c 15 = r.allowance % 4294967296 ∧
    byteAt c 19 = r.qualified.toNat ∧ u32At c 20 = r.touches % 4294967296) ∧
  (∀ (s : State) (p : Fin 8) (c : List Byte), statusContent s 5 p.val = some c →
    let r := s.probes.ports.get p
    byteAt c 0 = r.configured.toNat ∧ holds32 c 1 (r.approach.get 0) ∧ holds32 c 5 (r.approach.get 1) ∧
    holds32 c 9 (r.approach.get 2) ∧ byteAt c 13 = r.insertAxis.val ∧ holds32 c 14 r.insertDepth ∧
    byteAt c 18 = r.lidOpen.toNat ∧ byteAt c 19 = [LidState.closed, .opening, .opened, .closing].idxOf (lidState s p) ∧
    byteAt c 20 = (present s p).toNat) ∧
  (∀ (s : State) (c : List Byte), statusContent s 5 8 = some c →
    let x := s.probes.change
    byteAt c 0 = s.probes.unlockOut.toNat ∧ byteAt c 1 = [LockState.locked, .unlocked, .moving].idxOf (lockState s) ∧
    byteAt c 2 = s.probes.identity % 256 ∧ byteAt c 3 = x.active.toNat ∧ byteAt c 4 = x.target % 256 ∧
    byteAt c 5 = x.oldId % 256 ∧ byteAt c 6 = place x.drop ∧ byteAt c 7 = place x.pick ∧
    byteAt c 8 = (match x.phase with
      | none => 0
      | some ph => [Phase.travelDrop, .openDrop, .insert, .unlock, .detach, .closeDrop, .travelPick, .openPick,
        .engage, .lock, .identify, .withdraw, .closePick].idxOf ph + 1) ∧
    byteAt c 9 = x.deferred.code ∧ (x.last = none → byteAt c 10 = 255) ∧
    ∀ r, x.last = some r → byteAt c 10 = [ChangeOutcome.done, .failed, .aborted].idxOf r.outcome ∧
      byteAt c 11 = r.phase % 256 ∧ byteAt c 12 = r.cause.code) ∧
  ∀ (s : State) (i : Fin 16) (c : List Byte), statusContent s 6 i.val = some c →
    byteAt c 0 = s.capture.points.length % 256 ∧ u16At c 1 = s.capture.counter.toNat ∧
    ∀ r, s.capture.points[i.val]? = some r →
      u16At c 3 = r.number.toNat ∧ byteAt c 5 = r.segment.toNat ∧ byteAt c 6 = r.probe % 256 ∧
      byteAt c 7 = r.flags.code ∧ byteAt c 8 = [PointState.awaiting, .ready, .offered].idxOf r.state ∧
      byteAt c 9 = (if r.state = .awaiting then r.expected else 0) % 256 ∧ byteAt c 10 = r.announced.toNat

/-- O56. Commands that reach their answer. Outside RUN: MOVE, REFERENCE, PROBE CHANGE, DATUM and DISARM draw WRONG STATE.
In RUN from another station than the controlling one: these and CLEAR, PROBE SET and RESTART draw NOT CONTROLLER. In
RUN: ARM and the eight setup frames draw WRONG STATE from any station. Each changes no state but for its reply. Any of
these commands that names the station while both reply slots are held sets the overrun flag and nothing else; with no
payload, or for another station, it changes nothing but the line. (spec/10_station_life_setup_and_status.md, Which
station may command; spec/09_frames_and_transmit_slots.md, Taking a frame; spec/09_frames_and_transmit_slots.md,
Commands and their answers.) -/
def Obligations.AccessChecksRefuseByModeAndSender : Prop :=
  let motion : List (Nat × (RxFrame → Instr)) :=
    [(9, .movePosition), (9, .moveProbe), (10, .reference), (12, .probeChange), (14, .datum), (16, .disarm)]
  let either : List (Nat × (RxFrame → Instr)) := [(11, .clear), (13, .probeSet), (17, .restart)]
  let setup : List (Nat × (RxFrame → Instr)) :=
    [(15, .arm), (19, .setupStation), (20, .setupAxis), (21, .setupScale), (22, .setupMap), (23, .setupZones),
      (24, .setupThermal), (25, .setupLinks), (26, .setupRack)]
  ∀ (k : Nat) (cmd : RxFrame → Instr) (f : RxFrame) (s : State),
    (Commands k f s → (k, cmd) ∈ motion → s.station.mode ≠ .run →
      exec (cmd f) s = .next (answered k f .wrongState 0 (heard f s))) ∧
    (Commands k f s → (k, cmd) ∈ motion ++ either → s.station.mode = .run → f.sender.toNat ≠ s.station.controller →
      exec (cmd f) s = .next (answered k f .notController 0 (heard f s))) ∧
    (Commands k f s → (k, cmd) ∈ setup → s.station.mode = .run →
      exec (cmd f) s = .next (answered k f .wrongState 0 (heard f s))) ∧
    (Hears k f s → (k, cmd) ∈ motion ++ either ++ setup →
      (f.payload ≠ [] → (byteAt f.payload 0 = s.line.number ∨ byteAt f.payload 0 = 0) →
        s.slots.replies.get 0 ≠ none → s.slots.replies.get 1 ≠ none →
        exec (cmd f) s = .next (settled { heard f s with overrun := true, overrunSince := true })) ∧
      ((f.payload = [] ∨ (byteAt f.payload 0 ≠ s.line.number ∧ byteAt f.payload 0 ≠ 0)) →
        exec (cmd f) s = .next (settled (heard f s))))

/-- O57. From every state, not only a reachable one, a step keeps: at most 8 segments in the queue, one during a probe
change and none while a phase works without one; every segment behind the head QUEUED; at most 16 points, and at most
15 while a PROBE segment is MOVING; at most 64 entries in every ring; at most 2 pending requests; a failure count of
at most 16 and a mute count of at most 255. (spec/04_segments_and_motion.md, The segment record and the queue;
spec/06_touches_points_and_companions.md, The point buffer; spec/06_touches_points_and_companions.md, Answering as
companion; spec/01_axis_channels.md, The servo sample and the history ring; spec/08_the_gauge_line.md, Failed attempts
and acknowledge.) -/
def Obligations.EveryStepKeepsTheBuffersBounded : Prop :=
  (∀ s t : State, QueueBounded s → step s = .next t → QueueBounded t) ∧
  (∀ s t : State, PointsBounded s → step s = .next t → PointsBounded t) ∧
  ∀ s t : State, RingsBounded s → step s = .next t → RingsBounded t

/-- O58. From every state a step keeps: with the amplifier enables off every drive demand is 0, and an inert channel's
always; out of reset motion is not normal with drive-enable low, and while DISABLED or FAULTED no segment is queued
and no change is in progress; outside RUN the same; every segment behind the head is QUEUED, the head is formed, and a
MOVING head has every zone of its needed set recorded FIRM to the station in its own view. (spec/01_axis_channels.md,
Demand and drive; spec/01_axis_channels.md, The drive-enable input; spec/04_segments_and_motion.md, The head segment;
spec/04_segments_and_motion.md, Motion state; spec/05_zones_on_the_bed.md, Needed sets.) -/
def Obligations.EveryStepKeepsTheDrivesAndZonesSafe : Prop :=
  (∀ s t : State, DrivesSafe s → step s = .next t → DrivesSafe t) ∧
  (∀ s t : State, StoppedMotionEmpty s → step s = .next t → StoppedMotionEmpty t) ∧
  (∀ s t : State, QueueShaped s → step s = .next t → QueueShaped t) ∧
  ∀ s t : State, ZonesSafe s → step s = .next t → ZonesSafe t

/-- O59. From every state a step keeps: no two probe records share a non-zero id, no two non-empty records a home port, at
most one record is ON HEAD; during a change no record is ON HEAD from the end of the drop to the identification, and
in a drop the record ON HEAD is the old probe's; and the loaded boundaries rise strictly.
(spec/07_probes_and_the_rack.md, The probe table; spec/07_probes_and_the_rack.md, The drop;
spec/07_probes_and_the_rack.md, The pick; spec/05_zones_on_the_bed.md, Geometry.) -/
def Obligations.EveryStepKeepsTheProbeTableAndBoundaries : Prop :=
  (∀ s t : State, TableSafe s → step s = .next t → TableSafe t) ∧
  ∀ s t : State, BoundariesRise s → step s = .next t → BoundariesRise t

/-- O60. The bounds of the buffers, the safety of drives and zones, the shape of the queue, the probe table's and the
boundaries' promises hold in State.reset and in the state that the end of a full reset leaves, whatever the state
before and the straps. (spec/10_station_life_setup_and_status.md, Full reset and RESTART.) -/
def Obligations.InvariantsHoldAfterEveryReset : Prop :=
  let all := fun s : State => QueueBounded s ∧ PointsBounded s ∧ RingsBounded s ∧ DrivesSafe s ∧ StoppedMotionEmpty s ∧
    QueueShaped s ∧ ZonesSafe s ∧ TableSafe s ∧ BoundariesRise s
  all State.reset ∧ ∀ (x : Straps) (s : State), all (afterReset x s)
end

