-- ==== Sys2Proof/Laws/State.lean ====
section
/-! SUPPORT. One lemma per field per update of the state, true by computation, so that no later proof unfolds a record
update: a field that an operation does not write is the one before. -/

namespace Sys2Proof.Machine

@[simp] theorem State.mapAxes_uptime (f : Fin 4 → Axis → Axis) (s : State) : (s.mapAxes f).uptime = s.uptime := rfl
@[simp] theorem State.mapAxes_freeIx (f : Fin 4 → Axis → Axis) (s : State) : (s.mapAxes f).freeIx = s.freeIx := rfl
@[simp] theorem State.mapAxes_inReset (f : Fin 4 → Axis → Axis) (s : State) : (s.mapAxes f).inReset = s.inReset := rfl
@[simp] theorem State.mapAxes_pins (f : Fin 4 → Axis → Axis) (s : State) : (s.mapAxes f).pins = s.pins := rfl
@[simp] theorem State.mapAxes_axisCount (f : Fin 4 → Axis → Axis) (s : State) :
    (s.mapAxes f).axisCount = s.axisCount := rfl
@[simp] theorem State.mapAxes_axes (f : Fin 4 → Axis → Axis) (s : State) :
    (s.mapAxes f).axes = tab4 fun i => f i (s.axes.get i) := rfl
@[simp] theorem State.mapAxes_latch (f : Fin 4 → Axis → Axis) (s : State) : (s.mapAxes f).latch = s.latch := rfl
@[simp] theorem State.mapAxes_faultPending (f : Fin 4 → Axis → Axis) (s : State) :
    (s.mapAxes f).faultPending = s.faultPending := rfl
@[simp] theorem State.mapAxes_gate (f : Fin 4 → Axis → Axis) (s : State) : (s.mapAxes f).gate = s.gate := rfl
@[simp] theorem State.mapAxes_thermal (f : Fin 4 → Axis → Axis) (s : State) : (s.mapAxes f).thermal = s.thermal := rfl
@[simp] theorem State.mapAxes_motion (f : Fin 4 → Axis → Axis) (s : State) : (s.mapAxes f).motion = s.motion := rfl
@[simp] theorem State.mapAxes_zones (f : Fin 4 → Axis → Axis) (s : State) : (s.mapAxes f).zones = s.zones := rfl
@[simp] theorem State.mapAxes_capture (f : Fin 4 → Axis → Axis) (s : State) : (s.mapAxes f).capture = s.capture := rfl
@[simp] theorem State.mapAxes_probes (f : Fin 4 → Axis → Axis) (s : State) : (s.mapAxes f).probes = s.probes := rfl
@[simp] theorem State.mapAxes_line (f : Fin 4 → Axis → Axis) (s : State) : (s.mapAxes f).line = s.line := rfl
@[simp] theorem State.mapAxes_slots (f : Fin 4 → Axis → Axis) (s : State) : (s.mapAxes f).slots = s.slots := rfl
@[simp] theorem State.mapAxes_notices (f : Fin 4 → Axis → Axis) (s : State) : (s.mapAxes f).notices = s.notices := rfl
@[simp] theorem State.mapAxes_overrun (f : Fin 4 → Axis → Axis) (s : State) : (s.mapAxes f).overrun = s.overrun := rfl
@[simp] theorem State.mapAxes_overrunSince (f : Fin 4 → Axis → Axis) (s : State) :
    (s.mapAxes f).overrunSince = s.overrunSince := rfl
@[simp] theorem State.mapAxes_station (f : Fin 4 → Axis → Axis) (s : State) : (s.mapAxes f).station = s.station := rfl
@[simp] theorem State.mapAxes_pending (f : Fin 4 → Axis → Axis) (s : State) : (s.mapAxes f).pending = s.pending := rfl

@[simp] theorem State.setAxis_uptime (i : Fin 4) (a : Axis) (s : State) : (s.setAxis i a).uptime = s.uptime := rfl
@[simp] theorem State.setAxis_freeIx (i : Fin 4) (a : Axis) (s : State) : (s.setAxis i a).freeIx = s.freeIx := rfl
@[simp] theorem State.setAxis_inReset (i : Fin 4) (a : Axis) (s : State) : (s.setAxis i a).inReset = s.inReset := rfl
@[simp] theorem State.setAxis_pins (i : Fin 4) (a : Axis) (s : State) : (s.setAxis i a).pins = s.pins := rfl
@[simp] theorem State.setAxis_axisCount (i : Fin 4) (a : Axis) (s : State) :
    (s.setAxis i a).axisCount = s.axisCount := rfl
@[simp] theorem State.setAxis_axes (i : Fin 4) (a : Axis) (s : State) :
    (s.setAxis i a).axes = s.axes.set i.val a := rfl
@[simp] theorem State.setAxis_latch (i : Fin 4) (a : Axis) (s : State) : (s.setAxis i a).latch = s.latch := rfl
@[simp] theorem State.setAxis_faultPending (i : Fin 4) (a : Axis) (s : State) :
    (s.setAxis i a).faultPending = s.faultPending := rfl
@[simp] theorem State.setAxis_gate (i : Fin 4) (a : Axis) (s : State) : (s.setAxis i a).gate = s.gate := rfl
@[simp] theorem State.setAxis_thermal (i : Fin 4) (a : Axis) (s : State) : (s.setAxis i a).thermal = s.thermal := rfl
@[simp] theorem State.setAxis_motion (i : Fin 4) (a : Axis) (s : State) : (s.setAxis i a).motion = s.motion := rfl
@[simp] theorem State.setAxis_zones (i : Fin 4) (a : Axis) (s : State) : (s.setAxis i a).zones = s.zones := rfl
@[simp] theorem State.setAxis_capture (i : Fin 4) (a : Axis) (s : State) : (s.setAxis i a).capture = s.capture := rfl
@[simp] theorem State.setAxis_probes (i : Fin 4) (a : Axis) (s : State) : (s.setAxis i a).probes = s.probes := rfl
@[simp] theorem State.setAxis_line (i : Fin 4) (a : Axis) (s : State) : (s.setAxis i a).line = s.line := rfl
@[simp] theorem State.setAxis_slots (i : Fin 4) (a : Axis) (s : State) : (s.setAxis i a).slots = s.slots := rfl
@[simp] theorem State.setAxis_notices (i : Fin 4) (a : Axis) (s : State) : (s.setAxis i a).notices = s.notices := rfl
@[simp] theorem State.setAxis_overrun (i : Fin 4) (a : Axis) (s : State) : (s.setAxis i a).overrun = s.overrun := rfl
@[simp] theorem State.setAxis_overrunSince (i : Fin 4) (a : Axis) (s : State) :
    (s.setAxis i a).overrunSince = s.overrunSince := rfl
@[simp] theorem State.setAxis_station (i : Fin 4) (a : Axis) (s : State) : (s.setAxis i a).station = s.station := rfl
@[simp] theorem State.setAxis_pending (i : Fin 4) (a : Axis) (s : State) : (s.setAxis i a).pending = s.pending := rfl

@[simp] theorem latchNotice_uptime (n : Notice) (s : State) : (latchNotice n s).uptime = s.uptime := rfl
@[simp] theorem latchNotice_freeIx (n : Notice) (s : State) : (latchNotice n s).freeIx = s.freeIx := rfl
@[simp] theorem latchNotice_inReset (n : Notice) (s : State) : (latchNotice n s).inReset = s.inReset := rfl
@[simp] theorem latchNotice_pins (n : Notice) (s : State) : (latchNotice n s).pins = s.pins := rfl
@[simp] theorem latchNotice_axisCount (n : Notice) (s : State) : (latchNotice n s).axisCount = s.axisCount := rfl
@[simp] theorem latchNotice_axes (n : Notice) (s : State) : (latchNotice n s).axes = s.axes := rfl
@[simp] theorem latchNotice_latch (n : Notice) (s : State) : (latchNotice n s).latch = s.latch := rfl
@[simp] theorem latchNotice_faultPending (n : Notice) (s : State) :
    (latchNotice n s).faultPending = s.faultPending := rfl
@[simp] theorem latchNotice_gate (n : Notice) (s : State) : (latchNotice n s).gate = s.gate := rfl
@[simp] theorem latchNotice_thermal (n : Notice) (s : State) : (latchNotice n s).thermal = s.thermal := rfl
@[simp] theorem latchNotice_motion (n : Notice) (s : State) : (latchNotice n s).motion = s.motion := rfl
@[simp] theorem latchNotice_zones (n : Notice) (s : State) : (latchNotice n s).zones = s.zones := rfl
@[simp] theorem latchNotice_capture (n : Notice) (s : State) : (latchNotice n s).capture = s.capture := rfl
@[simp] theorem latchNotice_probes (n : Notice) (s : State) : (latchNotice n s).probes = s.probes := rfl
@[simp] theorem latchNotice_line (n : Notice) (s : State) : (latchNotice n s).line = s.line := rfl
@[simp] theorem latchNotice_slots (n : Notice) (s : State) : (latchNotice n s).slots = s.slots := rfl
@[simp] theorem latchNotice_notices (n : Notice) (s : State) :
    (latchNotice n s).notices = s.notices.set n.latchIx.val ((s.notices.get n.latchIx).event n) := rfl
@[simp] theorem latchNotice_overrun (n : Notice) (s : State) : (latchNotice n s).overrun = s.overrun := rfl
@[simp] theorem latchNotice_overrunSince (n : Notice) (s : State) :
    (latchNotice n s).overrunSince = s.overrunSince := rfl
@[simp] theorem latchNotice_station (n : Notice) (s : State) : (latchNotice n s).station = s.station := rfl
@[simp] theorem latchNotice_pending (n : Notice) (s : State) : (latchNotice n s).pending = s.pending := rfl

@[simp] theorem setOverrun_uptime (s : State) : (setOverrun s).uptime = s.uptime := rfl
@[simp] theorem setOverrun_freeIx (s : State) : (setOverrun s).freeIx = s.freeIx := rfl
@[simp] theorem setOverrun_inReset (s : State) : (setOverrun s).inReset = s.inReset := rfl
@[simp] theorem setOverrun_pins (s : State) : (setOverrun s).pins = s.pins := rfl
@[simp] theorem setOverrun_axisCount (s : State) : (setOverrun s).axisCount = s.axisCount := rfl
@[simp] theorem setOverrun_axes (s : State) : (setOverrun s).axes = s.axes := rfl
@[simp] theorem setOverrun_latch (s : State) : (setOverrun s).latch = s.latch := rfl
@[simp] theorem setOverrun_faultPending (s : State) : (setOverrun s).faultPending = s.faultPending := rfl
@[simp] theorem setOverrun_gate (s : State) : (setOverrun s).gate = s.gate := rfl
@[simp] theorem setOverrun_thermal (s : State) : (setOverrun s).thermal = s.thermal := rfl
@[simp] theorem setOverrun_motion (s : State) : (setOverrun s).motion = s.motion := rfl
@[simp] theorem setOverrun_zones (s : State) : (setOverrun s).zones = s.zones := rfl
@[simp] theorem setOverrun_capture (s : State) : (setOverrun s).capture = s.capture := rfl
@[simp] theorem setOverrun_probes (s : State) : (setOverrun s).probes = s.probes := rfl
@[simp] theorem setOverrun_line (s : State) : (setOverrun s).line = s.line := rfl
@[simp] theorem setOverrun_slots (s : State) : (setOverrun s).slots = s.slots := rfl
@[simp] theorem setOverrun_notices (s : State) : (setOverrun s).notices = s.notices := rfl
@[simp] theorem setOverrun_overrun (s : State) : (setOverrun s).overrun = true := rfl
@[simp] theorem setOverrun_overrunSince (s : State) : (setOverrun s).overrunSince = true := rfl
@[simp] theorem setOverrun_station (s : State) : (setOverrun s).station = s.station := rfl
@[simp] theorem setOverrun_pending (s : State) : (setOverrun s).pending = s.pending := rfl

@[simp] theorem setQueue_uptime (q : List Segment) (s : State) : (setQueue q s).uptime = s.uptime := rfl
@[simp] theorem setQueue_freeIx (q : List Segment) (s : State) : (setQueue q s).freeIx = s.freeIx := rfl
@[simp] theorem setQueue_inReset (q : List Segment) (s : State) : (setQueue q s).inReset = s.inReset := rfl
@[simp] theorem setQueue_pins (q : List Segment) (s : State) : (setQueue q s).pins = s.pins := rfl
@[simp] theorem setQueue_axisCount (q : List Segment) (s : State) : (setQueue q s).axisCount = s.axisCount := rfl
@[simp] theorem setQueue_axes (q : List Segment) (s : State) : (setQueue q s).axes = s.axes := rfl
@[simp] theorem setQueue_latch (q : List Segment) (s : State) : (setQueue q s).latch = s.latch := rfl
@[simp] theorem setQueue_faultPending (q : List Segment) (s : State) :
    (setQueue q s).faultPending = s.faultPending := rfl
@[simp] theorem setQueue_gate (q : List Segment) (s : State) : (setQueue q s).gate = s.gate := rfl
@[simp] theorem setQueue_thermal (q : List Segment) (s : State) : (setQueue q s).thermal = s.thermal := rfl
@[simp] theorem setQueue_motion (q : List Segment) (s : State) :
    (setQueue q s).motion = { s.motion with queue := q } := rfl
@[simp] theorem setQueue_zones (q : List Segment) (s : State) : (setQueue q s).zones = s.zones := rfl
@[simp] theorem setQueue_capture (q : List Segment) (s : State) : (setQueue q s).capture = s.capture := rfl
@[simp] theorem setQueue_probes (q : List Segment) (s : State) : (setQueue q s).probes = s.probes := rfl
@[simp] theorem setQueue_line (q : List Segment) (s : State) : (setQueue q s).line = s.line := rfl
@[simp] theorem setQueue_slots (q : List Segment) (s : State) : (setQueue q s).slots = s.slots := rfl
@[simp] theorem setQueue_notices (q : List Segment) (s : State) : (setQueue q s).notices = s.notices := rfl
@[simp] theorem setQueue_overrun (q : List Segment) (s : State) : (setQueue q s).overrun = s.overrun := rfl
@[simp] theorem setQueue_overrunSince (q : List Segment) (s : State) :
    (setQueue q s).overrunSince = s.overrunSince := rfl
@[simp] theorem setQueue_station (q : List Segment) (s : State) : (setQueue q s).station = s.station := rfl
@[simp] theorem setQueue_pending (q : List Segment) (s : State) : (setQueue q s).pending = s.pending := rfl

@[simp] theorem setClaim_uptime (c : Claim) (s : State) : (setClaim c s).uptime = s.uptime := rfl
@[simp] theorem setClaim_freeIx (c : Claim) (s : State) : (setClaim c s).freeIx = s.freeIx := rfl
@[simp] theorem setClaim_inReset (c : Claim) (s : State) : (setClaim c s).inReset = s.inReset := rfl
@[simp] theorem setClaim_pins (c : Claim) (s : State) : (setClaim c s).pins = s.pins := rfl
@[simp] theorem setClaim_axisCount (c : Claim) (s : State) : (setClaim c s).axisCount = s.axisCount := rfl
@[simp] theorem setClaim_axes (c : Claim) (s : State) : (setClaim c s).axes = s.axes := rfl
@[simp] theorem setClaim_latch (c : Claim) (s : State) : (setClaim c s).latch = s.latch := rfl
@[simp] theorem setClaim_faultPending (c : Claim) (s : State) : (setClaim c s).faultPending = s.faultPending := rfl
@[simp] theorem setClaim_gate (c : Claim) (s : State) : (setClaim c s).gate = s.gate := rfl
@[simp] theorem setClaim_thermal (c : Claim) (s : State) : (setClaim c s).thermal = s.thermal := rfl
@[simp] theorem setClaim_motion (c : Claim) (s : State) : (setClaim c s).motion = s.motion := rfl
@[simp] theorem setClaim_zones (c : Claim) (s : State) : (setClaim c s).zones = { s.zones with claim := c } := rfl
@[simp] theorem setClaim_capture (c : Claim) (s : State) : (setClaim c s).capture = s.capture := rfl
@[simp] theorem setClaim_probes (c : Claim) (s : State) : (setClaim c s).probes = s.probes := rfl
@[simp] theorem setClaim_line (c : Claim) (s : State) : (setClaim c s).line = s.line := rfl
@[simp] theorem setClaim_slots (c : Claim) (s : State) : (setClaim c s).slots = s.slots := rfl
@[simp] theorem setClaim_notices (c : Claim) (s : State) : (setClaim c s).notices = s.notices := rfl
@[simp] theorem setClaim_overrun (c : Claim) (s : State) : (setClaim c s).overrun = s.overrun := rfl
@[simp] theorem setClaim_overrunSince (c : Claim) (s : State) : (setClaim c s).overrunSince = s.overrunSince := rfl
@[simp] theorem setClaim_station (c : Claim) (s : State) : (setClaim c s).station = s.station := rfl
@[simp] theorem setClaim_pending (c : Claim) (s : State) : (setClaim c s).pending = s.pending := rfl

@[simp] theorem mapView_uptime (f : Fin 16 → Option Hold → Option Hold) (s : State) :
    (mapView f s).uptime = s.uptime := rfl
@[simp] theorem mapView_freeIx (f : Fin 16 → Option Hold → Option Hold) (s : State) :
    (mapView f s).freeIx = s.freeIx := rfl
@[simp] theorem mapView_inReset (f : Fin 16 → Option Hold → Option Hold) (s : State) :
    (mapView f s).inReset = s.inReset := rfl
@[simp] theorem mapView_pins (f : Fin 16 → Option Hold → Option Hold) (s : State) : (mapView f s).pins = s.pins := rfl
@[simp] theorem mapView_axisCount (f : Fin 16 → Option Hold → Option Hold) (s : State) :
    (mapView f s).axisCount = s.axisCount := rfl
@[simp] theorem mapView_axes (f : Fin 16 → Option Hold → Option Hold) (s : State) : (mapView f s).axes = s.axes := rfl
@[simp] theorem mapView_latch (f : Fin 16 → Option Hold → Option Hold) (s : State) :
    (mapView f s).latch = s.latch := rfl
@[simp] theorem mapView_faultPending (f : Fin 16 → Option Hold → Option Hold) (s : State) :
    (mapView f s).faultPending = s.faultPending := rfl
@[simp] theorem mapView_gate (f : Fin 16 → Option Hold → Option Hold) (s : State) : (mapView f s).gate = s.gate := rfl
@[simp] theorem mapView_thermal (f : Fin 16 → Option Hold → Option Hold) (s : State) :
    (mapView f s).thermal = s.thermal := rfl
@[simp] theorem mapView_motion (f : Fin 16 → Option Hold → Option Hold) (s : State) :
    (mapView f s).motion = s.motion := rfl
@[simp] theorem mapView_zones (f : Fin 16 → Option Hold → Option Hold) (s : State) :
    (mapView f s).zones = { s.zones with view := tab16 fun z => f z (s.zones.view.get z) } := rfl
@[simp] theorem mapView_capture (f : Fin 16 → Option Hold → Option Hold) (s : State) :
    (mapView f s).capture = s.capture := rfl
@[simp] theorem mapView_probes (f : Fin 16 → Option Hold → Option Hold) (s : State) :
    (mapView f s).probes = s.probes := rfl
@[simp] theorem mapView_line (f : Fin 16 → Option Hold → Option Hold) (s : State) : (mapView f s).line = s.line := rfl
@[simp] theorem mapView_slots (f : Fin 16 → Option Hold → Option Hold) (s : State) :
    (mapView f s).slots = s.slots := rfl
@[simp] theorem mapView_notices (f : Fin 16 → Option Hold → Option Hold) (s : State) :
    (mapView f s).notices = s.notices := rfl
@[simp] theorem mapView_overrun (f : Fin 16 → Option Hold → Option Hold) (s : State) :
    (mapView f s).overrun = s.overrun := rfl
@[simp] theorem mapView_overrunSince (f : Fin 16 → Option Hold → Option Hold) (s : State) :
    (mapView f s).overrunSince = s.overrunSince := rfl
@[simp] theorem mapView_station (f : Fin 16 → Option Hold → Option Hold) (s : State) :
    (mapView f s).station = s.station := rfl
@[simp] theorem mapView_pending (f : Fin 16 → Option Hold → Option Hold) (s : State) :
    (mapView f s).pending = s.pending := rfl

@[simp] theorem setChange_uptime (c : Change) (s : State) : (setChange c s).uptime = s.uptime := rfl
@[simp] theorem setChange_freeIx (c : Change) (s : State) : (setChange c s).freeIx = s.freeIx := rfl
@[simp] theorem setChange_inReset (c : Change) (s : State) : (setChange c s).inReset = s.inReset := rfl
@[simp] theorem setChange_pins (c : Change) (s : State) : (setChange c s).pins = s.pins := rfl
@[simp] theorem setChange_axisCount (c : Change) (s : State) : (setChange c s).axisCount = s.axisCount := rfl
@[simp] theorem setChange_axes (c : Change) (s : State) : (setChange c s).axes = s.axes := rfl
@[simp] theorem setChange_latch (c : Change) (s : State) : (setChange c s).latch = s.latch := rfl
@[simp] theorem setChange_faultPending (c : Change) (s : State) : (setChange c s).faultPending = s.faultPending := rfl
@[simp] theorem setChange_gate (c : Change) (s : State) : (setChange c s).gate = s.gate := rfl
@[simp] theorem setChange_thermal (c : Change) (s : State) : (setChange c s).thermal = s.thermal := rfl
@[simp] theorem setChange_motion (c : Change) (s : State) : (setChange c s).motion = s.motion := rfl
@[simp] theorem setChange_zones (c : Change) (s : State) : (setChange c s).zones = s.zones := rfl
@[simp] theorem setChange_capture (c : Change) (s : State) : (setChange c s).capture = s.capture := rfl
@[simp] theorem setChange_probes (c : Change) (s : State) :
    (setChange c s).probes = { s.probes with change := c } := rfl
@[simp] theorem setChange_line (c : Change) (s : State) : (setChange c s).line = s.line := rfl
@[simp] theorem setChange_slots (c : Change) (s : State) : (setChange c s).slots = s.slots := rfl
@[simp] theorem setChange_notices (c : Change) (s : State) : (setChange c s).notices = s.notices := rfl
@[simp] theorem setChange_overrun (c : Change) (s : State) : (setChange c s).overrun = s.overrun := rfl
@[simp] theorem setChange_overrunSince (c : Change) (s : State) : (setChange c s).overrunSince = s.overrunSince := rfl
@[simp] theorem setChange_station (c : Change) (s : State) : (setChange c s).station = s.station := rfl
@[simp] theorem setChange_pending (c : Change) (s : State) : (setChange c s).pending = s.pending := rfl

@[simp] theorem mapChange_uptime (f : Change → Change) (s : State) : (mapChange f s).uptime = s.uptime := rfl
@[simp] theorem mapChange_freeIx (f : Change → Change) (s : State) : (mapChange f s).freeIx = s.freeIx := rfl
@[simp] theorem mapChange_inReset (f : Change → Change) (s : State) : (mapChange f s).inReset = s.inReset := rfl
@[simp] theorem mapChange_pins (f : Change → Change) (s : State) : (mapChange f s).pins = s.pins := rfl
@[simp] theorem mapChange_axisCount (f : Change → Change) (s : State) : (mapChange f s).axisCount = s.axisCount := rfl
@[simp] theorem mapChange_axes (f : Change → Change) (s : State) : (mapChange f s).axes = s.axes := rfl
@[simp] theorem mapChange_latch (f : Change → Change) (s : State) : (mapChange f s).latch = s.latch := rfl
@[simp] theorem mapChange_faultPending (f : Change → Change) (s : State) :
    (mapChange f s).faultPending = s.faultPending := rfl
@[simp] theorem mapChange_gate (f : Change → Change) (s : State) : (mapChange f s).gate = s.gate := rfl
@[simp] theorem mapChange_thermal (f : Change → Change) (s : State) : (mapChange f s).thermal = s.thermal := rfl
@[simp] theorem mapChange_motion (f : Change → Change) (s : State) : (mapChange f s).motion = s.motion := rfl
@[simp] theorem mapChange_zones (f : Change → Change) (s : State) : (mapChange f s).zones = s.zones := rfl
@[simp] theorem mapChange_capture (f : Change → Change) (s : State) : (mapChange f s).capture = s.capture := rfl
@[simp] theorem mapChange_probes (f : Change → Change) (s : State) :
    (mapChange f s).probes = { s.probes with change := f s.probes.change } := rfl
@[simp] theorem mapChange_line (f : Change → Change) (s : State) : (mapChange f s).line = s.line := rfl
@[simp] theorem mapChange_slots (f : Change → Change) (s : State) : (mapChange f s).slots = s.slots := rfl
@[simp] theorem mapChange_notices (f : Change → Change) (s : State) : (mapChange f s).notices = s.notices := rfl
@[simp] theorem mapChange_overrun (f : Change → Change) (s : State) : (mapChange f s).overrun = s.overrun := rfl
@[simp] theorem mapChange_overrunSince (f : Change → Change) (s : State) :
    (mapChange f s).overrunSince = s.overrunSince := rfl
@[simp] theorem mapChange_station (f : Change → Change) (s : State) : (mapChange f s).station = s.station := rfl
@[simp] theorem mapChange_pending (f : Change → Change) (s : State) : (mapChange f s).pending = s.pending := rfl

@[simp] theorem mapProbes_uptime (f : ProbeRecord → ProbeRecord) (s : State) :
    (mapProbes f s).uptime = s.uptime := rfl
@[simp] theorem mapProbes_freeIx (f : ProbeRecord → ProbeRecord) (s : State) :
    (mapProbes f s).freeIx = s.freeIx := rfl
@[simp] theorem mapProbes_inReset (f : ProbeRecord → ProbeRecord) (s : State) :
    (mapProbes f s).inReset = s.inReset := rfl
@[simp] theorem mapProbes_pins (f : ProbeRecord → ProbeRecord) (s : State) : (mapProbes f s).pins = s.pins := rfl
@[simp] theorem mapProbes_axisCount (f : ProbeRecord → ProbeRecord) (s : State) :
    (mapProbes f s).axisCount = s.axisCount := rfl
@[simp] theorem mapProbes_axes (f : ProbeRecord → ProbeRecord) (s : State) : (mapProbes f s).axes = s.axes := rfl
@[simp] theorem mapProbes_latch (f : ProbeRecord → ProbeRecord) (s : State) : (mapProbes f s).latch = s.latch := rfl
@[simp] theorem mapProbes_faultPending (f : ProbeRecord → ProbeRecord) (s : State) :
    (mapProbes f s).faultPending = s.faultPending := rfl
@[simp] theorem mapProbes_gate (f : ProbeRecord → ProbeRecord) (s : State) : (mapProbes f s).gate = s.gate := rfl
@[simp] theorem mapProbes_thermal (f : ProbeRecord → ProbeRecord) (s : State) :
    (mapProbes f s).thermal = s.thermal := rfl
@[simp] theorem mapProbes_motion (f : ProbeRecord → ProbeRecord) (s : State) :
    (mapProbes f s).motion = s.motion := rfl
@[simp] theorem mapProbes_zones (f : ProbeRecord → ProbeRecord) (s : State) : (mapProbes f s).zones = s.zones := rfl
@[simp] theorem mapProbes_capture (f : ProbeRecord → ProbeRecord) (s : State) :
    (mapProbes f s).capture = s.capture := rfl
@[simp] theorem mapProbes_probes (f : ProbeRecord → ProbeRecord) (s : State) :
    (mapProbes f s).probes = { s.probes with table := tab16 fun i => f (s.probes.table.get i) } := rfl
@[simp] theorem mapProbes_line (f : ProbeRecord → ProbeRecord) (s : State) : (mapProbes f s).line = s.line := rfl
@[simp] theorem mapProbes_slots (f : ProbeRecord → ProbeRecord) (s : State) : (mapProbes f s).slots = s.slots := rfl
@[simp] theorem mapProbes_notices (f : ProbeRecord → ProbeRecord) (s : State) :
    (mapProbes f s).notices = s.notices := rfl
@[simp] theorem mapProbes_overrun (f : ProbeRecord → ProbeRecord) (s : State) :
    (mapProbes f s).overrun = s.overrun := rfl
@[simp] theorem mapProbes_overrunSince (f : ProbeRecord → ProbeRecord) (s : State) :
    (mapProbes f s).overrunSince = s.overrunSince := rfl
@[simp] theorem mapProbes_station (f : ProbeRecord → ProbeRecord) (s : State) :
    (mapProbes f s).station = s.station := rfl
@[simp] theorem mapProbes_pending (f : ProbeRecord → ProbeRecord) (s : State) :
    (mapProbes f s).pending = s.pending := rfl

@[simp] theorem setLid_uptime (p : Fin 8) (opened : Bool) (s : State) : (setLid p opened s).uptime = s.uptime := rfl
@[simp] theorem setLid_freeIx (p : Fin 8) (opened : Bool) (s : State) : (setLid p opened s).freeIx = s.freeIx := rfl
@[simp] theorem setLid_inReset (p : Fin 8) (opened : Bool) (s : State) :
    (setLid p opened s).inReset = s.inReset := rfl
@[simp] theorem setLid_pins (p : Fin 8) (opened : Bool) (s : State) : (setLid p opened s).pins = s.pins := rfl
@[simp] theorem setLid_axisCount (p : Fin 8) (opened : Bool) (s : State) :
    (setLid p opened s).axisCount = s.axisCount := rfl
@[simp] theorem setLid_axes (p : Fin 8) (opened : Bool) (s : State) : (setLid p opened s).axes = s.axes := rfl
@[simp] theorem setLid_latch (p : Fin 8) (opened : Bool) (s : State) : (setLid p opened s).latch = s.latch := rfl
@[simp] theorem setLid_faultPending (p : Fin 8) (opened : Bool) (s : State) :
    (setLid p opened s).faultPending = s.faultPending := rfl
@[simp] theorem setLid_gate (p : Fin 8) (opened : Bool) (s : State) : (setLid p opened s).gate = s.gate := rfl
@[simp] theorem setLid_thermal (p : Fin 8) (opened : Bool) (s : State) :
    (setLid p opened s).thermal = s.thermal := rfl
@[simp] theorem setLid_motion (p : Fin 8) (opened : Bool) (s : State) : (setLid p opened s).motion = s.motion := rfl
@[simp] theorem setLid_zones (p : Fin 8) (opened : Bool) (s : State) : (setLid p opened s).zones = s.zones := rfl
@[simp] theorem setLid_capture (p : Fin 8) (opened : Bool) (s : State) :
    (setLid p opened s).capture = s.capture := rfl
@[simp] theorem setLid_probes (p : Fin 8) (opened : Bool) (s : State) :
    (setLid p opened s).probes = { s.probes with
      ports := s.probes.ports.set p.val { s.probes.ports.get p with lidOpen := opened } } := rfl
@[simp] theorem setLid_line (p : Fin 8) (opened : Bool) (s : State) : (setLid p opened s).line = s.line := rfl
@[simp] theorem setLid_slots (p : Fin 8) (opened : Bool) (s : State) : (setLid p opened s).slots = s.slots := rfl
@[simp] theorem setLid_notices (p : Fin 8) (opened : Bool) (s : State) :
    (setLid p opened s).notices = s.notices := rfl
@[simp] theorem setLid_overrun (p : Fin 8) (opened : Bool) (s : State) :
    (setLid p opened s).overrun = s.overrun := rfl
@[simp] theorem setLid_overrunSince (p : Fin 8) (opened : Bool) (s : State) :
    (setLid p opened s).overrunSince = s.overrunSince := rfl
@[simp] theorem setLid_station (p : Fin 8) (opened : Bool) (s : State) :
    (setLid p opened s).station = s.station := rfl
@[simp] theorem setLid_pending (p : Fin 8) (opened : Bool) (s : State) :
    (setLid p opened s).pending = s.pending := rfl

@[simp] theorem closeLidsBut_uptime (keep : Fin 8 → Bool) (s : State) : (closeLidsBut keep s).uptime = s.uptime := rfl
@[simp] theorem closeLidsBut_freeIx (keep : Fin 8 → Bool) (s : State) : (closeLidsBut keep s).freeIx = s.freeIx := rfl
@[simp] theorem closeLidsBut_inReset (keep : Fin 8 → Bool) (s : State) :
    (closeLidsBut keep s).inReset = s.inReset := rfl
@[simp] theorem closeLidsBut_pins (keep : Fin 8 → Bool) (s : State) : (closeLidsBut keep s).pins = s.pins := rfl
@[simp] theorem closeLidsBut_axisCount (keep : Fin 8 → Bool) (s : State) :
    (closeLidsBut keep s).axisCount = s.axisCount := rfl
@[simp] theorem closeLidsBut_axes (keep : Fin 8 → Bool) (s : State) : (closeLidsBut keep s).axes = s.axes := rfl
@[simp] theorem closeLidsBut_latch (keep : Fin 8 → Bool) (s : State) : (closeLidsBut keep s).latch = s.latch := rfl
@[simp] theorem closeLidsBut_faultPending (keep : Fin 8 → Bool) (s : State) :
    (closeLidsBut keep s).faultPending = s.faultPending := rfl
@[simp] theorem closeLidsBut_gate (keep : Fin 8 → Bool) (s : State) : (closeLidsBut keep s).gate = s.gate := rfl
@[simp] theorem closeLidsBut_thermal (keep : Fin 8 → Bool) (s : State) :
    (closeLidsBut keep s).thermal = s.thermal := rfl
@[simp] theorem closeLidsBut_motion (keep : Fin 8 → Bool) (s : State) : (closeLidsBut keep s).motion = s.motion := rfl
@[simp] theorem closeLidsBut_zones (keep : Fin 8 → Bool) (s : State) : (closeLidsBut keep s).zones = s.zones := rfl
@[simp] theorem closeLidsBut_capture (keep : Fin 8 → Bool) (s : State) :
    (closeLidsBut keep s).capture = s.capture := rfl
@[simp] theorem closeLidsBut_probes (keep : Fin 8 → Bool) (s : State) :
    (closeLidsBut keep s).probes = { s.probes with
      ports := tab8 fun p =>
        if keep p then s.probes.ports.get p else { s.probes.ports.get p with lidOpen := false } } := rfl
@[simp] theorem closeLidsBut_line (keep : Fin 8 → Bool) (s : State) : (closeLidsBut keep s).line = s.line := rfl
@[simp] theorem closeLidsBut_slots (keep : Fin 8 → Bool) (s : State) : (closeLidsBut keep s).slots = s.slots := rfl
@[simp] theorem closeLidsBut_notices (keep : Fin 8 → Bool) (s : State) :
    (closeLidsBut keep s).notices = s.notices := rfl
@[simp] theorem closeLidsBut_overrun (keep : Fin 8 → Bool) (s : State) :
    (closeLidsBut keep s).overrun = s.overrun := rfl
@[simp] theorem closeLidsBut_overrunSince (keep : Fin 8 → Bool) (s : State) :
    (closeLidsBut keep s).overrunSince = s.overrunSince := rfl
@[simp] theorem closeLidsBut_station (keep : Fin 8 → Bool) (s : State) :
    (closeLidsBut keep s).station = s.station := rfl
@[simp] theorem closeLidsBut_pending (keep : Fin 8 → Bool) (s : State) :
    (closeLidsBut keep s).pending = s.pending := rfl

@[simp] theorem setLock_uptime (unlock : Bool) (s : State) : (setLock unlock s).uptime = s.uptime := rfl
@[simp] theorem setLock_freeIx (unlock : Bool) (s : State) : (setLock unlock s).freeIx = s.freeIx := rfl
@[simp] theorem setLock_inReset (unlock : Bool) (s : State) : (setLock unlock s).inReset = s.inReset := rfl
@[simp] theorem setLock_pins (unlock : Bool) (s : State) : (setLock unlock s).pins = s.pins := rfl
@[simp] theorem setLock_axisCount (unlock : Bool) (s : State) : (setLock unlock s).axisCount = s.axisCount := rfl
@[simp] theorem setLock_axes (unlock : Bool) (s : State) : (setLock unlock s).axes = s.axes := rfl
@[simp] theorem setLock_latch (unlock : Bool) (s : State) : (setLock unlock s).latch = s.latch := rfl
@[simp] theorem setLock_faultPending (unlock : Bool) (s : State) :
    (setLock unlock s).faultPending = s.faultPending := rfl
@[simp] theorem setLock_gate (unlock : Bool) (s : State) : (setLock unlock s).gate = s.gate := rfl
@[simp] theorem setLock_thermal (unlock : Bool) (s : State) : (setLock unlock s).thermal = s.thermal := rfl
@[simp] theorem setLock_motion (unlock : Bool) (s : State) : (setLock unlock s).motion = s.motion := rfl
@[simp] theorem setLock_zones (unlock : Bool) (s : State) : (setLock unlock s).zones = s.zones := rfl
@[simp] theorem setLock_capture (unlock : Bool) (s : State) : (setLock unlock s).capture = s.capture := rfl
@[simp] theorem setLock_probes (unlock : Bool) (s : State) :
    (setLock unlock s).probes = { s.probes with unlockOut := unlock } := rfl
@[simp] theorem setLock_line (unlock : Bool) (s : State) : (setLock unlock s).line = s.line := rfl
@[simp] theorem setLock_slots (unlock : Bool) (s : State) : (setLock unlock s).slots = s.slots := rfl
@[simp] theorem setLock_notices (unlock : Bool) (s : State) : (setLock unlock s).notices = s.notices := rfl
@[simp] theorem setLock_overrun (unlock : Bool) (s : State) : (setLock unlock s).overrun = s.overrun := rfl
@[simp] theorem setLock_overrunSince (unlock : Bool) (s : State) :
    (setLock unlock s).overrunSince = s.overrunSince := rfl
@[simp] theorem setLock_station (unlock : Bool) (s : State) : (setLock unlock s).station = s.station := rfl
@[simp] theorem setLock_pending (unlock : Bool) (s : State) : (setLock unlock s).pending = s.pending := rfl

@[simp] theorem enterPhase_uptime (ph : Phase) (timer : Option Nat) (s : State) :
    (enterPhase ph timer s).uptime = s.uptime := rfl
@[simp] theorem enterPhase_freeIx (ph : Phase) (timer : Option Nat) (s : State) :
    (enterPhase ph timer s).freeIx = s.freeIx := rfl
@[simp] theorem enterPhase_inReset (ph : Phase) (timer : Option Nat) (s : State) :
    (enterPhase ph timer s).inReset = s.inReset := rfl
@[simp] theorem enterPhase_pins (ph : Phase) (timer : Option Nat) (s : State) :
    (enterPhase ph timer s).pins = s.pins := rfl
@[simp] theorem enterPhase_axisCount (ph : Phase) (timer : Option Nat) (s : State) :
    (enterPhase ph timer s).axisCount = s.axisCount := rfl
@[simp] theorem enterPhase_axes (ph : Phase) (timer : Option Nat) (s : State) :
    (enterPhase ph timer s).axes = s.axes := rfl
@[simp] theorem enterPhase_latch (ph : Phase) (timer : Option Nat) (s : State) :
    (enterPhase ph timer s).latch = s.latch := rfl
@[simp] theorem enterPhase_faultPending (ph : Phase) (timer : Option Nat) (s : State) :
    (enterPhase ph timer s).faultPending = s.faultPending := rfl
@[simp] theorem enterPhase_gate (ph : Phase) (timer : Option Nat) (s : State) :
    (enterPhase ph timer s).gate = s.gate := rfl
@[simp] theorem enterPhase_thermal (ph : Phase) (timer : Option Nat) (s : State) :
    (enterPhase ph timer s).thermal = s.thermal := rfl
@[simp] theorem enterPhase_motion (ph : Phase) (timer : Option Nat) (s : State) :
    (enterPhase ph timer s).motion = s.motion := rfl
@[simp] theorem enterPhase_zones (ph : Phase) (timer : Option Nat) (s : State) :
    (enterPhase ph timer s).zones = s.zones := rfl
@[simp] theorem enterPhase_capture (ph : Phase) (timer : Option Nat) (s : State) :
    (enterPhase ph timer s).capture = s.capture := rfl
@[simp] theorem enterPhase_probes (ph : Phase) (timer : Option Nat) (s : State) :
    (enterPhase ph timer s).probes = { s.probes with
      change := { s.probes.change with
        phase := some ph, timer := timer.map (s.uptime + ·), segArrived := false, readBegun := false } } := rfl
@[simp] theorem enterPhase_line (ph : Phase) (timer : Option Nat) (s : State) :
    (enterPhase ph timer s).line = s.line := rfl
@[simp] theorem enterPhase_slots (ph : Phase) (timer : Option Nat) (s : State) :
    (enterPhase ph timer s).slots = s.slots := rfl
@[simp] theorem enterPhase_notices (ph : Phase) (timer : Option Nat) (s : State) :
    (enterPhase ph timer s).notices = s.notices := rfl
@[simp] theorem enterPhase_overrun (ph : Phase) (timer : Option Nat) (s : State) :
    (enterPhase ph timer s).overrun = s.overrun := rfl
@[simp] theorem enterPhase_overrunSince (ph : Phase) (timer : Option Nat) (s : State) :
    (enterPhase ph timer s).overrunSince = s.overrunSince := rfl
@[simp] theorem enterPhase_station (ph : Phase) (timer : Option Nat) (s : State) :
    (enterPhase ph timer s).station = s.station := rfl
@[simp] theorem enterPhase_pending (ph : Phase) (timer : Option Nat) (s : State) :
    (enterPhase ph timer s).pending = s.pending := rfl

@[simp] theorem takeResult_uptime (r : ChangeResult) (s : State) : (takeResult r s).uptime = s.uptime := rfl
@[simp] theorem takeResult_freeIx (r : ChangeResult) (s : State) : (takeResult r s).freeIx = s.freeIx := rfl
@[simp] theorem takeResult_inReset (r : ChangeResult) (s : State) : (takeResult r s).inReset = s.inReset := rfl
@[simp] theorem takeResult_pins (r : ChangeResult) (s : State) : (takeResult r s).pins = s.pins := rfl
@[simp] theorem takeResult_axisCount (r : ChangeResult) (s : State) : (takeResult r s).axisCount = s.axisCount := rfl
@[simp] theorem takeResult_axes (r : ChangeResult) (s : State) : (takeResult r s).axes = s.axes := rfl
@[simp] theorem takeResult_latch (r : ChangeResult) (s : State) : (takeResult r s).latch = s.latch := rfl
@[simp] theorem takeResult_faultPending (r : ChangeResult) (s : State) :
    (takeResult r s).faultPending = s.faultPending := rfl
@[simp] theorem takeResult_gate (r : ChangeResult) (s : State) : (takeResult r s).gate = s.gate := rfl
@[simp] theorem takeResult_thermal (r : ChangeResult) (s : State) : (takeResult r s).thermal = s.thermal := rfl
@[simp] theorem takeResult_motion (r : ChangeResult) (s : State) : (takeResult r s).motion = s.motion := rfl
@[simp] theorem takeResult_zones (r : ChangeResult) (s : State) : (takeResult r s).zones = s.zones := rfl
@[simp] theorem takeResult_capture (r : ChangeResult) (s : State) : (takeResult r s).capture = s.capture := rfl
@[simp] theorem takeResult_probes (r : ChangeResult) (s : State) :
    (takeResult r s).probes = { s.probes with
      change := { s.probes.change with result := some r, last := some r, timer := none, deferred := .none } } := rfl
@[simp] theorem takeResult_line (r : ChangeResult) (s : State) : (takeResult r s).line = s.line := rfl
@[simp] theorem takeResult_slots (r : ChangeResult) (s : State) : (takeResult r s).slots = s.slots := rfl
@[simp] theorem takeResult_notices (r : ChangeResult) (s : State) : (takeResult r s).notices = s.notices := rfl
@[simp] theorem takeResult_overrun (r : ChangeResult) (s : State) : (takeResult r s).overrun = s.overrun := rfl
@[simp] theorem takeResult_overrunSince (r : ChangeResult) (s : State) :
    (takeResult r s).overrunSince = s.overrunSince := rfl
@[simp] theorem takeResult_station (r : ChangeResult) (s : State) : (takeResult r s).station = s.station := rfl
@[simp] theorem takeResult_pending (r : ChangeResult) (s : State) : (takeResult r s).pending = s.pending := rfl

@[simp] theorem setProbe_uptime (k : Fin 16) (r : ProbeRecord) (s : State) : (setProbe k r s).uptime = s.uptime := rfl
@[simp] theorem setProbe_freeIx (k : Fin 16) (r : ProbeRecord) (s : State) : (setProbe k r s).freeIx = s.freeIx := rfl
@[simp] theorem setProbe_inReset (k : Fin 16) (r : ProbeRecord) (s : State) :
    (setProbe k r s).inReset = s.inReset := rfl
@[simp] theorem setProbe_pins (k : Fin 16) (r : ProbeRecord) (s : State) : (setProbe k r s).pins = s.pins := rfl
@[simp] theorem setProbe_axisCount (k : Fin 16) (r : ProbeRecord) (s : State) :
    (setProbe k r s).axisCount = s.axisCount := rfl
@[simp] theorem setProbe_axes (k : Fin 16) (r : ProbeRecord) (s : State) : (setProbe k r s).axes = s.axes := rfl
@[simp] theorem setProbe_latch (k : Fin 16) (r : ProbeRecord) (s : State) : (setProbe k r s).latch = s.latch := rfl
@[simp] theorem setProbe_faultPending (k : Fin 16) (r : ProbeRecord) (s : State) :
    (setProbe k r s).faultPending = s.faultPending := rfl
@[simp] theorem setProbe_gate (k : Fin 16) (r : ProbeRecord) (s : State) : (setProbe k r s).gate = s.gate := rfl
@[simp] theorem setProbe_thermal (k : Fin 16) (r : ProbeRecord) (s : State) :
    (setProbe k r s).thermal = s.thermal := rfl
@[simp] theorem setProbe_motion (k : Fin 16) (r : ProbeRecord) (s : State) : (setProbe k r s).motion = s.motion := rfl
@[simp] theorem setProbe_zones (k : Fin 16) (r : ProbeRecord) (s : State) : (setProbe k r s).zones = s.zones := rfl
@[simp] theorem setProbe_capture (k : Fin 16) (r : ProbeRecord) (s : State) :
    (setProbe k r s).capture = s.capture := rfl
@[simp] theorem setProbe_probes (k : Fin 16) (r : ProbeRecord) (s : State) :
    (setProbe k r s).probes = { s.probes with table := s.probes.table.set k.val r } := rfl
@[simp] theorem setProbe_line (k : Fin 16) (r : ProbeRecord) (s : State) : (setProbe k r s).line = s.line := rfl
@[simp] theorem setProbe_slots (k : Fin 16) (r : ProbeRecord) (s : State) : (setProbe k r s).slots = s.slots := rfl
@[simp] theorem setProbe_notices (k : Fin 16) (r : ProbeRecord) (s : State) :
    (setProbe k r s).notices = s.notices := rfl
@[simp] theorem setProbe_overrun (k : Fin 16) (r : ProbeRecord) (s : State) :
    (setProbe k r s).overrun = s.overrun := rfl
@[simp] theorem setProbe_overrunSince (k : Fin 16) (r : ProbeRecord) (s : State) :
    (setProbe k r s).overrunSince = s.overrunSince := rfl
@[simp] theorem setProbe_station (k : Fin 16) (r : ProbeRecord) (s : State) :
    (setProbe k r s).station = s.station := rfl
@[simp] theorem setProbe_pending (k : Fin 16) (r : ProbeRecord) (s : State) :
    (setProbe k r s).pending = s.pending := rfl

@[simp] theorem mapCapture_uptime (f : CaptureUnit → CaptureUnit) (s : State) :
    (mapCapture f s).uptime = s.uptime := rfl
@[simp] theorem mapCapture_freeIx (f : CaptureUnit → CaptureUnit) (s : State) :
    (mapCapture f s).freeIx = s.freeIx := rfl
@[simp] theorem mapCapture_inReset (f : CaptureUnit → CaptureUnit) (s : State) :
    (mapCapture f s).inReset = s.inReset := rfl
@[simp] theorem mapCapture_pins (f : CaptureUnit → CaptureUnit) (s : State) : (mapCapture f s).pins = s.pins := rfl
@[simp] theorem mapCapture_axisCount (f : CaptureUnit → CaptureUnit) (s : State) :
    (mapCapture f s).axisCount = s.axisCount := rfl
@[simp] theorem mapCapture_axes (f : CaptureUnit → CaptureUnit) (s : State) : (mapCapture f s).axes = s.axes := rfl
@[simp] theorem mapCapture_latch (f : CaptureUnit → CaptureUnit) (s : State) : (mapCapture f s).latch = s.latch := rfl
@[simp] theorem mapCapture_faultPending (f : CaptureUnit → CaptureUnit) (s : State) :
    (mapCapture f s).faultPending = s.faultPending := rfl
@[simp] theorem mapCapture_gate (f : CaptureUnit → CaptureUnit) (s : State) : (mapCapture f s).gate = s.gate := rfl
@[simp] theorem mapCapture_thermal (f : CaptureUnit → CaptureUnit) (s : State) :
    (mapCapture f s).thermal = s.thermal := rfl
@[simp] theorem mapCapture_motion (f : CaptureUnit → CaptureUnit) (s : State) :
    (mapCapture f s).motion = s.motion := rfl
@[simp] theorem mapCapture_zones (f : CaptureUnit → CaptureUnit) (s : State) : (mapCapture f s).zones = s.zones := rfl
@[simp] theorem mapCapture_capture (f : CaptureUnit → CaptureUnit) (s : State) :
    (mapCapture f s).capture = f s.capture := rfl
@[simp] theorem mapCapture_probes (f : CaptureUnit → CaptureUnit) (s : State) :
    (mapCapture f s).probes = s.probes := rfl
@[simp] theorem mapCapture_line (f : CaptureUnit → CaptureUnit) (s : State) : (mapCapture f s).line = s.line := rfl
@[simp] theorem mapCapture_slots (f : CaptureUnit → CaptureUnit) (s : State) : (mapCapture f s).slots = s.slots := rfl
@[simp] theorem mapCapture_notices (f : CaptureUnit → CaptureUnit) (s : State) :
    (mapCapture f s).notices = s.notices := rfl
@[simp] theorem mapCapture_overrun (f : CaptureUnit → CaptureUnit) (s : State) :
    (mapCapture f s).overrun = s.overrun := rfl
@[simp] theorem mapCapture_overrunSince (f : CaptureUnit → CaptureUnit) (s : State) :
    (mapCapture f s).overrunSince = s.overrunSince := rfl
@[simp] theorem mapCapture_station (f : CaptureUnit → CaptureUnit) (s : State) :
    (mapCapture f s).station = s.station := rfl
@[simp] theorem mapCapture_pending (f : CaptureUnit → CaptureUnit) (s : State) :
    (mapCapture f s).pending = s.pending := rfl

@[simp] theorem mapPoints_uptime (f : List PointRecord → List PointRecord) (s : State) :
    (mapPoints f s).uptime = s.uptime := rfl
@[simp] theorem mapPoints_freeIx (f : List PointRecord → List PointRecord) (s : State) :
    (mapPoints f s).freeIx = s.freeIx := rfl
@[simp] theorem mapPoints_inReset (f : List PointRecord → List PointRecord) (s : State) :
    (mapPoints f s).inReset = s.inReset := rfl
@[simp] theorem mapPoints_pins (f : List PointRecord → List PointRecord) (s : State) :
    (mapPoints f s).pins = s.pins := rfl
@[simp] theorem mapPoints_axisCount (f : List PointRecord → List PointRecord) (s : State) :
    (mapPoints f s).axisCount = s.axisCount := rfl
@[simp] theorem mapPoints_axes (f : List PointRecord → List PointRecord) (s : State) :
    (mapPoints f s).axes = s.axes := rfl
@[simp] theorem mapPoints_latch (f : List PointRecord → List PointRecord) (s : State) :
    (mapPoints f s).latch = s.latch := rfl
@[simp] theorem mapPoints_faultPending (f : List PointRecord → List PointRecord) (s : State) :
    (mapPoints f s).faultPending = s.faultPending := rfl
@[simp] theorem mapPoints_gate (f : List PointRecord → List PointRecord) (s : State) :
    (mapPoints f s).gate = s.gate := rfl
@[simp] theorem mapPoints_thermal (f : List PointRecord → List PointRecord) (s : State) :
    (mapPoints f s).thermal = s.thermal := rfl
@[simp] theorem mapPoints_motion (f : List PointRecord → List PointRecord) (s : State) :
    (mapPoints f s).motion = s.motion := rfl
@[simp] theorem mapPoints_zones (f : List PointRecord → List PointRecord) (s : State) :
    (mapPoints f s).zones = s.zones := rfl
@[simp] theorem mapPoints_capture (f : List PointRecord → List PointRecord) (s : State) :
    (mapPoints f s).capture = { s.capture with points := f s.capture.points } := rfl
@[simp] theorem mapPoints_probes (f : List PointRecord → List PointRecord) (s : State) :
    (mapPoints f s).probes = s.probes := rfl
@[simp] theorem mapPoints_line (f : List PointRecord → List PointRecord) (s : State) :
    (mapPoints f s).line = s.line := rfl
@[simp] theorem mapPoints_slots (f : List PointRecord → List PointRecord) (s : State) :
    (mapPoints f s).slots = s.slots := rfl
@[simp] theorem mapPoints_notices (f : List PointRecord → List PointRecord) (s : State) :
    (mapPoints f s).notices = s.notices := rfl
@[simp] theorem mapPoints_overrun (f : List PointRecord → List PointRecord) (s : State) :
    (mapPoints f s).overrun = s.overrun := rfl
@[simp] theorem mapPoints_overrunSince (f : List PointRecord → List PointRecord) (s : State) :
    (mapPoints f s).overrunSince = s.overrunSince := rfl
@[simp] theorem mapPoints_station (f : List PointRecord → List PointRecord) (s : State) :
    (mapPoints f s).station = s.station := rfl
@[simp] theorem mapPoints_pending (f : List PointRecord → List PointRecord) (s : State) :
    (mapPoints f s).pending = s.pending := rfl

@[simp] theorem loadLatch_uptime (s : State) : (loadLatch s).uptime = s.uptime := rfl
@[simp] theorem loadLatch_freeIx (s : State) : (loadLatch s).freeIx = s.freeIx := rfl
@[simp] theorem loadLatch_inReset (s : State) : (loadLatch s).inReset = s.inReset := rfl
@[simp] theorem loadLatch_pins (s : State) : (loadLatch s).pins = s.pins := rfl
@[simp] theorem loadLatch_axisCount (s : State) : (loadLatch s).axisCount = s.axisCount := rfl
@[simp] theorem loadLatch_axes (s : State) : (loadLatch s).axes = s.axes := rfl
@[simp] theorem loadLatch_latch (s : State) :
    (loadLatch s).latch = some { tick := s.tick, counts := tab4 fun i => if s.live i then (s.axis i).position else 0 } := rfl
@[simp] theorem loadLatch_faultPending (s : State) : (loadLatch s).faultPending = s.faultPending := rfl
@[simp] theorem loadLatch_gate (s : State) : (loadLatch s).gate = s.gate := rfl
@[simp] theorem loadLatch_thermal (s : State) : (loadLatch s).thermal = s.thermal := rfl
@[simp] theorem loadLatch_motion (s : State) : (loadLatch s).motion = s.motion := rfl
@[simp] theorem loadLatch_zones (s : State) : (loadLatch s).zones = s.zones := rfl
@[simp] theorem loadLatch_capture (s : State) : (loadLatch s).capture = s.capture := rfl
@[simp] theorem loadLatch_probes (s : State) : (loadLatch s).probes = s.probes := rfl
@[simp] theorem loadLatch_line (s : State) : (loadLatch s).line = s.line := rfl
@[simp] theorem loadLatch_slots (s : State) : (loadLatch s).slots = s.slots := rfl
@[simp] theorem loadLatch_notices (s : State) : (loadLatch s).notices = s.notices := rfl
@[simp] theorem loadLatch_overrun (s : State) : (loadLatch s).overrun = s.overrun := rfl
@[simp] theorem loadLatch_overrunSince (s : State) : (loadLatch s).overrunSince = s.overrunSince := rfl
@[simp] theorem loadLatch_station (s : State) : (loadLatch s).station = s.station := rfl
@[simp] theorem loadLatch_pending (s : State) : (loadLatch s).pending = s.pending := rfl

@[simp] theorem mapLine_uptime (f : Line → Line) (s : State) : (mapLine f s).uptime = s.uptime := rfl
@[simp] theorem mapLine_freeIx (f : Line → Line) (s : State) : (mapLine f s).freeIx = s.freeIx := rfl
@[simp] theorem mapLine_inReset (f : Line → Line) (s : State) : (mapLine f s).inReset = s.inReset := rfl
@[simp] theorem mapLine_pins (f : Line → Line) (s : State) : (mapLine f s).pins = s.pins := rfl
@[simp] theorem mapLine_axisCount (f : Line → Line) (s : State) : (mapLine f s).axisCount = s.axisCount := rfl
@[simp] theorem mapLine_axes (f : Line → Line) (s : State) : (mapLine f s).axes = s.axes := rfl
@[simp] theorem mapLine_latch (f : Line → Line) (s : State) : (mapLine f s).latch = s.latch := rfl
@[simp] theorem mapLine_faultPending (f : Line → Line) (s : State) :
    (mapLine f s).faultPending = s.faultPending := rfl
@[simp] theorem mapLine_gate (f : Line → Line) (s : State) : (mapLine f s).gate = s.gate := rfl
@[simp] theorem mapLine_thermal (f : Line → Line) (s : State) : (mapLine f s).thermal = s.thermal := rfl
@[simp] theorem mapLine_motion (f : Line → Line) (s : State) : (mapLine f s).motion = s.motion := rfl
@[simp] theorem mapLine_zones (f : Line → Line) (s : State) : (mapLine f s).zones = s.zones := rfl
@[simp] theorem mapLine_capture (f : Line → Line) (s : State) : (mapLine f s).capture = s.capture := rfl
@[simp] theorem mapLine_probes (f : Line → Line) (s : State) : (mapLine f s).probes = s.probes := rfl
@[simp] theorem mapLine_line (f : Line → Line) (s : State) : (mapLine f s).line = f s.line := rfl
@[simp] theorem mapLine_slots (f : Line → Line) (s : State) : (mapLine f s).slots = s.slots := rfl
@[simp] theorem mapLine_notices (f : Line → Line) (s : State) : (mapLine f s).notices = s.notices := rfl
@[simp] theorem mapLine_overrun (f : Line → Line) (s : State) : (mapLine f s).overrun = s.overrun := rfl
@[simp] theorem mapLine_overrunSince (f : Line → Line) (s : State) :
    (mapLine f s).overrunSince = s.overrunSince := rfl
@[simp] theorem mapLine_station (f : Line → Line) (s : State) : (mapLine f s).station = s.station := rfl
@[simp] theorem mapLine_pending (f : Line → Line) (s : State) : (mapLine f s).pending = s.pending := rfl

@[simp] theorem mapSlots_uptime (f : Slots → Slots) (s : State) : (mapSlots f s).uptime = s.uptime := rfl
@[simp] theorem mapSlots_freeIx (f : Slots → Slots) (s : State) : (mapSlots f s).freeIx = s.freeIx := rfl
@[simp] theorem mapSlots_inReset (f : Slots → Slots) (s : State) : (mapSlots f s).inReset = s.inReset := rfl
@[simp] theorem mapSlots_pins (f : Slots → Slots) (s : State) : (mapSlots f s).pins = s.pins := rfl
@[simp] theorem mapSlots_axisCount (f : Slots → Slots) (s : State) : (mapSlots f s).axisCount = s.axisCount := rfl
@[simp] theorem mapSlots_axes (f : Slots → Slots) (s : State) : (mapSlots f s).axes = s.axes := rfl
@[simp] theorem mapSlots_latch (f : Slots → Slots) (s : State) : (mapSlots f s).latch = s.latch := rfl
@[simp] theorem mapSlots_faultPending (f : Slots → Slots) (s : State) :
    (mapSlots f s).faultPending = s.faultPending := rfl
@[simp] theorem mapSlots_gate (f : Slots → Slots) (s : State) : (mapSlots f s).gate = s.gate := rfl
@[simp] theorem mapSlots_thermal (f : Slots → Slots) (s : State) : (mapSlots f s).thermal = s.thermal := rfl
@[simp] theorem mapSlots_motion (f : Slots → Slots) (s : State) : (mapSlots f s).motion = s.motion := rfl
@[simp] theorem mapSlots_zones (f : Slots → Slots) (s : State) : (mapSlots f s).zones = s.zones := rfl
@[simp] theorem mapSlots_capture (f : Slots → Slots) (s : State) : (mapSlots f s).capture = s.capture := rfl
@[simp] theorem mapSlots_probes (f : Slots → Slots) (s : State) : (mapSlots f s).probes = s.probes := rfl
@[simp] theorem mapSlots_line (f : Slots → Slots) (s : State) : (mapSlots f s).line = s.line := rfl
@[simp] theorem mapSlots_slots (f : Slots → Slots) (s : State) : (mapSlots f s).slots = f s.slots := rfl
@[simp] theorem mapSlots_notices (f : Slots → Slots) (s : State) : (mapSlots f s).notices = s.notices := rfl
@[simp] theorem mapSlots_overrun (f : Slots → Slots) (s : State) : (mapSlots f s).overrun = s.overrun := rfl
@[simp] theorem mapSlots_overrunSince (f : Slots → Slots) (s : State) :
    (mapSlots f s).overrunSince = s.overrunSince := rfl
@[simp] theorem mapSlots_station (f : Slots → Slots) (s : State) : (mapSlots f s).station = s.station := rfl
@[simp] theorem mapSlots_pending (f : Slots → Slots) (s : State) : (mapSlots f s).pending = s.pending := rfl

@[simp] theorem mapPeer_uptime (f : Peer → Peer) (s : State) : (mapPeer f s).uptime = s.uptime := rfl
@[simp] theorem mapPeer_freeIx (f : Peer → Peer) (s : State) : (mapPeer f s).freeIx = s.freeIx := rfl
@[simp] theorem mapPeer_inReset (f : Peer → Peer) (s : State) : (mapPeer f s).inReset = s.inReset := rfl
@[simp] theorem mapPeer_pins (f : Peer → Peer) (s : State) : (mapPeer f s).pins = s.pins := rfl
@[simp] theorem mapPeer_axisCount (f : Peer → Peer) (s : State) : (mapPeer f s).axisCount = s.axisCount := rfl
@[simp] theorem mapPeer_axes (f : Peer → Peer) (s : State) : (mapPeer f s).axes = s.axes := rfl
@[simp] theorem mapPeer_latch (f : Peer → Peer) (s : State) : (mapPeer f s).latch = s.latch := rfl
@[simp] theorem mapPeer_faultPending (f : Peer → Peer) (s : State) :
    (mapPeer f s).faultPending = s.faultPending := rfl
@[simp] theorem mapPeer_gate (f : Peer → Peer) (s : State) : (mapPeer f s).gate = s.gate := rfl
@[simp] theorem mapPeer_thermal (f : Peer → Peer) (s : State) :
    (mapPeer f s).thermal = { s.thermal with peer := f s.thermal.peer } := rfl
@[simp] theorem mapPeer_motion (f : Peer → Peer) (s : State) : (mapPeer f s).motion = s.motion := rfl
@[simp] theorem mapPeer_zones (f : Peer → Peer) (s : State) : (mapPeer f s).zones = s.zones := rfl
@[simp] theorem mapPeer_capture (f : Peer → Peer) (s : State) : (mapPeer f s).capture = s.capture := rfl
@[simp] theorem mapPeer_probes (f : Peer → Peer) (s : State) : (mapPeer f s).probes = s.probes := rfl
@[simp] theorem mapPeer_line (f : Peer → Peer) (s : State) : (mapPeer f s).line = s.line := rfl
@[simp] theorem mapPeer_slots (f : Peer → Peer) (s : State) : (mapPeer f s).slots = s.slots := rfl
@[simp] theorem mapPeer_notices (f : Peer → Peer) (s : State) : (mapPeer f s).notices = s.notices := rfl
@[simp] theorem mapPeer_overrun (f : Peer → Peer) (s : State) : (mapPeer f s).overrun = s.overrun := rfl
@[simp] theorem mapPeer_overrunSince (f : Peer → Peer) (s : State) :
    (mapPeer f s).overrunSince = s.overrunSince := rfl
@[simp] theorem mapPeer_station (f : Peer → Peer) (s : State) : (mapPeer f s).station = s.station := rfl
@[simp] theorem mapPeer_pending (f : Peer → Peer) (s : State) : (mapPeer f s).pending = s.pending := rfl

@[simp] theorem mapUnit_uptime (f : ProbeUnit → ProbeUnit) (s : State) : (mapUnit f s).uptime = s.uptime := rfl
@[simp] theorem mapUnit_freeIx (f : ProbeUnit → ProbeUnit) (s : State) : (mapUnit f s).freeIx = s.freeIx := rfl
@[simp] theorem mapUnit_inReset (f : ProbeUnit → ProbeUnit) (s : State) : (mapUnit f s).inReset = s.inReset := rfl
@[simp] theorem mapUnit_pins (f : ProbeUnit → ProbeUnit) (s : State) : (mapUnit f s).pins = s.pins := rfl
@[simp] theorem mapUnit_axisCount (f : ProbeUnit → ProbeUnit) (s : State) :
    (mapUnit f s).axisCount = s.axisCount := rfl
@[simp] theorem mapUnit_axes (f : ProbeUnit → ProbeUnit) (s : State) : (mapUnit f s).axes = s.axes := rfl
@[simp] theorem mapUnit_latch (f : ProbeUnit → ProbeUnit) (s : State) : (mapUnit f s).latch = s.latch := rfl
@[simp] theorem mapUnit_faultPending (f : ProbeUnit → ProbeUnit) (s : State) :
    (mapUnit f s).faultPending = s.faultPending := rfl
@[simp] theorem mapUnit_gate (f : ProbeUnit → ProbeUnit) (s : State) : (mapUnit f s).gate = s.gate := rfl
@[simp] theorem mapUnit_thermal (f : ProbeUnit → ProbeUnit) (s : State) : (mapUnit f s).thermal = s.thermal := rfl
@[simp] theorem mapUnit_motion (f : ProbeUnit → ProbeUnit) (s : State) : (mapUnit f s).motion = s.motion := rfl
@[simp] theorem mapUnit_zones (f : ProbeUnit → ProbeUnit) (s : State) : (mapUnit f s).zones = s.zones := rfl
@[simp] theorem mapUnit_capture (f : ProbeUnit → ProbeUnit) (s : State) : (mapUnit f s).capture = s.capture := rfl
@[simp] theorem mapUnit_probes (f : ProbeUnit → ProbeUnit) (s : State) : (mapUnit f s).probes = f s.probes := rfl
@[simp] theorem mapUnit_line (f : ProbeUnit → ProbeUnit) (s : State) : (mapUnit f s).line = s.line := rfl
@[simp] theorem mapUnit_slots (f : ProbeUnit → ProbeUnit) (s : State) : (mapUnit f s).slots = s.slots := rfl
@[simp] theorem mapUnit_notices (f : ProbeUnit → ProbeUnit) (s : State) : (mapUnit f s).notices = s.notices := rfl
@[simp] theorem mapUnit_overrun (f : ProbeUnit → ProbeUnit) (s : State) : (mapUnit f s).overrun = s.overrun := rfl
@[simp] theorem mapUnit_overrunSince (f : ProbeUnit → ProbeUnit) (s : State) :
    (mapUnit f s).overrunSince = s.overrunSince := rfl
@[simp] theorem mapUnit_station (f : ProbeUnit → ProbeUnit) (s : State) : (mapUnit f s).station = s.station := rfl
@[simp] theorem mapUnit_pending (f : ProbeUnit → ProbeUnit) (s : State) : (mapUnit f s).pending = s.pending := rfl

@[simp] theorem advance_uptime (t : Tick) (s : State) : (advance t s).uptime = s.uptime + (t - s.tick).toNat := rfl
@[simp] theorem advance_freeIx (t : Tick) (s : State) : (advance t s).freeIx = s.freeIx + 1 := rfl
@[simp] theorem advance_inReset (t : Tick) (s : State) : (advance t s).inReset = s.inReset := rfl
@[simp] theorem advance_pins (t : Tick) (s : State) : (advance t s).pins = s.pins := rfl
@[simp] theorem advance_axisCount (t : Tick) (s : State) : (advance t s).axisCount = s.axisCount := rfl
@[simp] theorem advance_axes (t : Tick) (s : State) : (advance t s).axes = s.axes := rfl
@[simp] theorem advance_latch (t : Tick) (s : State) : (advance t s).latch = s.latch := rfl
@[simp] theorem advance_faultPending (t : Tick) (s : State) : (advance t s).faultPending = s.faultPending := rfl
@[simp] theorem advance_gate (t : Tick) (s : State) : (advance t s).gate = s.gate := rfl
@[simp] theorem advance_thermal (t : Tick) (s : State) : (advance t s).thermal = s.thermal := rfl
@[simp] theorem advance_motion (t : Tick) (s : State) : (advance t s).motion = s.motion := rfl
@[simp] theorem advance_zones (t : Tick) (s : State) : (advance t s).zones = s.zones := rfl
@[simp] theorem advance_capture (t : Tick) (s : State) : (advance t s).capture = s.capture := rfl
@[simp] theorem advance_probes (t : Tick) (s : State) : (advance t s).probes = s.probes := rfl
@[simp] theorem advance_line (t : Tick) (s : State) :
    (advance t s).line = s.line.progress (s.uptime + (t - s.tick).toNat) := rfl
@[simp] theorem advance_slots (t : Tick) (s : State) : (advance t s).slots = s.slots := rfl
@[simp] theorem advance_notices (t : Tick) (s : State) : (advance t s).notices = s.notices := rfl
@[simp] theorem advance_overrun (t : Tick) (s : State) : (advance t s).overrun = s.overrun := rfl
@[simp] theorem advance_overrunSince (t : Tick) (s : State) : (advance t s).overrunSince = s.overrunSince := rfl
@[simp] theorem advance_station (t : Tick) (s : State) : (advance t s).station = s.station := rfl
@[simp] theorem advance_pending (t : Tick) (s : State) : (advance t s).pending = s.pending := rfl

@[simp] theorem placeReply_uptime (r : ReplyFrame) (s : State) : (placeReply r s).uptime = s.uptime := by
  unfold placeReply; split <;> rfl
@[simp] theorem placeReply_freeIx (r : ReplyFrame) (s : State) : (placeReply r s).freeIx = s.freeIx := by
  unfold placeReply; split <;> rfl
@[simp] theorem placeReply_inReset (r : ReplyFrame) (s : State) : (placeReply r s).inReset = s.inReset := by
  unfold placeReply; split <;> rfl
@[simp] theorem placeReply_pins (r : ReplyFrame) (s : State) : (placeReply r s).pins = s.pins := by
  unfold placeReply; split <;> rfl
@[simp] theorem placeReply_axisCount (r : ReplyFrame) (s : State) : (placeReply r s).axisCount = s.axisCount := by
  unfold placeReply; split <;> rfl
@[simp] theorem placeReply_axes (r : ReplyFrame) (s : State) : (placeReply r s).axes = s.axes := by
  unfold placeReply; split <;> rfl
@[simp] theorem placeReply_latch (r : ReplyFrame) (s : State) : (placeReply r s).latch = s.latch := by
  unfold placeReply; split <;> rfl
@[simp] theorem placeReply_faultPending (r : ReplyFrame) (s : State) : (placeReply r s).faultPending = s.faultPending := by
  unfold placeReply; split <;> rfl
@[simp] theorem placeReply_gate (r : ReplyFrame) (s : State) : (placeReply r s).gate = s.gate := by
  unfold placeReply; split <;> rfl
@[simp] theorem placeReply_thermal (r : ReplyFrame) (s : State) : (placeReply r s).thermal = s.thermal := by
  unfold placeReply; split <;> rfl
@[simp] theorem placeReply_motion (r : ReplyFrame) (s : State) : (placeReply r s).motion = s.motion := by
  unfold placeReply; split <;> rfl
@[simp] theorem placeReply_zones (r : ReplyFrame) (s : State) : (placeReply r s).zones = s.zones := by
  unfold placeReply; split <;> rfl
@[simp] theorem placeReply_capture (r : ReplyFrame) (s : State) : (placeReply r s).capture = s.capture := by
  unfold placeReply; split <;> rfl
@[simp] theorem placeReply_probes (r : ReplyFrame) (s : State) : (placeReply r s).probes = s.probes := by
  unfold placeReply; split <;> rfl
@[simp] theorem placeReply_line (r : ReplyFrame) (s : State) : (placeReply r s).line = s.line := by
  unfold placeReply; split <;> rfl
@[simp] theorem placeReply_notices (r : ReplyFrame) (s : State) : (placeReply r s).notices = s.notices := by
  unfold placeReply; split <;> rfl
@[simp] theorem placeReply_overrun (r : ReplyFrame) (s : State) : (placeReply r s).overrun = s.overrun := by
  unfold placeReply; split <;> rfl
@[simp] theorem placeReply_overrunSince (r : ReplyFrame) (s : State) : (placeReply r s).overrunSince = s.overrunSince := by
  unfold placeReply; split <;> rfl
@[simp] theorem placeReply_station (r : ReplyFrame) (s : State) : (placeReply r s).station = s.station := by
  unfold placeReply; split <;> rfl
@[simp] theorem placeReply_pending (r : ReplyFrame) (s : State) : (placeReply r s).pending = s.pending := by
  unfold placeReply; split <;> rfl

@[simp] theorem holdAtPositions_uptime (s : State) : (holdAtPositions s).uptime = s.uptime := by
  unfold holdAtPositions; split <;> rfl
@[simp] theorem holdAtPositions_freeIx (s : State) : (holdAtPositions s).freeIx = s.freeIx := by
  unfold holdAtPositions; split <;> rfl
@[simp] theorem holdAtPositions_inReset (s : State) : (holdAtPositions s).inReset = s.inReset := by
  unfold holdAtPositions; split <;> rfl
@[simp] theorem holdAtPositions_pins (s : State) : (holdAtPositions s).pins = s.pins := by
  unfold holdAtPositions; split <;> rfl
@[simp] theorem holdAtPositions_axisCount (s : State) : (holdAtPositions s).axisCount = s.axisCount := by
  unfold holdAtPositions; split <;> rfl
@[simp] theorem holdAtPositions_latch (s : State) : (holdAtPositions s).latch = s.latch := by
  unfold holdAtPositions; split <;> rfl
@[simp] theorem holdAtPositions_faultPending (s : State) : (holdAtPositions s).faultPending = s.faultPending := by
  unfold holdAtPositions; split <;> rfl
@[simp] theorem holdAtPositions_gate (s : State) : (holdAtPositions s).gate = s.gate := by
  unfold holdAtPositions; split <;> rfl
@[simp] theorem holdAtPositions_thermal (s : State) : (holdAtPositions s).thermal = s.thermal := by
  unfold holdAtPositions; split <;> rfl
@[simp] theorem holdAtPositions_motion (s : State) : (holdAtPositions s).motion = s.motion := by
  unfold holdAtPositions; split <;> rfl
@[simp] theorem holdAtPositions_zones (s : State) : (holdAtPositions s).zones = s.zones := by
  unfold holdAtPositions; split <;> rfl
@[simp] theorem holdAtPositions_capture (s : State) : (holdAtPositions s).capture = s.capture := by
  unfold holdAtPositions; split <;> rfl
@[simp] theorem holdAtPositions_probes (s : State) : (holdAtPositions s).probes = s.probes := by
  unfold holdAtPositions; split <;> rfl
@[simp] theorem holdAtPositions_line (s : State) : (holdAtPositions s).line = s.line := by
  unfold holdAtPositions; split <;> rfl
@[simp] theorem holdAtPositions_slots (s : State) : (holdAtPositions s).slots = s.slots := by
  unfold holdAtPositions; split <;> rfl
@[simp] theorem holdAtPositions_notices (s : State) : (holdAtPositions s).notices = s.notices := by
  unfold holdAtPositions; split <;> rfl
@[simp] theorem holdAtPositions_overrun (s : State) : (holdAtPositions s).overrun = s.overrun := by
  unfold holdAtPositions; split <;> rfl
@[simp] theorem holdAtPositions_overrunSince (s : State) : (holdAtPositions s).overrunSince = s.overrunSince := by
  unfold holdAtPositions; split <;> rfl
@[simp] theorem holdAtPositions_station (s : State) : (holdAtPositions s).station = s.station := by
  unfold holdAtPositions; split <;> rfl
@[simp] theorem holdAtPositions_pending (s : State) : (holdAtPositions s).pending = s.pending := by
  unfold holdAtPositions; split <;> rfl

@[simp] theorem dropDrives_uptime (s : State) : (dropDrives s).uptime = s.uptime := rfl
@[simp] theorem dropDrives_freeIx (s : State) : (dropDrives s).freeIx = s.freeIx := rfl
@[simp] theorem dropDrives_inReset (s : State) : (dropDrives s).inReset = s.inReset := rfl
@[simp] theorem dropDrives_pins (s : State) : (dropDrives s).pins = s.pins := rfl
@[simp] theorem dropDrives_axisCount (s : State) : (dropDrives s).axisCount = s.axisCount := rfl
@[simp] theorem dropDrives_latch (s : State) : (dropDrives s).latch = s.latch := rfl
@[simp] theorem dropDrives_faultPending (s : State) : (dropDrives s).faultPending = s.faultPending := rfl
@[simp] theorem dropDrives_gate (s : State) : (dropDrives s).gate = s.gate := rfl
@[simp] theorem dropDrives_thermal (s : State) : (dropDrives s).thermal = s.thermal := rfl
@[simp] theorem dropDrives_motion (s : State) : (dropDrives s).motion = s.motion := rfl
@[simp] theorem dropDrives_zones (s : State) : (dropDrives s).zones = s.zones := rfl
@[simp] theorem dropDrives_capture (s : State) : (dropDrives s).capture = s.capture := rfl
@[simp] theorem dropDrives_probes (s : State) : (dropDrives s).probes = s.probes := rfl
@[simp] theorem dropDrives_line (s : State) : (dropDrives s).line = s.line := rfl
@[simp] theorem dropDrives_slots (s : State) : (dropDrives s).slots = s.slots := rfl
@[simp] theorem dropDrives_notices (s : State) : (dropDrives s).notices = s.notices := rfl
@[simp] theorem dropDrives_overrun (s : State) : (dropDrives s).overrun = s.overrun := rfl
@[simp] theorem dropDrives_overrunSince (s : State) : (dropDrives s).overrunSince = s.overrunSince := rfl
@[simp] theorem dropDrives_station (s : State) : (dropDrives s).station = s.station := rfl
@[simp] theorem dropDrives_pending (s : State) : (dropDrives s).pending = s.pending := rfl

@[simp] theorem cutDrives_uptime (s : State) : (cutDrives s).uptime = s.uptime := rfl
@[simp] theorem cutDrives_freeIx (s : State) : (cutDrives s).freeIx = s.freeIx := rfl
@[simp] theorem cutDrives_inReset (s : State) : (cutDrives s).inReset = s.inReset := rfl
@[simp] theorem cutDrives_pins (s : State) : (cutDrives s).pins = s.pins := rfl
@[simp] theorem cutDrives_axisCount (s : State) : (cutDrives s).axisCount = s.axisCount := rfl
@[simp] theorem cutDrives_latch (s : State) : (cutDrives s).latch = s.latch := rfl
@[simp] theorem cutDrives_faultPending (s : State) : (cutDrives s).faultPending = s.faultPending := rfl
@[simp] theorem cutDrives_gate (s : State) : (cutDrives s).gate = s.gate := rfl
@[simp] theorem cutDrives_thermal (s : State) : (cutDrives s).thermal = s.thermal := rfl
@[simp] theorem cutDrives_motion (s : State) : (cutDrives s).motion = s.motion := rfl
@[simp] theorem cutDrives_zones (s : State) : (cutDrives s).zones = s.zones := rfl
@[simp] theorem cutDrives_capture (s : State) : (cutDrives s).capture = s.capture := rfl
@[simp] theorem cutDrives_probes (s : State) : (cutDrives s).probes = s.probes := rfl
@[simp] theorem cutDrives_line (s : State) : (cutDrives s).line = s.line := rfl
@[simp] theorem cutDrives_slots (s : State) : (cutDrives s).slots = s.slots := rfl
@[simp] theorem cutDrives_notices (s : State) : (cutDrives s).notices = s.notices := rfl
@[simp] theorem cutDrives_overrun (s : State) : (cutDrives s).overrun = s.overrun := rfl
@[simp] theorem cutDrives_overrunSince (s : State) : (cutDrives s).overrunSince = s.overrunSince := rfl
@[simp] theorem cutDrives_station (s : State) : (cutDrives s).station = s.station := rfl
@[simp] theorem cutDrives_pending (s : State) : (cutDrives s).pending = s.pending := rfl

@[simp] theorem frameTaken_uptime (f : RxFrame) (s : State) : (frameTaken f s).uptime = s.uptime := by
  unfold frameTaken; split <;> rfl
@[simp] theorem frameTaken_freeIx (f : RxFrame) (s : State) : (frameTaken f s).freeIx = s.freeIx := by
  unfold frameTaken; split <;> rfl
@[simp] theorem frameTaken_inReset (f : RxFrame) (s : State) : (frameTaken f s).inReset = s.inReset := by
  unfold frameTaken; split <;> rfl
@[simp] theorem frameTaken_pins (f : RxFrame) (s : State) : (frameTaken f s).pins = s.pins := by
  unfold frameTaken; split <;> rfl
@[simp] theorem frameTaken_axisCount (f : RxFrame) (s : State) : (frameTaken f s).axisCount = s.axisCount := by
  unfold frameTaken; split <;> rfl
@[simp] theorem frameTaken_axes (f : RxFrame) (s : State) : (frameTaken f s).axes = s.axes := by
  unfold frameTaken; split <;> rfl
@[simp] theorem frameTaken_latch (f : RxFrame) (s : State) : (frameTaken f s).latch = s.latch := by
  unfold frameTaken; split <;> rfl
@[simp] theorem frameTaken_faultPending (f : RxFrame) (s : State) : (frameTaken f s).faultPending = s.faultPending := by
  unfold frameTaken; split <;> rfl
@[simp] theorem frameTaken_gate (f : RxFrame) (s : State) : (frameTaken f s).gate = s.gate := by
  unfold frameTaken; split <;> rfl
@[simp] theorem frameTaken_thermal (f : RxFrame) (s : State) : (frameTaken f s).thermal = s.thermal := by
  unfold frameTaken; split <;> rfl
@[simp] theorem frameTaken_motion (f : RxFrame) (s : State) : (frameTaken f s).motion = s.motion := by
  unfold frameTaken; split <;> rfl
@[simp] theorem frameTaken_zones (f : RxFrame) (s : State) : (frameTaken f s).zones = s.zones := by
  unfold frameTaken; split <;> rfl
@[simp] theorem frameTaken_capture (f : RxFrame) (s : State) : (frameTaken f s).capture = s.capture := by
  unfold frameTaken; split <;> rfl
@[simp] theorem frameTaken_probes (f : RxFrame) (s : State) : (frameTaken f s).probes = s.probes := by
  unfold frameTaken; split <;> rfl
@[simp] theorem frameTaken_notices (f : RxFrame) (s : State) : (frameTaken f s).notices = s.notices := by
  unfold frameTaken; split <;> rfl
@[simp] theorem frameTaken_overrun (f : RxFrame) (s : State) : (frameTaken f s).overrun = s.overrun := by
  unfold frameTaken; split <;> rfl
@[simp] theorem frameTaken_overrunSince (f : RxFrame) (s : State) : (frameTaken f s).overrunSince = s.overrunSince := by
  unfold frameTaken; split <;> rfl
@[simp] theorem frameTaken_station (f : RxFrame) (s : State) : (frameTaken f s).station = s.station := by
  unfold frameTaken; split <;> rfl
@[simp] theorem frameTaken_pending (f : RxFrame) (s : State) : (frameTaken f s).pending = s.pending := by
  unfold frameTaken; split <;> rfl

@[simp] theorem setLocation_uptime (id : Nat) (l : Location) (s : State) : (setLocation id l s).uptime = s.uptime := by
  unfold setLocation; split <;> rfl
@[simp] theorem setLocation_freeIx (id : Nat) (l : Location) (s : State) : (setLocation id l s).freeIx = s.freeIx := by
  unfold setLocation; split <;> rfl
@[simp] theorem setLocation_inReset (id : Nat) (l : Location) (s : State) : (setLocation id l s).inReset = s.inReset := by
  unfold setLocation; split <;> rfl
@[simp] theorem setLocation_pins (id : Nat) (l : Location) (s : State) : (setLocation id l s).pins = s.pins := by
  unfold setLocation; split <;> rfl
@[simp] theorem setLocation_axisCount (id : Nat) (l : Location) (s : State) : (setLocation id l s).axisCount = s.axisCount := by
  unfold setLocation; split <;> rfl
@[simp] theorem setLocation_axes (id : Nat) (l : Location) (s : State) : (setLocation id l s).axes = s.axes := by
  unfold setLocation; split <;> rfl
@[simp] theorem setLocation_latch (id : Nat) (l : Location) (s : State) : (setLocation id l s).latch = s.latch := by
  unfold setLocation; split <;> rfl
@[simp] theorem setLocation_faultPending (id : Nat) (l : Location) (s : State) : (setLocation id l s).faultPending = s.faultPending := by
  unfold setLocation; split <;> rfl
@[simp] theorem setLocation_gate (id : Nat) (l : Location) (s : State) : (setLocation id l s).gate = s.gate := by
  unfold setLocation; split <;> rfl
@[simp] theorem setLocation_thermal (id : Nat) (l : Location) (s : State) : (setLocation id l s).thermal = s.thermal := by
  unfold setLocation; split <;> rfl
@[simp] theorem setLocation_motion (id : Nat) (l : Location) (s : State) : (setLocation id l s).motion = s.motion := by
  unfold setLocation; split <;> rfl
@[simp] theorem setLocation_zones (id : Nat) (l : Location) (s : State) : (setLocation id l s).zones = s.zones := by
  unfold setLocation; split <;> rfl
@[simp] theorem setLocation_capture (id : Nat) (l : Location) (s : State) : (setLocation id l s).capture = s.capture := by
  unfold setLocation; split <;> rfl
@[simp] theorem setLocation_line (id : Nat) (l : Location) (s : State) : (setLocation id l s).line = s.line := by
  unfold setLocation; split <;> rfl
@[simp] theorem setLocation_slots (id : Nat) (l : Location) (s : State) : (setLocation id l s).slots = s.slots := by
  unfold setLocation; split <;> rfl
@[simp] theorem setLocation_notices (id : Nat) (l : Location) (s : State) : (setLocation id l s).notices = s.notices := by
  unfold setLocation; split <;> rfl
@[simp] theorem setLocation_overrun (id : Nat) (l : Location) (s : State) : (setLocation id l s).overrun = s.overrun := by
  unfold setLocation; split <;> rfl
@[simp] theorem setLocation_overrunSince (id : Nat) (l : Location) (s : State) : (setLocation id l s).overrunSince = s.overrunSince := by
  unfold setLocation; split <;> rfl
@[simp] theorem setLocation_station (id : Nat) (l : Location) (s : State) : (setLocation id l s).station = s.station := by
  unfold setLocation; split <;> rfl
@[simp] theorem setLocation_pending (id : Nat) (l : Location) (s : State) : (setLocation id l s).pending = s.pending := by
  unfold setLocation; split <;> rfl

@[simp] theorem placeAnswer_uptime (x : CompanionFrame) (s : State) : (placeAnswer x s).uptime = s.uptime := by
  unfold placeAnswer; split <;> rfl
@[simp] theorem placeAnswer_freeIx (x : CompanionFrame) (s : State) : (placeAnswer x s).freeIx = s.freeIx := by
  unfold placeAnswer; split <;> rfl
@[simp] theorem placeAnswer_inReset (x : CompanionFrame) (s : State) : (placeAnswer x s).inReset = s.inReset := by
  unfold placeAnswer; split <;> rfl
@[simp] theorem placeAnswer_pins (x : CompanionFrame) (s : State) : (placeAnswer x s).pins = s.pins := by
  unfold placeAnswer; split <;> rfl
@[simp] theorem placeAnswer_axisCount (x : CompanionFrame) (s : State) : (placeAnswer x s).axisCount = s.axisCount := by
  unfold placeAnswer; split <;> rfl
@[simp] theorem placeAnswer_axes (x : CompanionFrame) (s : State) : (placeAnswer x s).axes = s.axes := by
  unfold placeAnswer; split <;> rfl
@[simp] theorem placeAnswer_latch (x : CompanionFrame) (s : State) : (placeAnswer x s).latch = s.latch := by
  unfold placeAnswer; split <;> rfl
@[simp] theorem placeAnswer_faultPending (x : CompanionFrame) (s : State) : (placeAnswer x s).faultPending = s.faultPending := by
  unfold placeAnswer; split <;> rfl
@[simp] theorem placeAnswer_gate (x : CompanionFrame) (s : State) : (placeAnswer x s).gate = s.gate := by
  unfold placeAnswer; split <;> rfl
@[simp] theorem placeAnswer_thermal (x : CompanionFrame) (s : State) : (placeAnswer x s).thermal = s.thermal := by
  unfold placeAnswer; split <;> rfl
@[simp] theorem placeAnswer_motion (x : CompanionFrame) (s : State) : (placeAnswer x s).motion = s.motion := by
  unfold placeAnswer; split <;> rfl
@[simp] theorem placeAnswer_zones (x : CompanionFrame) (s : State) : (placeAnswer x s).zones = s.zones := by
  unfold placeAnswer; split <;> rfl
@[simp] theorem placeAnswer_capture (x : CompanionFrame) (s : State) : (placeAnswer x s).capture = s.capture := by
  unfold placeAnswer; split <;> rfl
@[simp] theorem placeAnswer_probes (x : CompanionFrame) (s : State) : (placeAnswer x s).probes = s.probes := by
  unfold placeAnswer; split <;> rfl
@[simp] theorem placeAnswer_line (x : CompanionFrame) (s : State) : (placeAnswer x s).line = s.line := by
  unfold placeAnswer; split <;> rfl
@[simp] theorem placeAnswer_notices (x : CompanionFrame) (s : State) : (placeAnswer x s).notices = s.notices := by
  unfold placeAnswer; split <;> rfl
@[simp] theorem placeAnswer_overrun (x : CompanionFrame) (s : State) : (placeAnswer x s).overrun = s.overrun := by
  unfold placeAnswer; split <;> rfl
@[simp] theorem placeAnswer_overrunSince (x : CompanionFrame) (s : State) : (placeAnswer x s).overrunSince = s.overrunSince := by
  unfold placeAnswer; split <;> rfl
@[simp] theorem placeAnswer_station (x : CompanionFrame) (s : State) : (placeAnswer x s).station = s.station := by
  unfold placeAnswer; split <;> rfl
@[simp] theorem placeAnswer_pending (x : CompanionFrame) (s : State) : (placeAnswer x s).pending = s.pending := by
  unfold placeAnswer; split <;> rfl

@[simp] theorem mapHead_uptime (f : Segment → Segment) (s : State) : (mapHead f s).uptime = s.uptime := by
  unfold mapHead; split <;> rfl
@[simp] theorem mapHead_freeIx (f : Segment → Segment) (s : State) : (mapHead f s).freeIx = s.freeIx := by
  unfold mapHead; split <;> rfl
@[simp] theorem mapHead_inReset (f : Segment → Segment) (s : State) : (mapHead f s).inReset = s.inReset := by
  unfold mapHead; split <;> rfl
@[simp] theorem mapHead_pins (f : Segment → Segment) (s : State) : (mapHead f s).pins = s.pins := by
  unfold mapHead; split <;> rfl
@[simp] theorem mapHead_axisCount (f : Segment → Segment) (s : State) : (mapHead f s).axisCount = s.axisCount := by
  unfold mapHead; split <;> rfl
@[simp] theorem mapHead_axes (f : Segment → Segment) (s : State) : (mapHead f s).axes = s.axes := by
  unfold mapHead; split <;> rfl
@[simp] theorem mapHead_latch (f : Segment → Segment) (s : State) : (mapHead f s).latch = s.latch := by
  unfold mapHead; split <;> rfl
@[simp] theorem mapHead_faultPending (f : Segment → Segment) (s : State) : (mapHead f s).faultPending = s.faultPending := by
  unfold mapHead; split <;> rfl
@[simp] theorem mapHead_gate (f : Segment → Segment) (s : State) : (mapHead f s).gate = s.gate := by
  unfold mapHead; split <;> rfl
@[simp] theorem mapHead_thermal (f : Segment → Segment) (s : State) : (mapHead f s).thermal = s.thermal := by
  unfold mapHead; split <;> rfl
@[simp] theorem mapHead_zones (f : Segment → Segment) (s : State) : (mapHead f s).zones = s.zones := by
  unfold mapHead; split <;> rfl
@[simp] theorem mapHead_capture (f : Segment → Segment) (s : State) : (mapHead f s).capture = s.capture := by
  unfold mapHead; split <;> rfl
@[simp] theorem mapHead_probes (f : Segment → Segment) (s : State) : (mapHead f s).probes = s.probes := by
  unfold mapHead; split <;> rfl
@[simp] theorem mapHead_line (f : Segment → Segment) (s : State) : (mapHead f s).line = s.line := by
  unfold mapHead; split <;> rfl
@[simp] theorem mapHead_slots (f : Segment → Segment) (s : State) : (mapHead f s).slots = s.slots := by
  unfold mapHead; split <;> rfl
@[simp] theorem mapHead_notices (f : Segment → Segment) (s : State) : (mapHead f s).notices = s.notices := by
  unfold mapHead; split <;> rfl
@[simp] theorem mapHead_overrun (f : Segment → Segment) (s : State) : (mapHead f s).overrun = s.overrun := by
  unfold mapHead; split <;> rfl
@[simp] theorem mapHead_overrunSince (f : Segment → Segment) (s : State) : (mapHead f s).overrunSince = s.overrunSince := by
  unfold mapHead; split <;> rfl
@[simp] theorem mapHead_station (f : Segment → Segment) (s : State) : (mapHead f s).station = s.station := by
  unfold mapHead; split <;> rfl
@[simp] theorem mapHead_pending (f : Segment → Segment) (s : State) : (mapHead f s).pending = s.pending := by
  unfold mapHead; split <;> rfl

@[simp] theorem unclaimHead_uptime (s : State) : (unclaimHead s).uptime = s.uptime := by
  unfold unclaimHead mapHead; split <;> rfl
@[simp] theorem unclaimHead_freeIx (s : State) : (unclaimHead s).freeIx = s.freeIx := by
  unfold unclaimHead mapHead; split <;> rfl
@[simp] theorem unclaimHead_inReset (s : State) : (unclaimHead s).inReset = s.inReset := by
  unfold unclaimHead mapHead; split <;> rfl
@[simp] theorem unclaimHead_pins (s : State) : (unclaimHead s).pins = s.pins := by
  unfold unclaimHead mapHead; split <;> rfl
@[simp] theorem unclaimHead_axisCount (s : State) : (unclaimHead s).axisCount = s.axisCount := by
  unfold unclaimHead mapHead; split <;> rfl
@[simp] theorem unclaimHead_axes (s : State) : (unclaimHead s).axes = s.axes := by
  unfold unclaimHead mapHead; split <;> rfl
@[simp] theorem unclaimHead_latch (s : State) : (unclaimHead s).latch = s.latch := by
  unfold unclaimHead mapHead; split <;> rfl
@[simp] theorem unclaimHead_faultPending (s : State) : (unclaimHead s).faultPending = s.faultPending := by
  unfold unclaimHead mapHead; split <;> rfl
@[simp] theorem unclaimHead_gate (s : State) : (unclaimHead s).gate = s.gate := by
  unfold unclaimHead mapHead; split <;> rfl
@[simp] theorem unclaimHead_thermal (s : State) : (unclaimHead s).thermal = s.thermal := by
  unfold unclaimHead mapHead; split <;> rfl
@[simp] theorem unclaimHead_zones (s : State) : (unclaimHead s).zones = s.zones := by
  unfold unclaimHead mapHead; split <;> rfl
@[simp] theorem unclaimHead_capture (s : State) : (unclaimHead s).capture = s.capture := by
  unfold unclaimHead mapHead; split <;> rfl
@[simp] theorem unclaimHead_probes (s : State) : (unclaimHead s).probes = s.probes := by
  unfold unclaimHead mapHead; split <;> rfl
@[simp] theorem unclaimHead_line (s : State) : (unclaimHead s).line = s.line := by
  unfold unclaimHead mapHead; split <;> rfl
@[simp] theorem unclaimHead_slots (s : State) : (unclaimHead s).slots = s.slots := by
  unfold unclaimHead mapHead; split <;> rfl
@[simp] theorem unclaimHead_notices (s : State) : (unclaimHead s).notices = s.notices := by
  unfold unclaimHead mapHead; split <;> rfl
@[simp] theorem unclaimHead_overrun (s : State) : (unclaimHead s).overrun = s.overrun := by
  unfold unclaimHead mapHead; split <;> rfl
@[simp] theorem unclaimHead_overrunSince (s : State) : (unclaimHead s).overrunSince = s.overrunSince := by
  unfold unclaimHead mapHead; split <;> rfl
@[simp] theorem unclaimHead_station (s : State) : (unclaimHead s).station = s.station := by
  unfold unclaimHead mapHead; split <;> rfl
@[simp] theorem unclaimHead_pending (s : State) : (unclaimHead s).pending = s.pending := by
  unfold unclaimHead mapHead; split <;> rfl

@[simp] theorem formHead_uptime (s : State) : (formHead s).uptime = s.uptime := by
  unfold formHead mapHead; split <;> rfl
@[simp] theorem formHead_freeIx (s : State) : (formHead s).freeIx = s.freeIx := by
  unfold formHead mapHead; split <;> rfl
@[simp] theorem formHead_inReset (s : State) : (formHead s).inReset = s.inReset := by
  unfold formHead mapHead; split <;> rfl
@[simp] theorem formHead_pins (s : State) : (formHead s).pins = s.pins := by
  unfold formHead mapHead; split <;> rfl
@[simp] theorem formHead_axisCount (s : State) : (formHead s).axisCount = s.axisCount := by
  unfold formHead mapHead; split <;> rfl
@[simp] theorem formHead_axes (s : State) : (formHead s).axes = s.axes := by
  unfold formHead mapHead; split <;> rfl
@[simp] theorem formHead_latch (s : State) : (formHead s).latch = s.latch := by
  unfold formHead mapHead; split <;> rfl
@[simp] theorem formHead_faultPending (s : State) : (formHead s).faultPending = s.faultPending := by
  unfold formHead mapHead; split <;> rfl
@[simp] theorem formHead_gate (s : State) : (formHead s).gate = s.gate := by
  unfold formHead mapHead; split <;> rfl
@[simp] theorem formHead_thermal (s : State) : (formHead s).thermal = s.thermal := by
  unfold formHead mapHead; split <;> rfl
@[simp] theorem formHead_zones (s : State) : (formHead s).zones = s.zones := by
  unfold formHead mapHead; split <;> rfl
@[simp] theorem formHead_capture (s : State) : (formHead s).capture = s.capture := by
  unfold formHead mapHead; split <;> rfl
@[simp] theorem formHead_probes (s : State) : (formHead s).probes = s.probes := by
  unfold formHead mapHead; split <;> rfl
@[simp] theorem formHead_line (s : State) : (formHead s).line = s.line := by
  unfold formHead mapHead; split <;> rfl
@[simp] theorem formHead_slots (s : State) : (formHead s).slots = s.slots := by
  unfold formHead mapHead; split <;> rfl
@[simp] theorem formHead_notices (s : State) : (formHead s).notices = s.notices := by
  unfold formHead mapHead; split <;> rfl
@[simp] theorem formHead_overrun (s : State) : (formHead s).overrun = s.overrun := by
  unfold formHead mapHead; split <;> rfl
@[simp] theorem formHead_overrunSince (s : State) : (formHead s).overrunSince = s.overrunSince := by
  unfold formHead mapHead; split <;> rfl
@[simp] theorem formHead_station (s : State) : (formHead s).station = s.station := by
  unfold formHead mapHead; split <;> rfl
@[simp] theorem formHead_pending (s : State) : (formHead s).pending = s.pending := by
  unfold formHead mapHead; split <;> rfl

@[simp] theorem flushBehind_uptime (s : State) : (flushBehind s).uptime = s.uptime := by
  unfold flushBehind; split <;> rfl
@[simp] theorem flushBehind_freeIx (s : State) : (flushBehind s).freeIx = s.freeIx := by
  unfold flushBehind; split <;> rfl
@[simp] theorem flushBehind_inReset (s : State) : (flushBehind s).inReset = s.inReset := by
  unfold flushBehind; split <;> rfl
@[simp] theorem flushBehind_pins (s : State) : (flushBehind s).pins = s.pins := by
  unfold flushBehind; split <;> rfl
@[simp] theorem flushBehind_axisCount (s : State) : (flushBehind s).axisCount = s.axisCount := by
  unfold flushBehind; split <;> rfl
@[simp] theorem flushBehind_axes (s : State) : (flushBehind s).axes = s.axes := by
  unfold flushBehind; split <;> rfl
@[simp] theorem flushBehind_latch (s : State) : (flushBehind s).latch = s.latch := by
  unfold flushBehind; split <;> rfl
@[simp] theorem flushBehind_faultPending (s : State) : (flushBehind s).faultPending = s.faultPending := by
  unfold flushBehind; split <;> rfl
@[simp] theorem flushBehind_gate (s : State) : (flushBehind s).gate = s.gate := by
  unfold flushBehind; split <;> rfl
@[simp] theorem flushBehind_thermal (s : State) : (flushBehind s).thermal = s.thermal := by
  unfold flushBehind; split <;> rfl
@[simp] theorem flushBehind_zones (s : State) : (flushBehind s).zones = s.zones := by
  unfold flushBehind; split <;> rfl
@[simp] theorem flushBehind_capture (s : State) : (flushBehind s).capture = s.capture := by
  unfold flushBehind; split <;> rfl
@[simp] theorem flushBehind_probes (s : State) : (flushBehind s).probes = s.probes := by
  unfold flushBehind; split <;> rfl
@[simp] theorem flushBehind_line (s : State) : (flushBehind s).line = s.line := by
  unfold flushBehind; split <;> rfl
@[simp] theorem flushBehind_slots (s : State) : (flushBehind s).slots = s.slots := by
  unfold flushBehind; split <;> rfl
@[simp] theorem flushBehind_notices (s : State) : (flushBehind s).notices = s.notices := by
  unfold flushBehind; split <;> rfl
@[simp] theorem flushBehind_overrun (s : State) : (flushBehind s).overrun = s.overrun := by
  unfold flushBehind; split <;> rfl
@[simp] theorem flushBehind_overrunSince (s : State) : (flushBehind s).overrunSince = s.overrunSince := by
  unfold flushBehind; split <;> rfl
@[simp] theorem flushBehind_station (s : State) : (flushBehind s).station = s.station := by
  unfold flushBehind; split <;> rfl
@[simp] theorem flushBehind_pending (s : State) : (flushBehind s).pending = s.pending := by
  unfold flushBehind; split <;> rfl

@[simp] theorem enqueue_uptime (seg : Segment) (s : State) : (enqueue seg s).uptime = s.uptime := by
  unfold enqueue formHead mapHead; split <;> rfl
@[simp] theorem enqueue_freeIx (seg : Segment) (s : State) : (enqueue seg s).freeIx = s.freeIx := by
  unfold enqueue formHead mapHead; split <;> rfl
@[simp] theorem enqueue_inReset (seg : Segment) (s : State) : (enqueue seg s).inReset = s.inReset := by
  unfold enqueue formHead mapHead; split <;> rfl
@[simp] theorem enqueue_pins (seg : Segment) (s : State) : (enqueue seg s).pins = s.pins := by
  unfold enqueue formHead mapHead; split <;> rfl
@[simp] theorem enqueue_axisCount (seg : Segment) (s : State) : (enqueue seg s).axisCount = s.axisCount := by
  unfold enqueue formHead mapHead; split <;> rfl
@[simp] theorem enqueue_axes (seg : Segment) (s : State) : (enqueue seg s).axes = s.axes := by
  unfold enqueue formHead mapHead; split <;> rfl
@[simp] theorem enqueue_latch (seg : Segment) (s : State) : (enqueue seg s).latch = s.latch := by
  unfold enqueue formHead mapHead; split <;> rfl
@[simp] theorem enqueue_faultPending (seg : Segment) (s : State) : (enqueue seg s).faultPending = s.faultPending := by
  unfold enqueue formHead mapHead; split <;> rfl
@[simp] theorem enqueue_gate (seg : Segment) (s : State) : (enqueue seg s).gate = s.gate := by
  unfold enqueue formHead mapHead; split <;> rfl
@[simp] theorem enqueue_thermal (seg : Segment) (s : State) : (enqueue seg s).thermal = s.thermal := by
  unfold enqueue formHead mapHead; split <;> rfl
@[simp] theorem enqueue_zones (seg : Segment) (s : State) : (enqueue seg s).zones = s.zones := by
  unfold enqueue formHead mapHead; split <;> rfl
@[simp] theorem enqueue_capture (seg : Segment) (s : State) : (enqueue seg s).capture = s.capture := by
  unfold enqueue formHead mapHead; split <;> rfl
@[simp] theorem enqueue_probes (seg : Segment) (s : State) : (enqueue seg s).probes = s.probes := by
  unfold enqueue formHead mapHead; split <;> rfl
@[simp] theorem enqueue_line (seg : Segment) (s : State) : (enqueue seg s).line = s.line := by
  unfold enqueue formHead mapHead; split <;> rfl
@[simp] theorem enqueue_slots (seg : Segment) (s : State) : (enqueue seg s).slots = s.slots := by
  unfold enqueue formHead mapHead; split <;> rfl
@[simp] theorem enqueue_notices (seg : Segment) (s : State) : (enqueue seg s).notices = s.notices := by
  unfold enqueue formHead mapHead; split <;> rfl
@[simp] theorem enqueue_overrun (seg : Segment) (s : State) : (enqueue seg s).overrun = s.overrun := by
  unfold enqueue formHead mapHead; split <;> rfl
@[simp] theorem enqueue_overrunSince (seg : Segment) (s : State) : (enqueue seg s).overrunSince = s.overrunSince := by
  unfold enqueue formHead mapHead; split <;> rfl
@[simp] theorem enqueue_station (seg : Segment) (s : State) : (enqueue seg s).station = s.station := by
  unfold enqueue formHead mapHead; split <;> rfl
@[simp] theorem enqueue_pending (seg : Segment) (s : State) : (enqueue seg s).pending = s.pending := by
  unfold enqueue formHead mapHead; split <;> rfl

@[simp] theorem holdWithdrawal_uptime (s : State) : (holdWithdrawal s).uptime = s.uptime := rfl
@[simp] theorem holdWithdrawal_freeIx (s : State) : (holdWithdrawal s).freeIx = s.freeIx := rfl
@[simp] theorem holdWithdrawal_inReset (s : State) : (holdWithdrawal s).inReset = s.inReset := rfl
@[simp] theorem holdWithdrawal_pins (s : State) : (holdWithdrawal s).pins = s.pins := rfl
@[simp] theorem holdWithdrawal_axisCount (s : State) : (holdWithdrawal s).axisCount = s.axisCount := rfl
@[simp] theorem holdWithdrawal_axes (s : State) : (holdWithdrawal s).axes = s.axes := rfl
@[simp] theorem holdWithdrawal_latch (s : State) : (holdWithdrawal s).latch = s.latch := rfl
@[simp] theorem holdWithdrawal_faultPending (s : State) : (holdWithdrawal s).faultPending = s.faultPending := rfl
@[simp] theorem holdWithdrawal_gate (s : State) : (holdWithdrawal s).gate = s.gate := rfl
@[simp] theorem holdWithdrawal_thermal (s : State) : (holdWithdrawal s).thermal = s.thermal := rfl
@[simp] theorem holdWithdrawal_motion (s : State) : (holdWithdrawal s).motion = s.motion := rfl
@[simp] theorem holdWithdrawal_zones (s : State) : (holdWithdrawal s).zones = s.zones := rfl
@[simp] theorem holdWithdrawal_capture (s : State) : (holdWithdrawal s).capture = s.capture := rfl
@[simp] theorem holdWithdrawal_probes (s : State) : (holdWithdrawal s).probes = s.probes := rfl
@[simp] theorem holdWithdrawal_line (s : State) : (holdWithdrawal s).line =
    { s.line with attempt := s.line.attempt.map fun a =>
        { a with withdrawn := a.withdrawn || decide (s.uptime ≤ a.tagSent) } } := rfl
@[simp] theorem holdWithdrawal_slots (s : State) : (holdWithdrawal s).slots = s.slots := rfl
@[simp] theorem holdWithdrawal_notices (s : State) : (holdWithdrawal s).notices = s.notices := rfl
@[simp] theorem holdWithdrawal_overrun (s : State) : (holdWithdrawal s).overrun = s.overrun := rfl
@[simp] theorem holdWithdrawal_overrunSince (s : State) : (holdWithdrawal s).overrunSince = s.overrunSince := rfl
@[simp] theorem holdWithdrawal_station (s : State) : (holdWithdrawal s).station = s.station := rfl
@[simp] theorem holdWithdrawal_pending (s : State) : (holdWithdrawal s).pending = s.pending := rfl

end Sys2Proof.Machine
end

