-- ==== Sys2Proof/Laws/Tables.lean ====
section
/-! SUPPORT. Reading the tables that are built entry by entry, the channels after an update, and lists of ids. -/

namespace Sys2Proof.Machine

@[simp] theorem tab4_get {α : Type} (f : Fin 4 → α) (i : Fin 4) : (tab4 f).get i = f i := by
  fin_cases i <;> rfl

@[simp] theorem tab8_get {α : Type} (f : Fin 8 → α) (i : Fin 8) : (tab8 f).get i = f i := by
  fin_cases i <;> rfl

@[simp] theorem tab15_get {α : Type} (f : Fin 15 → α) (i : Fin 15) : (tab15 f).get i = f i := by
  fin_cases i <;> rfl

@[simp] theorem tab16_get {α : Type} (f : Fin 16 → α) (i : Fin 16) : (tab16 f).get i = f i := by
  fin_cases i <;> rfl

/-- An entry written is read back, and the others are as before. -/
theorem vector_get_set {α : Type} {n : Nat} (v : Vector α n) (i j : Fin n) (x : α) :
    (v.set i.val x).get j = if j = i then x else v.get j := by
  change (v.set i.val x)[j.val] = if j = i then x else v[j.val]
  rw [Vector.getElem_set]
  simp only [Fin.ext_iff, eq_comm]

@[simp] theorem State.axis_mapAxes (f : Fin 4 → Axis → Axis) (s : State) (i : Fin 4) :
    (s.mapAxes f).axis i = f i (s.axis i) := by
  simp [State.axis]

/-- One channel changed: it reads back, and the others are as before. -/
theorem State.axis_setAxis (i j : Fin 4) (a : Axis) (s : State) :
    (s.setAxis i a).axis j = if j = i then a else s.axis j := by
  simp [State.axis, vector_get_set]

@[simp] theorem State.axis_setAxis_self (i : Fin 4) (a : Axis) (s : State) : (s.setAxis i a).axis i = a := by
  simp [State.axis_setAxis]

theorem State.axis_setAxis_ne {i j : Fin 4} (h : j ≠ i) (a : Axis) (s : State) :
    (s.setAxis i a).axis j = s.axis j := by
  simp [State.axis_setAxis, h]

/-- A zone set holds exactly the zones its predicate names. -/
@[simp] theorem zoneSet_has (p : Fin 16 → Bool) (z : Fin 16) : ZoneSet.has (zoneSet p) z = p z := by
  simp [ZoneSet.has, zoneSet]

@[simp] theorem mem_axisIds (i : Fin 4) : i ∈ axisIds := by fin_cases i <;> decide

@[simp] theorem mem_ids16 (i : Fin 16) : i ∈ ids16 := by fin_cases i <;> decide

@[simp] theorem mem_portIds (i : Fin 8) : i ∈ portIds := by fin_cases i <;> decide

/-- The live channels are those strapped (R4). -/
@[simp] theorem mem_liveAxes (s : State) (i : Fin 4) : i ∈ s.liveAxes ↔ s.live i = true := by
  simp [State.liveAxes]

/-- Inclusion of zone sets, zone by zone. -/
theorem ZoneSet.within_iff (x y : ZoneSet) :
    ZoneSet.within x y = true ↔ ∀ z : Fin 16, ZoneSet.has x z = true → ZoneSet.has y z = true := by
  simp only [ZoneSet.within, ZoneSet.has, beq_iff_eq]
  constructor
  · intro h z hz
    have e := congrArg (fun b : BitVec 16 => b.getLsbD z.val) h
    have hz' := z.isLt
    simp only [BitVec.getLsbD_and, BitVec.getLsbD_not, hz, Bool.true_and,
      decide_eq_true hz'] at e
    simpa using e
  · intro h
    apply BitVec.eq_of_getLsbD_eq
    intro i hi
    have e := h ⟨i, hi⟩
    simp only [BitVec.getLsbD_and, BitVec.getLsbD_not]
    cases hx : x.getLsbD i
    · simp
    · have e' := e hx
      simp only at e'
      rw [e']; simp

end Sys2Proof.Machine
end

