-- ==== Sys2Proof/Laws/Frame.lean ====
section
/-! SUPPORT. What the operations that end and stop motion leave unchanged, each said once: `MotionOnly s t` for an operation
that can change only the motion sequencer, the zone unit, the probe unit, the slots, the notices and the withdrawal mark of
an attempt in flight. -/

namespace Sys2Proof.Machine

theorem MotionOnly.refl (s : State) : MotionOnly s s := by constructor <;> rfl

theorem MotionOnly.trans {s t u : State} (h : MotionOnly s t) (k : MotionOnly t u) : MotionOnly s u where
  uptime := k.uptime.trans h.uptime
  freeIx := k.freeIx.trans h.freeIx
  inReset := k.inReset.trans h.inReset
  pins := k.pins.trans h.pins
  axisCount := k.axisCount.trans h.axisCount
  axes := k.axes.trans h.axes
  latch := k.latch.trans h.latch
  faultPending := k.faultPending.trans h.faultPending
  gate := k.gate.trans h.gate
  thermal := k.thermal.trans h.thermal
  capture := k.capture.trans h.capture
  line := k.line.trans (by rw [h.line])
  overrun := k.overrun.trans h.overrun
  overrunSince := k.overrunSince.trans h.overrunSince
  station := k.station.trans h.station
  pending := k.pending.trans h.pending

/-- The line state is among what stays. -/
theorem MotionOnly.lineState {s t : State} (h : MotionOnly s t) : t.line.state = s.line.state := by rw [h.line]

theorem MotionOnly.number {s t : State} (h : MotionOnly s t) : t.line.number = s.line.number := by rw [h.line]

theorem MotionOnly.failures {s t : State} (h : MotionOnly s t) : t.line.failures = s.line.failures := by rw [h.line]

theorem MotionOnly.mutes {s t : State} (h : MotionOnly s t) : t.line.mutes = s.line.mutes := by rw [h.line]

/-- What is computed from pins, axes, mode, gate and line state stays. -/
theorem MotionOnly.ampOn {s t : State} (h : MotionOnly s t) : Machine.ampOn t = Machine.ampOn s := by
  simp only [Machine.ampOn, h.inReset, h.station, h.pins, h.gate, h.lineState]

theorem MotionOnly.joined {s t : State} (h : MotionOnly s t) : Machine.joined t = Machine.joined s := by
  simp only [Machine.joined, h.lineState]

theorem MotionOnly.live {s t : State} (h : MotionOnly s t) (i : Fin 4) : t.live i = s.live i := by
  simp only [State.live, h.axisCount]

theorem MotionOnly.axis {s t : State} (h : MotionOnly s t) (i : Fin 4) : t.axis i = s.axis i := by
  simp only [State.axis, h.axes]

/-! ### The updates -/

theorem motionOnly_latchNotice (n : Notice) (s : State) : MotionOnly s (latchNotice n s) := by constructor <;> rfl
theorem motionOnly_setQueue (q : List Segment) (s : State) : MotionOnly s (setQueue q s) := by constructor <;> rfl
theorem motionOnly_setClaim (c : Claim) (s : State) : MotionOnly s (setClaim c s) := by constructor <;> rfl
theorem motionOnly_mapView (f : Fin 16 → Option Hold → Option Hold) (s : State) : MotionOnly s (mapView f s) := by
  constructor <;> rfl
theorem motionOnly_mapSlots (f : Slots → Slots) (s : State) : MotionOnly s (mapSlots f s) := by constructor <;> rfl
theorem motionOnly_setChange (c : Change) (s : State) : MotionOnly s (setChange c s) := by constructor <;> rfl
theorem motionOnly_mapChange (f : Change → Change) (s : State) : MotionOnly s (mapChange f s) := by constructor <;> rfl
theorem motionOnly_mapProbes (f : ProbeRecord → ProbeRecord) (s : State) : MotionOnly s (mapProbes f s) := by
  constructor <;> rfl
theorem motionOnly_setProbe (k : Fin 16) (r : ProbeRecord) (s : State) : MotionOnly s (setProbe k r s) := by
  constructor <;> rfl
theorem motionOnly_setLid (p : Fin 8) (o : Bool) (s : State) : MotionOnly s (setLid p o s) := by constructor <;> rfl
theorem motionOnly_closeLidsBut (k : Fin 8 → Bool) (s : State) : MotionOnly s (closeLidsBut k s) := by
  constructor <;> rfl
theorem motionOnly_setLock (u : Bool) (s : State) : MotionOnly s (setLock u s) := by constructor <;> rfl
theorem motionOnly_enterPhase (ph : Phase) (t : Option Nat) (s : State) : MotionOnly s (enterPhase ph t s) := by
  constructor <;> rfl
theorem motionOnly_takeResult (r : ChangeResult) (s : State) : MotionOnly s (takeResult r s) := by constructor <;> rfl
theorem motionOnly_closeLids (s : State) : MotionOnly s (closeLids s) := motionOnly_closeLidsBut _ _

theorem motionOnly_setLocation (id : Nat) (l : Location) (s : State) : MotionOnly s (setLocation id l s) := by
  unfold setLocation; split
  · exact .refl s
  · exact motionOnly_mapProbes _ s

theorem motionOnly_mapHead (f : Segment → Segment) (s : State) : MotionOnly s (mapHead f s) := by
  unfold mapHead; split
  · exact .refl s
  · exact motionOnly_setQueue _ s

theorem motionOnly_formHead (s : State) : MotionOnly s (formHead s) := motionOnly_mapHead _ s
theorem motionOnly_unclaimHead (s : State) : MotionOnly s (unclaimHead s) := motionOnly_mapHead _ s

theorem motionOnly_flushBehind (s : State) : MotionOnly s (flushBehind s) := by
  unfold flushBehind; split
  · exact .refl s
  · exact motionOnly_setQueue _ s

theorem motionOnly_enqueue (seg : Segment) (s : State) : MotionOnly s (enqueue seg s) := by
  unfold enqueue
  refine MotionOnly.trans ?_ (motionOnly_formHead _)
  constructor <;> rfl

theorem motionOnly_placeReply (r : ReplyFrame) (s : State) : MotionOnly s (placeReply r s) := by
  unfold placeReply; split <;> (constructor <;> rfl)

/-! ### The zone unit -/

theorem motionOnly_holdWithdrawal (s : State) : MotionOnly s (holdWithdrawal s) := by constructor <;> rfl

theorem motionOnly_withdrawClaim (s : State) : MotionOnly s (withdrawClaim s) := by
  unfold withdrawClaim; split
  · split
    · exact motionOnly_holdWithdrawal s
    · refine MotionOnly.trans ?_ (motionOnly_unclaimHead _)
      refine MotionOnly.trans ?_ (motionOnly_setClaim _ _)
      constructor <;> rfl
  · exact .refl s

/-- What the end of the head can make of the own claim (R90, R155). -/
theorem headEndsClaim_cases (s : State) :
    headEndsClaim s = s ∨ headEndsClaim s = withdrawClaim s ∨
      ∃ zones, s.zones.claim = .queued zones false ∧ inFlight s .claim = true ∧
        headEndsClaim s = setClaim (.queued zones true) (holdWithdrawal s) := by
  unfold headEndsClaim; split
  · rename_i h
    split
    · exact .inr (.inr ⟨_, h, ‹_›, rfl⟩)
    · exact .inr (.inl rfl)
  · exact .inl rfl

theorem motionOnly_headEndsClaim (s : State) : MotionOnly s (headEndsClaim s) := by
  rcases headEndsClaim_cases s with h | h | ⟨x, -, -, h⟩ <;> rw [h]
  · exact .refl s
  · exact motionOnly_withdrawClaim s
  · exact (motionOnly_holdWithdrawal s).trans (motionOnly_setClaim _ _)

theorem motionOnly_overlapCheck (s : State) : MotionOnly s (overlapCheck s) := by
  unfold overlapCheck; split
  · split
    · exact .refl s
    · exact motionOnly_withdrawClaim s
  · exact .refl s

theorem motionOnly_makeClaim (x : ZoneSet) (s : State) : MotionOnly s (makeClaim x s) := by constructor <;> rfl

theorem motionOnly_claimSent (s : State) : MotionOnly s (claimSent s) := by
  unfold claimSent; split
  · exact (motionOnly_mapView _ s).trans (motionOnly_setClaim _ _)
  · exact .refl s

theorem motionOnly_failWindow (s : State) : MotionOnly s (failWindow s) := by
  unfold failWindow; split
  · exact (motionOnly_setClaim _ s).trans (motionOnly_unclaimHead _)
  · exact .refl s

theorem motionOnly_firmClaim (s : State) : MotionOnly s (firmClaim s) :=
  ((motionOnly_mapView _ s).trans (motionOnly_setClaim _ _)).trans (motionOnly_unclaimHead _)

theorem motionOnly_placeObjection (c : Nat) (x : ZoneSet) (s : State) : MotionOnly s (placeObjection c x s) := by
  unfold placeObjection; split
  · split
    · constructor <;> rfl
    · exact motionOnly_latchNotice _ s
  · exact motionOnly_latchNotice _ s

theorem motionOnly_hearClaim (c : Nat) (x : ZoneSet) (s : State) : MotionOnly s (hearClaim c x s) := by
  unfold hearClaim; dsimp only; split
  · exact motionOnly_mapView _ s
  · exact (motionOnly_mapView _ s).trans (motionOnly_placeObjection _ _ _)

theorem motionOnly_releaseZones (x : ZoneSet) (s : State) : MotionOnly s (releaseZones x s) := by
  unfold releaseZones; split
  · exact .refl s
  · constructor <;> rfl

theorem motionOnly_autoRelease (s : State) : MotionOnly s (autoRelease s) := motionOnly_releaseZones _ s

/-! ### The queue's head and the probe change -/

theorem motionOnly_removeHead (o : SegOutcome) (s : State) : MotionOnly s (removeHead o s) := by
  unfold removeHead; split
  · exact .refl s
  · refine MotionOnly.trans ?_ (motionOnly_formHead _)
    refine MotionOnly.trans ?_ (motionOnly_setQueue _ _)
    refine MotionOnly.trans ?_ (motionOnly_headEndsClaim _)
    split
    · exact motionOnly_latchNotice _ s
    · exact .refl s

/-- A deferred expiry lapses the permit: still motion only. -/
theorem motionOnly_takeDeferredExpiry (s : State) : MotionOnly s (takeDeferredExpiry s) := by
  unfold takeDeferredExpiry; split
  · exact .refl s
  · refine MotionOnly.trans ?_ (motionOnly_latchNotice _ _)
    refine MotionOnly.trans ?_ (motionOnly_mapChange _ _)
    constructor <;> rfl

theorem motionOnly_settleLocations (p : Bool) (s : State) : MotionOnly s (settleLocations p s) := by
  unfold settleLocations; dsimp only; split
  · exact motionOnly_setLocation _ _ s
  · split
    · exact .refl s
    · exact motionOnly_setLocation _ _ s
  · exact motionOnly_setLocation _ _ s
  · exact motionOnly_setLocation _ _ s
  · exact .refl s

theorem motionOnly_endChange (r : ChangeResult) (s : State) : MotionOnly s (endChange r s) :=
  ((motionOnly_setChange _ s).trans (motionOnly_latchNotice _ _)).trans (motionOnly_autoRelease _)

theorem motionOnly_finishChange (s : State) : MotionOnly s (finishChange s) := by
  unfold finishChange; dsimp only; split
  · split
    · exact .refl s
    · exact motionOnly_endChange _ s
  · exact .refl s

theorem motionOnly_failTaken (c : ChangeCause) (n : Nat) (s : State) : MotionOnly s (failTaken c n s) := by
  unfold failTaken; dsimp only
  refine MotionOnly.trans ?_ (motionOnly_takeDeferredExpiry _)
  refine MotionOnly.trans ?_ (motionOnly_takeResult _ _)
  refine (motionOnly_settleLocations false s).trans ?_
  split
  · exact .refl _
  · exact motionOnly_closeLids _

theorem motionOnly_abortTaken (c : ChangeCause) (p : Bool) (s : State) : MotionOnly s (abortTaken c p s) :=
  ((motionOnly_settleLocations p s).trans (motionOnly_closeLids _)).trans (motionOnly_takeResult _ _)

theorem motionOnly_failEnded (c : ChangeCause) (n : Nat) (s : State) : MotionOnly s (failEnded c n s) :=
  (motionOnly_failTaken c n s).trans (motionOnly_finishChange _)

theorem motionOnly_issueRack (k : SegKind) (pt : Vector Int 3) (v : Nat) (s : State) :
    MotionOnly s (issueRack k pt v s) := motionOnly_enqueue _ s

theorem motionOnly_issueTravel (p : Option (Fin 8)) (s : State) : MotionOnly s (issueTravel p s) := by
  unfold issueTravel; split
  · exact motionOnly_issueRack _ _ _ s
  · exact .refl s

theorem motionOnly_issueInsert (p : Option (Fin 8)) (s : State) : MotionOnly s (issueInsert p s) := by
  unfold issueInsert; split
  · exact motionOnly_issueRack _ _ _ s
  · exact .refl s

theorem motionOnly_issueBack (p : Option (Fin 8)) (s : State) : MotionOnly s (issueBack p s) := by
  unfold issueBack; split
  · exact motionOnly_issueRack _ _ _ s
  · exact .refl s

theorem motionOnly_commandLid (p : Option (Fin 8)) (o : Bool) (s : State) : MotionOnly s (commandLid p o s) := by
  unfold commandLid; split
  · exact motionOnly_setLid _ _ s
  · exact .refl s

theorem motionOnly_closePickEnded (s : State) : MotionOnly s (closePickEnded s) :=
  (motionOnly_takeResult _ s).trans (motionOnly_finishChange _)

theorem motionOnly_beginClosePick (s : State) : MotionOnly s (beginClosePick s) := by
  have h : MotionOnly s (enterPhase .closePick (some Config.lidTicks) (commandLid s.probes.change.pick false s)) :=
    (motionOnly_commandLid _ _ s).trans (motionOnly_enterPhase _ _ _)
  unfold beginClosePick; dsimp only; split
  · exact h.trans (motionOnly_closePickEnded _)
  · exact h

theorem motionOnly_beginWithdraw (s : State) : MotionOnly s (beginWithdraw s) :=
  (motionOnly_enterPhase _ _ s).trans (motionOnly_issueBack _ _)

theorem motionOnly_stretchEnded (p : Bool) (next : State → State) (hn : ∀ s, MotionOnly s (next s)) (s : State) :
    MotionOnly s (stretchEnded p next s) := by
  unfold stretchEnded; dsimp only; split
  · exact (motionOnly_takeDeferredExpiry s).trans (hn _)
  · exact ((motionOnly_abortTaken _ _ s).trans (motionOnly_takeDeferredExpiry _)).trans (motionOnly_finishChange _)

theorem motionOnly_beginIdentify (s : State) : MotionOnly s (beginIdentify s) := motionOnly_enterPhase _ _ s

theorem motionOnly_lockEnded (s : State) : MotionOnly s (lockEnded s) :=
  motionOnly_stretchEnded _ _ motionOnly_beginIdentify s

theorem motionOnly_beginLock (s : State) : MotionOnly s (beginLock s) := by
  have h : MotionOnly s (enterPhase .lock (some Config.lockTicks) (setLock false s)) :=
    (motionOnly_setLock _ s).trans (motionOnly_enterPhase _ _ _)
  unfold beginLock; dsimp only; split
  · exact h.trans (motionOnly_lockEnded _)
  · exact h

theorem motionOnly_beginEngage (s : State) : MotionOnly s (beginEngage s) :=
  (motionOnly_enterPhase _ _ s).trans (motionOnly_issueInsert _ _)

theorem motionOnly_beginOpenPick (s : State) : MotionOnly s (beginOpenPick s) := by
  have h : MotionOnly s (enterPhase .openPick (some Config.lidTicks) (commandLid s.probes.change.pick true s)) :=
    (motionOnly_commandLid _ _ s).trans (motionOnly_enterPhase _ _ _)
  unfold beginOpenPick; dsimp only; split
  · exact h.trans (motionOnly_beginEngage _)
  · exact h

theorem motionOnly_beginTravelPick (s : State) : MotionOnly s (beginTravelPick s) :=
  (motionOnly_enterPhase _ _ s).trans (motionOnly_issueTravel _ _)

theorem motionOnly_beginCloseDrop (s : State) : MotionOnly s (beginCloseDrop s) := by
  have h : MotionOnly s (enterPhase .closeDrop (some Config.lidTicks) (commandLid s.probes.change.drop false s)) :=
    (motionOnly_commandLid _ _ s).trans (motionOnly_enterPhase _ _ _)
  unfold beginCloseDrop; dsimp only; split
  · exact h.trans (motionOnly_beginTravelPick _)
  · exact h

theorem motionOnly_beginDetach (s : State) : MotionOnly s (beginDetach s) :=
  (motionOnly_enterPhase _ _ s).trans (motionOnly_issueBack _ _)

theorem motionOnly_beginUnlock (s : State) : MotionOnly s (beginUnlock s) := by
  have h : MotionOnly s (enterPhase .unlock (some Config.lockTicks) (setLock true s)) :=
    (motionOnly_setLock _ s).trans (motionOnly_enterPhase _ _ _)
  unfold beginUnlock; dsimp only; split
  · exact h.trans (motionOnly_beginDetach _)
  · exact h

theorem motionOnly_beginInsert (s : State) : MotionOnly s (beginInsert s) :=
  (motionOnly_enterPhase _ _ s).trans (motionOnly_issueInsert _ _)

theorem motionOnly_beginOpenDrop (s : State) : MotionOnly s (beginOpenDrop s) := by
  have h : MotionOnly s (enterPhase .openDrop (some Config.lidTicks) (commandLid s.probes.change.drop true s)) :=
    (motionOnly_commandLid _ _ s).trans (motionOnly_enterPhase _ _ _)
  unfold beginOpenDrop; dsimp only; split
  · exact h.trans (motionOnly_beginInsert _)
  · exact h

theorem motionOnly_beginTravelDrop (s : State) : MotionOnly s (beginTravelDrop s) :=
  (motionOnly_enterPhase _ _ s).trans (motionOnly_issueTravel _ _)

theorem motionOnly_rackArrived (s : State) : MotionOnly s (rackArrived s) := by
  unfold rackArrived; extract_lets s1
  have h : MotionOnly s s1 := motionOnly_mapChange _ s
  refine h.trans ?_
  split
  · exact motionOnly_beginOpenDrop _
  · exact motionOnly_beginUnlock _
  · exact motionOnly_beginOpenPick _
  · exact motionOnly_beginLock _
  · split
    · split
      · exact motionOnly_failEnded _ _ _
      · exact motionOnly_beginClosePick _
    · exact .refl _
  · exact .refl _

theorem motionOnly_afterRackEnd (o : SegOutcome) (s : State) : MotionOnly s (afterRackEnd o s) := by
  unfold afterRackEnd; split
  · exact motionOnly_finishChange s
  · cases o <;> first
      | exact motionOnly_rackArrived s
      | exact motionOnly_failEnded _ _ s
      | exact .refl s

theorem motionOnly_detachCheck (s : State) : MotionOnly s (detachCheck s) := by
  unfold detachCheck; dsimp only; split
  · exact motionOnly_failEnded _ _ s
  · split
    · split
      · exact (motionOnly_setLocation _ _ s).trans (motionOnly_stretchEnded _ _ motionOnly_beginCloseDrop _)
      · exact motionOnly_failEnded _ _ s
    · exact .refl s

theorem motionOnly_identifyCheck (s : State) : MotionOnly s (identifyCheck s) := by
  unfold identifyCheck; dsimp only; split
  · exact (motionOnly_setLocation _ _ s).trans (motionOnly_beginWithdraw _)
  · split
    · exact motionOnly_failEnded _ _ s
    · exact (motionOnly_setLocation _ _ s).trans (motionOnly_failEnded _ _ _)

theorem motionOnly_identityRead (s : State) : MotionOnly s (identityRead s) := by
  unfold identityRead; dsimp only; split
  · split
    · exact motionOnly_detachCheck s
    · exact motionOnly_identifyCheck s
    · exact .refl s
  · exact .refl s

theorem motionOnly_inputsChanged (s : State) : MotionOnly s (inputsChanged s) := by
  unfold inputsChanged; dsimp only; split
  · split
    · split
      · exact motionOnly_beginInsert s
      · exact .refl s
    · split
      · exact motionOnly_beginDetach s
      · exact .refl s
    · split
      · exact motionOnly_beginTravelPick s
      · exact .refl s
    · split
      · exact motionOnly_beginEngage s
      · exact .refl s
    · split
      · exact motionOnly_lockEnded s
      · exact .refl s
    · split
      · exact motionOnly_closePickEnded s
      · exact .refl s
    · exact .refl s
  · exact .refl s

theorem motionOnly_acceptChange (n : Nat) (d : Option (Fin 8)) (p : Fin 8) (s : State) :
    MotionOnly s (acceptChange n d p s) := by
  unfold acceptChange; dsimp only
  split
  · exact ((motionOnly_setChange _ s).trans (motionOnly_closeLidsBut _ _)).trans (motionOnly_beginTravelDrop _)
  · exact ((((motionOnly_setChange _ s).trans (motionOnly_closeLidsBut _ _)).trans (motionOnly_mapProbes _ _)).trans
      (motionOnly_setLock _ _)).trans (motionOnly_beginTravelPick _)

/-! ### Ends and stops -/

theorem motionOnly_endHead (o : SegOutcome) (s : State) : MotionOnly s (endHead o s) := by
  unfold endHead; split
  · exact .refl s
  · dsimp only
    refine MotionOnly.trans ?_ (motionOnly_autoRelease _)
    split
    · exact (motionOnly_removeHead o s).trans (motionOnly_afterRackEnd o _)
    · exact motionOnly_removeHead o s

theorem motionOnly_controlledStop (o : SegOutcome) (s : State) : MotionOnly s (controlledStop o s) := by
  unfold controlledStop; split
  · exact .refl s
  · dsimp only
    have h : MotionOnly s (if o = .touched then s else flushBehind s) := by
      split
      · exact .refl s
      · exact motionOnly_flushBehind s
    refine h.trans ?_
    generalize (if o = .touched then s else flushBehind s) = s1
    split
    · split
      · exact .refl _
      · exact motionOnly_autoRelease _
    · split
      · exact motionOnly_endHead _ _
      · split
        · exact motionOnly_mapHead _ _
        · exact (motionOnly_mapHead _ _).trans (motionOnly_autoRelease _)
    all_goals exact motionOnly_endHead _ _

theorem motionOnly_endAtOnce (o : SegOutcome) (s : State) : MotionOnly s (endAtOnce o s) :=
  (motionOnly_flushBehind s).trans (motionOnly_endHead o _)

theorem motionOnly_zonesLost (x : ZoneSet) (s : State) : MotionOnly s (zonesLost x s) := by
  unfold zonesLost; split
  · exact .refl s
  · split
    · exact motionOnly_controlledStop _ s
    · exact .refl s

theorem motionOnly_failPhase (c : ChangeCause) (n : Nat) (s : State) : MotionOnly s (failPhase c n s) := by
  unfold failPhase; dsimp only
  refine MotionOnly.trans ?_ (motionOnly_finishChange _)
  refine (motionOnly_failTaken c n s).trans ?_
  split
  · exact motionOnly_controlledStop _ _
  · exact .refl _

theorem motionOnly_changePowerLost (c : ChangeCause) (s : State) : MotionOnly s (changePowerLost c s) := by
  unfold changePowerLost; dsimp only; split
  · have h : MotionOnly s
        (setLocation s.probes.change.target .unknown (setLocation s.probes.change.oldId .unknown s)) :=
      (motionOnly_setLocation _ _ s).trans (motionOnly_setLocation _ _ _)
    refine h.trans ?_
    split
    · exact .refl _
    · exact (motionOnly_takeResult _ _).trans (motionOnly_takeDeferredExpiry _)
  · exact .refl s

theorem motionOnly_abortChange (c : ChangeCause) (s : State) : MotionOnly s (abortChange c s) := by
  unfold abortChange; dsimp only; split
  · split
    · split
      · exact .refl s
      · exact motionOnly_mapChange _ s
    · exact motionOnly_abortTaken _ _ s
  · exact .refl s

theorem motionOnly_permitExpire (h : Bool) (s : State) : MotionOnly s (permitExpire h s) := by
  unfold permitExpire; dsimp only; split
  · exact .refl s
  · split
    · refine MotionOnly.trans ?_ (motionOnly_mapChange _ _)
      constructor <;> rfl
    · refine MotionOnly.trans ?_ (motionOnly_finishChange _)
      refine MotionOnly.trans ?_ (motionOnly_controlledStop _ _)
      have k : MotionOnly s (latchNotice (.permitLapsed h)
          { s with motion := { s.motion with permit := .lapsed, permitTimer := none } }) := by
        constructor <;> rfl
      refine k.trans ?_
      split
      · exact motionOnly_abortTaken _ _ _
      · exact .refl _

theorem motionOnly_permitRenew (s : State) : MotionOnly s (permitRenew s) := by
  unfold permitRenew; dsimp only; split
  · constructor <;> rfl
  · constructor <;> rfl

theorem motionOnly_haltMotion (c : ChangeCause) (s : State) : MotionOnly s (haltMotion c s) := by
  unfold haltMotion; split
  · exact motionOnly_abortChange c s
  · exact (((motionOnly_abortChange c s).trans (motionOnly_withdrawClaim _)).trans
      (motionOnly_controlledStop _ _)).trans (motionOnly_finishChange _)

theorem motionOnly_evaluateHead (s : State) : MotionOnly s (evaluateHead s) := by
  unfold evaluateHead; split
  · exact .refl s
  · dsimp only; split
    · split
      · split
        · exact motionOnly_setQueue _ s
        · exact motionOnly_setQueue _ s
      · split
        · exact motionOnly_setQueue _ s
        · split
          · split
            · exact (motionOnly_setQueue _ s).trans (motionOnly_makeClaim _ _)
            · exact motionOnly_setQueue _ s
          · exact .refl s
    · exact .refl s

end Sys2Proof.Machine
end

