-- ==== Sys2Proof/Laws/Step.lean ====
section
/-! SUPPORT. What the passing of time, the end of a step, and the taking of a frame do, each said once. -/

namespace Sys2Proof.Machine

/-! ### Time -/

/-- The tick counter shows the tick at which a command was taken (R1, log entry 1). -/
theorem advance_tick (t : Tick) (s : State) : (advance t s).tick = t := by
  have h : BitVec.ofNat 32 (s.uptime + (t - BitVec.ofNat 32 s.uptime).toNat) = t := by
    rw [BitVec.ofNat_add, BitVec.ofNat_toNat, BitVec.setWidth_eq]
    rw [BitVec.add_comm, BitVec.sub_add_cancel]
  exact h

/-- The passing of time leaves everything on the line but its state. -/
theorem Line.progress_eq (now : Nat) (l : Line) : l.progress now = { l with state := (l.progress now).state } := by
  unfold Line.progress; split
  · split <;> rfl
  · split <;> rfl
  · rfl

@[simp] theorem Line.progress_number (now : Nat) (l : Line) : (l.progress now).number = l.number := by
  rw [Line.progress_eq]
@[simp] theorem Line.progress_fast (now : Nat) (l : Line) : (l.progress now).fast = l.fast := by
  rw [Line.progress_eq]
@[simp] theorem Line.progress_strapFault (now : Nat) (l : Line) : (l.progress now).strapFault = l.strapFault := by
  rw [Line.progress_eq]
@[simp] theorem Line.progress_failures (now : Nat) (l : Line) : (l.progress now).failures = l.failures := by
  rw [Line.progress_eq]
@[simp] theorem Line.progress_mutes (now : Nat) (l : Line) : (l.progress now).mutes = l.mutes := by
  rw [Line.progress_eq]
@[simp] theorem Line.progress_muteStart (now : Nat) (l : Line) : (l.progress now).muteStart = l.muteStart := by
  rw [Line.progress_eq]
@[simp] theorem Line.progress_muteTimer (now : Nat) (l : Line) : (l.progress now).muteTimer = l.muteTimer := by
  rw [Line.progress_eq]
@[simp] theorem Line.progress_quiet (now : Nat) (l : Line) : (l.progress now).quiet = l.quiet := by
  rw [Line.progress_eq]
@[simp] theorem Line.progress_lastSof (now : Nat) (l : Line) : (l.progress now).lastSof = l.lastSof := by
  rw [Line.progress_eq]
@[simp] theorem Line.progress_idleAt (now : Nat) (l : Line) : (l.progress now).idleAt = l.idleAt := by
  rw [Line.progress_eq]
@[simp] theorem Line.progress_attempt (now : Nat) (l : Line) : (l.progress now).attempt = l.attempt := by
  rw [Line.progress_eq]
@[simp] theorem Line.progress_acked (now : Nat) (l : Line) : (l.progress now).acked = l.acked := by
  rw [Line.progress_eq]

/-- Time moves the line only between joined states, so OFFLINE, MUTE and LISTEN stay. -/
theorem Line.progress_joined (now : Nat) (l : Line) : (l.progress now).state.joined = l.state.joined := by
  unfold Line.progress; split
  · split
    · rename_i h; simp [h.1, LineState.joined]
    · rfl
  · split
    · rename_i h; rcases h.2 with h | h <;> simp [h, LineState.joined]
    · rfl
  · rfl

/-- A state that is not joined is not changed by time. -/
theorem Line.progress_state_of_not_joined (now : Nat) (l : Line) (h : l.state.joined = false) :
    (l.progress now).state = l.state := by
  unfold Line.progress; split
  · split
    · rename_i k; rw [k.1] at h; simp [LineState.joined] at h
    · rfl
  · split
    · rename_i k; rcases k.2 with k | k <;> (rw [k] at h; simp [LineState.joined] at h)
    · rfl
  · rfl

/-- Time neither enters nor leaves a state that is not joined. -/
theorem Line.progress_state_eq_iff (now : Nat) (l : Line) (x : LineState) (hx : x.joined = false) :
    (l.progress now).state = x ↔ l.state = x := by
  cases h : l.state.joined
  · rw [Line.progress_state_of_not_joined now l h]
  · have k := Line.progress_joined now l
    rw [h] at k
    constructor
    · intro e; rw [e, hx] at k; cases k
    · intro e; rw [e, hx] at h; cases h

/-- Two line states of which both or neither are OFFLINE. -/
theorem LineState.bne_offline {a b : LineState} (h : a = .offline ↔ b = .offline) :
    (a != .offline) = (b != .offline) := by
  revert h; cases a <;> cases b <;> decide

@[simp] theorem advance_joined (t : Tick) (s : State) : joined (advance t s) = joined s :=
  Line.progress_joined _ _

@[simp] theorem advance_ampOn (t : Tick) (s : State) : ampOn (advance t s) = ampOn s := by
  have h := Line.progress_state_eq_iff (s.uptime + (t - s.tick).toNat) s.line .offline rfl
  simp only [ampOn, advance_inReset, advance_station, advance_pins, advance_gate, advance_line,
    LineState.bne_offline h]

/-! ### The end of a step -/

theorem motionOnly_loadTouch (s : State) : MotionOnly s (loadTouch s) := by
  unfold loadTouch; split
  · split
    · constructor <;> rfl
    · exact .refl s
  · exact .refl s

theorem motionOnly_loadNotice (s : State) : MotionOnly s (loadNotice s) := by
  unfold loadNotice; split
  · split
    · split
      · constructor <;> rfl
      · exact .refl s
    · exact .refl s
  · exact .refl s

/-- Loading the POINT slot changes that slot and the state of the oldest record only (R123). -/
theorem loadPoint_eq (s : State) :
    loadPoint s = { s with
      capture := { s.capture with points := (loadPoint s).capture.points }
      slots := { s.slots with point := (loadPoint s).slots.point } } := by
  unfold loadPoint; split
  · split
    · split <;> rfl
    · rfl
  · rfl

/-- Loading the TOUCH slot changes that slot only (R116). -/
theorem loadTouch_eq (s : State) : loadTouch s = { s with slots := { s.slots with touch := (loadTouch s).slots.touch } } := by
  unfold loadTouch; split
  · split <;> rfl
  · rfl

/-- Loading the NOTICE slot changes that slot and the latches only (R179). -/
theorem loadNotice_eq (s : State) :
    loadNotice s = { s with
      notices := (loadNotice s).notices
      slots := { s.slots with notice := (loadNotice s).slots.notice } } := by
  unfold loadNotice; split
  · split
    · split <;> rfl
    · rfl
  · rfl

/-- The evaluation of the head changes the head, the own claim record and its slot only (R65, R66). -/
theorem evaluateHead_eq (s : State) :
    evaluateHead s = { s with
      motion := { s.motion with queue := (evaluateHead s).motion.queue }
      zones := { s.zones with claim := (evaluateHead s).zones.claim }
      slots := { s.slots with claim := (evaluateHead s).slots.claim } } := by
  unfold evaluateHead; split
  · rfl
  · dsimp only; split
    · split
      · split <;> rfl
      · split
        · rfl
        · split
          · split <;> rfl
          · rfl
    · rfl

/-- What a step ends with changes the head, the own claim, four slots, the state of the oldest point and the latches
only. -/
theorem finish_eq (s : State) :
    finish s = { s with
      motion := { s.motion with queue := (finish s).motion.queue }
      zones := { s.zones with claim := (finish s).zones.claim }
      capture := { s.capture with points := (finish s).capture.points }
      slots := { s.slots with
        claim := (finish s).slots.claim, touch := (finish s).slots.touch, point := (finish s).slots.point,
        notice := (finish s).slots.notice }
      notices := (finish s).notices } := by
  unfold finish; split
  · rfl
  · rw [loadNotice_eq, loadPoint_eq, loadTouch_eq, evaluateHead_eq]

@[simp] theorem finish_uptime (s : State) : (finish s).uptime = s.uptime := by rw [finish_eq]
@[simp] theorem finish_freeIx (s : State) : (finish s).freeIx = s.freeIx := by rw [finish_eq]
@[simp] theorem finish_inReset (s : State) : (finish s).inReset = s.inReset := by rw [finish_eq]
@[simp] theorem finish_pins (s : State) : (finish s).pins = s.pins := by rw [finish_eq]
@[simp] theorem finish_axisCount (s : State) : (finish s).axisCount = s.axisCount := by rw [finish_eq]
@[simp] theorem finish_axes (s : State) : (finish s).axes = s.axes := by rw [finish_eq]
@[simp] theorem finish_latch (s : State) : (finish s).latch = s.latch := by rw [finish_eq]
@[simp] theorem finish_faultPending (s : State) : (finish s).faultPending = s.faultPending := by rw [finish_eq]
@[simp] theorem finish_gate (s : State) : (finish s).gate = s.gate := by rw [finish_eq]
@[simp] theorem finish_thermal (s : State) : (finish s).thermal = s.thermal := by rw [finish_eq]
@[simp] theorem finish_probes (s : State) : (finish s).probes = s.probes := by rw [finish_eq]
@[simp] theorem finish_line (s : State) : (finish s).line = s.line := by rw [finish_eq]
@[simp] theorem finish_overrun (s : State) : (finish s).overrun = s.overrun := by rw [finish_eq]
@[simp] theorem finish_overrunSince (s : State) : (finish s).overrunSince = s.overrunSince := by rw [finish_eq]
@[simp] theorem finish_station (s : State) : (finish s).station = s.station := by rw [finish_eq]
@[simp] theorem finish_pending (s : State) : (finish s).pending = s.pending := by rw [finish_eq]

@[simp] theorem finish_view (s : State) : (finish s).zones.view = s.zones.view := by rw [finish_eq]
@[simp] theorem finish_counter (s : State) : (finish s).motion.counter = s.motion.counter := by rw [finish_eq]
@[simp] theorem finish_permit (s : State) : (finish s).motion.permit = s.motion.permit := by rw [finish_eq]
@[simp] theorem finish_permitTimer (s : State) : (finish s).motion.permitTimer = s.motion.permitTimer := by
  rw [finish_eq]
@[simp] theorem finish_boundaries (s : State) : (finish s).zones.boundaries = s.zones.boundaries := by rw [finish_eq]
@[simp] theorem finish_requests (s : State) : (finish s).capture.requests = s.capture.requests := by rw [finish_eq]
@[simp] theorem finish_reseat (s : State) : (finish s).capture.reseat = s.capture.reseat := by rw [finish_eq]
@[simp] theorem finish_replies (s : State) : (finish s).slots.replies = s.slots.replies := by rw [finish_eq]

/-- The amplifiers are as the step left them. -/
@[simp] theorem finish_ampOn (s : State) : ampOn (finish s) = ampOn s := by
  simp only [ampOn, finish_inReset, finish_station, finish_pins, finish_gate, finish_line]

/-! ### Taking a command -/

/-- Out of reset a command with body `body` comes to the end of a step of `body`. -/
theorem timed_awake {t : Tick} {body : State → State} {s : State} (h : s.inReset = false) :
    timed t body s = finish (body (advance t s)) := by
  simp [timed, h]

/-- While a reset lasts nothing but time passes (log entry 11). -/
theorem timed_inReset {t : Tick} {body : State → State} {s : State} (h : s.inReset = true) :
    timed t body s = advance t s := by
  simp [timed, h]

/-- The station can follow a frame iff it could before time passed. -/
@[simp] theorem advance_followsFrames (t : Tick) (s : State) : followsFrames (advance t s) = followsFrames s := by
  have h := Line.progress_state_eq_iff (s.uptime + (t - s.tick).toNat) s.line .offline rfl
  simp only [followsFrames, advance_line, Line.progress_attempt, LineState.bne_offline h]

/-- A frame that the station hears comes to its effect on the state once heard, and the end of the step. -/
theorem receive_hears {kind : Nat} {f : RxFrame} {body : State → State} {s : State} (h : Hears kind f s) :
    receive kind f body s = settled (body (heard f s)) := by
  have hf : followsFrames (advance f.tick s) = true := by
    rw [advance_followsFrames]
    simp [followsFrames, h.online, h.noAttempt]
  have hn : ¬ f.sender.toNat = (advance f.tick s).line.number := by simpa using h.notOwn
  have hi : interpreted kind f = true := by
    have h1 := h.station.1
    have h2 := h.station.2
    have e0 : (f.sender != 0) = true := by
      rw [bne_iff_ne]; rintro e; rw [e] at h1; exact absurd h1 (by decide)
    have e1 : (f.sender != 31) = true := by
      rw [bne_iff_ne]; rintro e; rw [e] at h2; exact absurd h2 (by decide)
    simp only [interpreted, h.cls, e0, e1, beq_self_eq_true, Bool.and_true]
  unfold receive
  rw [timed_awake h.awake]
  simp only [hf, hn, hi, if_true, if_false]
  rfl

/-- A command that reaches its answer, answered. -/
theorem command_answered {kind : Nat} {access : State → Nat → Option ReplyCode} {run : RxFrame → State → Answer}
    {f : RxFrame} {s : State} (h : Commands kind f s) :
    command kind access run f s = settled (answer kind f.sender.toNat access (run f) (heard f s)) := by
  have hn : (heard f s).line.number = s.line.number := by
    unfold heard frameTaken; dsimp only; split <;> simp
  have hr : (heard f s).slots.replies = s.slots.replies := by
    unfold heard frameTaken; dsimp only; split <;> simp
  unfold command
  rw [receive_hears h.toHears]
  have ha : addressed (heard f s) (byteAt f.payload 0) = true := by
    unfold addressed
    rw [hn]
    rcases h.addressed with e | e <;> simp [e]
  have hs : repliesHeld (heard f s) = false := by
    unfold repliesHeld
    rw [hr]
    rcases h.slot with e | e <;> simp [e]
  simp only [h.payload, ha, hs, if_false, Bool.not_true, Bool.false_eq_true]

/-- A command that the station may not give is refused and changes nothing else (R188). -/
theorem command_refused {kind : Nat} {access : State → Nat → Option ReplyCode} {run : RxFrame → State → Answer}
    {f : RxFrame} {s : State} {code : ReplyCode} (h : Commands kind f s)
    (ha : access (heard f s) f.sender.toNat = some code) :
    command kind access run f s = answered kind f code 0 (heard f s) := by
  rw [command_answered h]; simp only [answer, ha]; rfl

/-- A command that the station may give comes to what its meaning answers. -/
theorem command_run {kind : Nat} {access : State → Nat → Option ReplyCode} {run : RxFrame → State → Answer}
    {f : RxFrame} {s : State} (h : Commands kind f s) (ha : access (heard f s) f.sender.toNat = none) :
    command kind access run f s =
      answered kind f (run f (heard f s)).code (run f (heard f s)).detail (run f (heard f s)).after := by
  rw [command_answered h]; simp only [answer, ha]; rfl

end Sys2Proof.Machine
end

