-- ==== Sys2Proof/WellFormed.lean ====
section
/-! DEFINITION. What a command must be to describe an event that can occur: a frame that a receiver can have taken, bits that
show a receive error, and a payload that belongs to its row (log entry 10). The meanings are total and do not ask it. -/

namespace Sys2Proof

/-- A frame that can have been taken: its length is one the length field carries (R150), at least the delimiter and the
end field were read recessive (R151), and it ended after its start of frame. -/
def RxFrame.wellFormed (f : RxFrame) : Bool :=
  decide (f.payload.length ≤ 28) && decide (7 ≤ f.quiet) && Machine.Tick.later f.tick f.sof

/-- The payload of a MOVE row carries the kind of the row (spec/09, MOVE kind); a MOVE of no kind is a MOVE_POSITION. -/
def moveRow (probe : Bool) (f : RxFrame) : Bool := (Machine.byteAt f.payload 1 == 1) == probe

/-- The payload of a QUERY row carries the section of the row; a QUERY of no section is a QUERY_STATION. -/
def queryRow (sect : Nat) (f : RxFrame) : Bool :=
  Machine.byteAt f.payload 1 == sect || (sect == 0 && decide (6 < Machine.byteAt f.payload 1))

/-- The bits read can show a receive error, or a dominant bit where no frame starts: one of them is dominant (R151, R152;
log entry 49). -/
def errorBits (bits : List Bool) : Bool := bits.any fun b => !b

/-- A command that describes an event that can occur. -/
def Instr.wellFormed (i : Instr) : Bool :=
  match i with
  | .fullReset _ _ | .resetEnd _ | .scaleTransition _ _ _ _ | .endOfTravelInput _ _ _ _ | .servoSample _
  | .settleTimeout _ | .referenceMark _ _ | .driveEnableFall _ | .driveEnableRise _ | .triggerDeflected _
  | .triggerSeated _ | .reseatTimerExpiry _ | .sensorSlotEnd _ _ | .peerTimerExpiry _ | .permitTimerExpiry _
  | .companionTimerExpiry _ _ | .claimWindowExpiry _ | .tentativeHoldExpiry _ | .lockStateInput _ _ _
  | .lidStateInput _ _ _ _ | .presenceInput _ _ _ | .identityReadStart _ | .identityReadComplete _ _
  | .lidTimerExpiry _ | .lockTimerExpiry _ | .identifyTimerExpiry _ | .muteTimerExpiry _ | .listenQuietCount _
  | .attemptStart _ | .arbitrationLost _ | .attemptSuccess _ => true
  | .attemptFailed quiet _ => decide (quiet ≤ 7)
  | .frameReceiveError bits sof tick => errorBits bits && Machine.Tick.later tick sof
  | .duplicateNumber sof tick => Machine.Tick.later tick sof
  | .movePosition f => f.wellFormed && moveRow false f
  | .moveProbe f => f.wellFormed && moveRow true f
  | .queryStation f => f.wellFormed && queryRow 0 f
  | .queryAxis f => f.wellFormed && queryRow 1 f
  | .queryZones f => f.wellFormed && queryRow 2 f
  | .queryChannel f => f.wellFormed && queryRow 3 f
  | .queryProbe f => f.wellFormed && queryRow 4 f
  | .queryPort f => f.wellFormed && queryRow 5 f
  | .queryPoints f => f.wellFormed && queryRow 6 f
  | .halt f | .touchReceived f | .zoneObjectReceived f | .helloReceived f | .zoneReleaseReceived f
  | .zoneClaimReceived f | .companionReceived f | .permit f | .tempReceived f | .pointReceived f | .replyReceived f
  | .statusReceived f | .noticeReceived f | .reference f | .clear f | .probeChange f | .probeSet f | .datum f | .arm f
  | .disarm f | .restart f | .setupStation f | .setupAxis f | .setupScale f | .setupMap f | .setupZones f
  | .setupThermal f | .setupLinks f | .setupRack f | .unusedKindFrame f => f.wellFormed

end Sys2Proof
end

