-- ==== Sys2Proof/Tests/Slice0.lean ====
section
/-! SUPPORT. Tests: the refusals of `WellFormed`, worked examples of the spec, and for every statement of
`Sys2Proof/Certificates/Slice0/Obligations.lean` with hypotheses a state and operands that meet them, clause by clause. The
expected values stand in the worked tables of spec/ named at each test. -/

namespace Sys2Proof.Tests

open Sys2Proof.Machine

/-! ### Helpers -/

/-- A frame of class `cls` from `sender`, its start of frame at tick 10 and its end at tick 600. -/
def fr (cls sender : Nat) (p : List Byte) : RxFrame :=
  { cls := BitVec.ofNat 3 cls, sender := BitVec.ofNat 5 sender, payload := p, sof := 10, tick := 600 }

/-- What `Hears` asks, as a Bool. -/
def hearsOk (k : Nat) (f : RxFrame) (s : State) : Bool :=
  !s.inReset && s.line.state != .offline && s.line.attempt.isNone && f.sender.toNat != s.line.number &&
    decide (1 ≤ f.sender.toNat) && decide (f.sender.toNat ≤ 30) && classOf k == some f.cls.toNat

theorem hears_of {k : Nat} {f : RxFrame} {s : State} (h : hearsOk k f s = true) : Hears k f s := by
  simp only [hearsOk, Bool.and_eq_true, Bool.not_eq_true', bne_iff_ne, decide_eq_true_eq, beq_iff_eq,
    Option.isNone_iff_eq_none] at h
  obtain ⟨⟨⟨⟨⟨⟨a, b⟩, c⟩, d⟩, e⟩, g⟩, i⟩ := h
  exact ⟨a, b, c, d, ⟨e, g⟩, i⟩

/-- What `Commands` asks, as a Bool. -/
def cmdOk (k : Nat) (f : RxFrame) (s : State) : Bool :=
  hearsOk k f s && !f.payload.isEmpty && (byteAt f.payload 0 == s.line.number || byteAt f.payload 0 == 0) &&
    ((s.slots.replies.get 0).isNone || (s.slots.replies.get 1).isNone)

theorem commands_of {k : Nat} {f : RxFrame} {s : State} (h : cmdOk k f s = true) : Commands k f s := by
  simp only [cmdOk, Bool.and_eq_true, Bool.or_eq_true, Bool.not_eq_true', beq_iff_eq,
    Option.isNone_iff_eq_none] at h
  obtain ⟨⟨⟨a, b⟩, c⟩, d⟩ := h
  exact ⟨hears_of a, by rintro e; simp [e] at b, c, d⟩

/-- Station 3 joined, in SETUP. -/
def s0 : State := { State.reset with line := { State.reset.line with state := .idle } }

/-- An axis set up and referenced. -/
def ax (role : Role) : Axis :=
  { Axis.afterReset with
    referenced := true
    record :=
      { setUp := true, kind := .linear, role := role, softMin := -1000000, softMax := 1000000, maxSpeed := 1000,
        followLimit := 1000, window := 10, refValue := 100, searchNeg := false, refSpeed := 50 } }

/-- Station 3 in RUN under station 1: A0 the zone axis, A2 the reach axis, permit VALID to tick 5,000,000. -/
def s1 : State :=
  { s0 with
    axes := #v[ax .zoneAxis, ax .other, ax .reachAxis, Axis.afterReset]
    station := { s0.station with
      mode := .run, controller := 1, permitTime := 500, accel := 10, stopDecel := 20, probeCap := 200 }
    motion := { s0.motion with permit := .valid, permitTimer := some 5000000 } }

/-- A segment of the room under way: 1,000 counts of path, one done, speed 1/4 count. -/
def sg (kind : SegKind) (state : SegState) : Segment :=
  { newSegment s1 .room kind 0 #v[0, 1000, 0, 0] none 100 with
    needed := some 0, state := state
    traj := { Trajectory.none with len := 1000, pathSpeed := 100, u := 16384, s := 65536 } }

/-- A state with these segments queued. -/
def withQ (q : List Segment) (s : State) : State := setQueue q s

/-- A probe record. -/
def pr (id : Nat) (home : Fin 8) (l : Location) : ProbeRecord :=
  { id := id, home := some home, location := l, tip := #v[1, 2, 3], allowance := 500, qualified := true, touches := 5 }

/-- Probe 7 on the head, probe 11 in port 5; the head LOCKED, the trigger READY. -/
def s2 : State :=
  { s1 with
    probes := { s1.probes with
      table := (s1.probes.table.set 3 (pr 7 2 .onHead)).set 4 (pr 11 5 .inPort)
      identity := 7, reading := false }
    pins := { s1.pins with locked := true }
    capture := { s1.capture with reseat := .ready, reseatTimer := none } }

/-- A change from probe 7 to probe 11 in phase `ph`, its timer at tick 100. -/
def chg (ph : Phase) : State :=
  { s2 with probes := { s2.probes with change := { Change.idle none with
      active := true, target := 11, oldId := 7, drop := some 2, pick := some 5, phase := some ph, timer := some 100 } } }

/-- A frame of kind `k` in its class. -/
def fk (k sender : Nat) (p : List Byte) : RxFrame := fr ((classOf k).getD 0) sender p

/-- The state that a command answers. -/
def after (i : Instr) (s : State) : State :=
  match exec i s with
  | .next u => u
  | _ => s

/-- `s1` with this axis in place of axis `i`. -/
def s1a (i : Fin 4) (f : Axis → Axis) : State := s1.setAxis i (f (s1.axis i))

/-- A state with drive-enable at `high`, motion `g`. -/
def driven (high : Bool) (g : Gate) (s : State) : State :=
  { s with pins := { s.pins with driveEnable := high }, gate := g }

/-- A state with its two reply slots held. -/
def full (s : State) : State :=
  let r : ReplyFrame := { dest := 1, kind := 9, code := .done, detail := 0 }
  placeReply r (placeReply r s)

/-- A state with the line in this state. -/
def onLine (l : LineState) (s : State) : State := { s with line := { s.line with state := l } }

/-- A state with a zone view made of these entries. -/
def viewed (v : List (Fin 16 × Hold)) (s : State) : State :=
  { s with zones := { s.zones with view := v.foldl (fun w e => w.set e.1.val (some e.2)) s.zones.view } }

/-- Four bytes of a payload. -/
def b4 (x : Int) : List Byte := putS32 x

/-! ### WellFormed refuses what no event is (log entry 10) -/

theorem test_wf_payload : (Instr.halt (fr 0 1 (List.replicate 29 0))).wellFormed = false := by decide
theorem test_wf_quiet : (Instr.halt { fr 0 1 [3] with quiet := 6 }).wellFormed = false := by decide
theorem test_wf_tick : (Instr.halt { fr 0 1 [3] with tick := 10 }).wellFormed = false := by decide
theorem test_wf_move_row : (Instr.movePosition (fr 5 1 [3, 1])).wellFormed = false := by decide
theorem test_wf_probe_row : (Instr.moveProbe (fr 5 1 [3, 0])).wellFormed = false := by decide
theorem test_wf_query_row : (Instr.queryAxis (fr 5 1 [3, 2, 0])).wellFormed = false := by decide
theorem test_wf_error_bits : (Instr.frameReceiveError [true, true] 10 20).wellFormed = false := by decide
theorem test_wf_duplicate_tick : (Instr.duplicateNumber 20 20).wellFormed = false := by decide
theorem test_wf_failed_quiet : (Instr.attemptFailed 8 20).wellFormed = false := by decide
theorem test_wf_accepts : (Instr.frameReceiveError (List.replicate 7 false) 10 20).wellFormed = true ∧
    (Instr.halt (fr 0 1 [3])).wellFormed = true ∧ (Instr.queryPoints (fr 5 1 [3, 6, 0])).wellFormed = true := by decide

/-! ### No word spells a command -/

theorem test_decode_none : decodeTableWord 16 0x1234 = none ∧ s0.withFetchWord 16 0x1234 = s0 := ⟨rfl, rfl⟩

/-! ### Hypotheses of the statements, met clause by clause -/

theorem test_witness_StepTakesTheFrontCommand : State.reset.pending = [] ∧ step State.reset = .next State.reset ∧
    ∃ t, step { s0 with pending := [.servoSample 7] } = .next t := ⟨rfl, rfl, _, rfl⟩

theorem test_witness_CommandTimePasses :
    let s : State := { onLine .receiving s0 with line := { (onLine .receiving s0).line with idleAt := some 5 } }
    (advance 5 s).line.state ≠ s.line.state ∧ (advance 4 s).line.state = s.line.state ∧
      (advance 4 { s with uptime := 4294967295 }).uptime = 4294967300 := by decide

theorem test_witness_TicksCompareModulo : Tick.later 2147483647 0 = true ∧ Tick.later 2147483648 0 = false ∧
    Tick.earlier 2147483648 0 = true ∧ Tick.later 0 4294967295 = true ∧ Tick.earlier 0 1 = true := by decide

/-- R2: the worked halves round away from zero, the shift toward minus infinity. -/
theorem test_witness_DivisionsRoundHalfAwayFromZero : 0 < 1 ∧ roundDiv 5 2 = 3 ∧ roundDiv (-5) 2 = -3 ∧
    roundDiv 4 3 = 1 ∧ (-37 : Int) >>> 2 = -10 ∧ isqrt 99 = 9 ∧ isqrt 100 = 10 := by decide

theorem test_witness_ScaleTransitionCountsOrFaults :
    let lead : State := s1a 0 fun a => { a with position := 2147483646 }
    let top : State := s1a 0 fun a => { a with position := 2147483647 }
    s1.inReset = false ∧ s1.live 0 = true ∧ s1.live 3 = false ∧
      (true ≠ (s1.pins.channels.get 0).phaseA ↔ false = (s1.pins.channels.get 0).phaseB) ∧
      true ≠ (s1.pins.channels.get 0).phaseA ∧ true ≠ (s1.pins.channels.get 0).phaseB ∧
      inInt32 ((lead.axis 0).position + 1) = true ∧ inInt32 ((top.axis 0).position + 1) = false ∧
      ((after (.scaleTransition 0 true false 9) lead).axis 0).position = 2147483647 ∧
      (after (.scaleTransition 0 true false 9) top).gate = .faulted := by decide

theorem test_witness_MotionFaultStopsTheStation :
    let s := withQ [sg .position .moving, sg .position .queued] s1
    s.motion.queue = [sg .position .moving, sg .position .queued] ∧ (sg .position .moving).issuer = .room ∧
      (motionFault 0 .encoder s).gate = .faulted := by decide

theorem test_witness_EndOfTravelFaultsOnGoingActive :
    s1.inReset = false ∧ s1.live 2 = true ∧ (after (.endOfTravelInput 2 .max true 9) s1).gate = .faulted ∧
      (after (.endOfTravelInput 3 .max true 9) s1).gate = .normal := by decide

theorem test_witness_ServoSampleFillsRingsAndDrives :
    s1.inReset = false ∧ s1.live 2 = true ∧ s1.live 3 = false ∧ ampOn (after (.servoSample 2500) s1) = true ∧
      (s1.axis 2).record.setUp = true ∧ ampOn (after (.servoSample 2500) s0) = false := by decide

theorem test_witness_ReferenceMarkOffsetsItsAxis :
    let seg : Segment := { sg .reference .moving with axis := 1 }
    let s := withQ [seg] (s1a 1 fun a => { a with
      position := 2147483647, demand := 2147483647, ring := [{ tick := 1, count := 2147483646 }] })
    (s.inReset = false ∧ s.motion.queue = [seg] ∧ seg.state = .moving ∧ seg.kind = .reference ∧ seg.axis = 1 ∧
      seg.traj.marked = false ∧ s.live 1 = true ∧ inInt32 (s.axis 1).record.refValue = true ∧
      inInt32 ((s.axis 1).demand + ((s.axis 1).record.refValue - (s.axis 1).position)) = true ∧
      (∀ e ∈ (s.axis 1).ring, inInt32 (e.count + ((s.axis 1).record.refValue - (s.axis 1).position)) = true)) ∧
    ((after (.referenceMark 1 9) s).axis 1).ring = [{ tick := 1, count := 99 }] := by decide

theorem test_witness_ReferenceMark_otherwise :
    s1.inReset = false ∧ ∀ seg rest, s1.motion.queue = seg :: rest → (seg.state = .moving ∨ seg.state = .stopping) →
      seg.kind = .reference → seg.axis = 1 → seg.traj.marked = false → s1.live 1 = false :=
  ⟨rfl, fun _ _ h => nomatch h⟩

theorem test_witness_SettleTimeoutEndsTheHeadUnsettled :
    let seg : Segment := { sg .position .moving with traj := { (sg .position .moving).traj with settle := some 100 } }
    let s := withQ [seg] s1
    s.inReset = false ∧ s.motion.queue = [seg] ∧ seg.state = .moving ∧ seg.issuer = .room ∧
      seg.traj.settle = some 100 ∧ 100 ≤ (advance 100 s).uptime ∧ (advance 99 s).due seg.traj.settle = false ∧
      (after (.settleTimeout 99) s).motion.queue = [seg] ∧ (after (.settleTimeout 100) s).motion.queue = [] := by decide

theorem test_witness_DriveEnableEdgesDisableAndRestoreMotion :
    let q := [sg .position .moving]
    let low := driven false .disabled s1
    s1.inReset = false ∧ s1.pins.driveEnable = true ∧ (withQ q s1).motion.queue = q ∧
      (sg .position .moving).issuer = .room ∧ low.pins.driveEnable = false ∧ low.faultPending = false ∧
      ampOn (after (.driveEnableRise 9) low) = true ∧
      (after (.driveEnableRise 9) { low with faultPending := true }).gate = .faulted := by decide

theorem test_witness_ClearLeavesFaulted : Commands 11 (fk 11 1 [3]) s1 ∧ Commands 11 (fk 11 2 [3]) s1 ∧
    Commands 11 (fk 11 1 [3, 0]) s1 ∧ Commands 11 (fk 11 1 [0]) (driven false .disabled s1) ∧
    Commands 11 (fk 11 1 [3]) (driven true .faulted s1) :=
  ⟨commands_of (by decide), commands_of (by decide), commands_of (by decide), commands_of (by decide),
    commands_of (by decide)⟩

theorem test_witness_ClearLeavesFaulted_cases :
    s1.station.mode = .run ∧ (fk 11 2 [3]).sender.toNat ≠ s1.station.controller ∧
      (fk 11 1 [3]).sender.toNat = s1.station.controller ∧ (fk 11 1 [3, 0]).payload.length ≠ 1 ∧
      (fk 11 1 [0]).payload.length = 1 ∧ (driven false .disabled s1).pins.driveEnable = false ∧
      s1.pins.driveEnable = true ∧ s1.gate = .normal ∧
      ampOn (after (.clear (fk 11 1 [3])) (driven true .faulted s1)) = true := by decide

theorem test_witness_SensorChannelsFilterRejectAndReseed :
    let ch : Channel := { Channel.afterReset with state := .valid, average := 20000 }
    let held : Channel := { ch with state := .held, rejects := 2, heldAge := 3 }
    let fresh : Channel := { ch with state := .settling, settle := 0, average := 0 }
    (fresh.state = .settling ∧ fresh.settle = 0) ∧ ({ ch with state := .faulted } : Channel).state = .faulted ∧
      (held.state = .held ∧ 1500 < ((21501 : Int) - held.average).natAbs ∧ held.rejects ≤ 2 ∧
        3 ≤ ({ held with rejects := 3 } : Channel).rejects) ∧
      ((21500 : Int) - held.average).natAbs ≤ 1500 ∧ -10000 ≤ ch.average ∧ ch.average ≤ 60000 ∧
      (1#16).getLsbD (0 : Fin 16).val = true ∧ ({ Thermal.afterReset with mask := 1 } : Thermal).mask.getLsbD 0 = true ∧
      ch.state = .valid ∧ ch.rejects = 0 ∧ ch.heldAge = 0 := by decide

theorem test_witness_SensorSlotEndAppliesItsRead :
    let s : State := { s1 with thermal := { s1.thermal with
      mask := 0x8001, slot := 15, reading := true, publish := true
      channels := s1.thermal.channels.set 15 { Channel.afterReset with state := .faulted } } }
    s.inReset = false ∧ s.thermal.reading = true ∧ s.thermal.slot = 15 ∧ s.thermal.publish = true ∧ joined s = true ∧
      ((after (.sensorSlotEnd (.value 20000) 9) s).thermal.channels.get 15).average = 20000 ∧
      (after (.sensorSlotEnd (.value 20000) 9) s).thermal.reading = true ∧
      occupied (after (.sensorSlotEnd (.value 20000) 9) s) .temp = true := by decide

/-- A station that takes the workpiece figure of station 9. -/
def sPeer (standing : PeerStanding) (q : Quality) (timer : Option Nat) : State :=
  { s1 with thermal := { s1.thermal with
    source := .peer, peerStation := 9, peer := { standing := standing, figure := 22100, quality := q, timer := timer } } }

theorem test_witness_PeerTempsAndTheirTimerMakeTheFigure :
    Hears 28 (fk 28 9 (b4 60000 ++ [0])) (sPeer .neverHeard .absent none) ∧
      Hears 28 (fk 28 9 (b4 60001 ++ [0])) (sPeer .neverHeard .absent none) :=
  ⟨hears_of (by decide), hears_of (by decide)⟩

theorem test_witness_PeerTemps_cases :
    let f := fk 28 9 (b4 60000 ++ [0])
    let s := sPeer .heard .fresh (some 100)
    (f.payload.length = 5 ∧ s.thermal.source = .peer ∧ f.sender.toNat = s.thermal.peerStation ∧
      -10000 ≤ s32At f.payload 0 ∧ s32At f.payload 0 ≤ 60000 ∧ byteAt f.payload 4 = Quality.fresh.code) ∧
      ¬ s32At (fk 28 9 (b4 60001 ++ [0])).payload 0 ≤ 60000 ∧
      s.inReset = false ∧ s.thermal.peer.timer = some 100 ∧ 100 ≤ (advance 100 s).uptime ∧
      (advance 99 s).uptime < 100 ∧ (after (.peerTimerExpiry 99) s).thermal.peer.timer = some 100 ∧
      workFigure s = { value := 22100, quality := .fresh } ∧
      workFigure (after (.peerTimerExpiry 100) s) = { value := 22100, quality := .stale } ∧
      (sPeer .gone .fresh none).thermal.source = .peer := by decide

theorem test_witness_MapErrorInterpolatesBetweenNodes :
    let c : CompRecord := { CompRecord.afterReset with origin := 100, shift := 8 }
    (99 : Int) - c.origin < 0 ∧ (0 ≤ (16484 : Int) - c.origin ∧ 64 ≤ (((16484 : Int) - c.origin) >>> c.shift).toNat) ∧
      (0 ≤ (16483 : Int) - c.origin ∧ (((16483 : Int) - c.origin) >>> c.shift).toNat < 64) ∧
      ((356 : Int) - c.origin) - ((((356 : Int) - c.origin) >>> c.shift).toNat : Int) * 2 ^ c.shift = 0 := by decide

theorem test_witness_ForwardCorrectionIsBoundedAndFlagged :
    (s1.axis 0).record.kind = .linear ∧ (forward s1 0 1000 true).clamped = false ∧
      ((s1a 0 fun a => { a with record := { a.record with kind := .angular } }).axis 0).record.kind = .angular ∧
      (forward (s1a 0 fun a => { a with record := { a.record with kind := .angular } }) 0 1000 true).clamped = false := by
  decide

theorem test_witness_SetupScaleAndMapWriteOneAxis :
    let good := [3, 2] ++ b4 40000 ++ [15] ++ b4 0 ++ [22, 2] ++ b4 7
    let bad := [3, 2] ++ b4 40001 ++ [15] ++ b4 0 ++ [22, 2] ++ b4 7
    let map : List Byte := [3, 2, 64, 0, 9]
    (cmdOk 21 (fk 21 1 good) s0 && cmdOk 21 (fk 21 1 bad) s0 && cmdOk 22 (fk 22 1 map) s0 &&
      cmdOk 22 (fk 22 1 [3, 2, 65, 0, 9]) s0) = true ∧ s0.station.mode ≠ .run ∧ s0.live 2 = true ∧
      byteAt good 1 = 2 ∧ good.length = 17 ∧ s32At good 2 = 40000 ∧ byteAt good 6 < 16 ∧ byteAt good 11 ≤ 22 ∧
      byteAt good 12 < 3 ∧ ¬ s32At bad 2 ≤ 40000 ∧ byteAt map 2 + 1 ≤ 65 ∧
      ((after (.setupMap (fk 22 1 map)) s0).axis 2).comp.nodes.get 64 = 9 := by decide

theorem test_witness_DatumWritesTheMaskedAxes :
    let good := [3, 5] ++ b4 11 ++ b4 (-7)
    (cmdOk 14 (fk 14 1 good) s1 && cmdOk 14 (fk 14 1 [3, 8, 0, 0, 0, 1]) s1) = true ∧ s1.station.mode = .run ∧
      (fk 14 1 good).sender.toNat = s1.station.controller ∧ byteAt good 1 ≠ 0 ∧ byteAt good 1 < 16 ∧
      s1.live 0 = true ∧ s1.live 2 = true ∧ s1.live 3 = false ∧
      ((after (.datum (fk 14 1 good)) s1).axis 2).comp.datum = -7 ∧
      ((after (.datum (fk 14 1 good)) s1).axis 1).comp.datum = 0 := by decide

/-- A hold of `n` at this standing since tick 0. -/
def hd (n : Nat) (st : Standing) : Hold := { holder := n, standing := st, since := 0 }

/-- A head that needs zone 4. -/
def needs (kind : SegKind) (state : SegState) : Segment := { sg kind state with needed := some 0x0010 }

theorem test_witness_HeadMovesWhenPermitDrivesLineRoomAndZonesAgree :
    let q := [needs .position .waiting]
    let mine := viewed [(4, hd 3 .firm)] (withQ q s1)
    let others := viewed [(4, hd 9 .tentative)] (withQ q s1)
    let free := withQ q s1
    (q.head?.map (fun x => x.state)) = some .waiting ∧ mine.motion.queue = q ∧ mine.motion.permit = .valid ∧
      mine.gate = .normal ∧ joined mine = true ∧
      ((evaluateHead mine).motion.queue.map fun x => x.state) = [.moving] ∧
      ((evaluateHead others).motion.queue.map fun x => x.state) = [.waiting] ∧
      ZoneSet.has 0x0010 4 = true ∧ free.zones.claim = .none ∧ free.zones.view.get 4 = none ∧
      ((evaluateHead free).motion.queue.map fun x => x.state) = [.claiming] := by decide

theorem test_witness_HeadMoves_otherState :
    ∀ seg rest, (withQ [needs .probe .moving] s1).motion.queue = seg :: rest → seg.state ≠ .waiting ∧ seg.state ≠ .claiming := by
  intro seg rest h
  obtain ⟨rfl, -⟩ := List.cons.inj h
  decide

/-- A trajectory of one count of path at full progress but one part. -/
def tj : Trajectory := { Trajectory.none with len := 1, pathSpeed := 4, s := 65535, u := 65536 }

theorem test_witness_TrajectoriesKeepToTheirPathAndStop :
    tj.s ≤ tj.len * 65536 ∧ tj.u ≤ tj.pathSpeed * 16384 ∧ 0 < tj.u ∧ 0 < tj.len ∧
      (sg .position .moving).kind ≠ .reference ∧ (sg .position .moving).traj.s ≤ (sg .position .moving).traj.len * 65536 ∧
      (tj.step 1).1.s = 65536 ∧ (Trajectory.stop 20 true tj).s = 65536 := by decide

/-- MOVE POSITION of axes 1 and 2 to coordinate 1,000,000 and −5, speed 300. -/
def mvp : List Byte := [3, 0, 1, 44, 6] ++ b4 1000000 ++ b4 (-5)

theorem test_witness_MovePositionIsAcceptedAsASegment :
    Commands 9 (fk 9 1 mvp) s1 ∧ QueueShaped s1 ∧
      (∀ i, reachAxis? s1 = some i ∨ zoneAxis? s1 = some i → (s1.axis i).referenced = true) :=
  ⟨commands_of (by decide), ⟨by simp [TailQueued, s1, s0, State.reset, Sequencer.afterReset], fun _ _ h => nomatch h⟩,
    by decide⟩

theorem test_witness_MovePosition_cases :
    let named := axisIds.filter fun i => (6).testBit i.val
    s1.station.mode = .run ∧ (fk 9 1 mvp).sender.toNat = s1.station.controller ∧ byteAt mvp 1 = 0 ∧ byteAt mvp 4 = 6 ∧
      (∀ i ∈ named, s1.live i = true) ∧ mvp.length = 5 + 4 * named.length ∧ s1.probes.change.active = false ∧
      s1.gate = .normal ∧ s1.motion.queue.length < 8 ∧ (∀ i ∈ named, (s1.axis i).referenced = true) ∧
      u16At mvp 2 ≠ 0 ∧ inverse (heard (fk 9 1 mvp) s1) 1 1000000 = 1000000 ∧ (s1.axis 1).record.softMax = 1000000 ∧
      ((after (.movePosition (fk 9 1 mvp)) s1).motion.queue.map fun x => (x.number, x.speed, x.targets.get 1)) =
        [(0, 300, 1000000)] := by decide

/-- MOVE PROBE of axis 1 to 3,000 with a search of 2,000,000, speed 300. -/
def mvq : List Byte := [3, 1, 1, 44, 2] ++ b4 3000 ++ b4 2000000

theorem test_witness_MoveProbeIsAcceptedWithItsSearch :
    Commands 9 (fk 9 1 mvq) s2 ∧ QueueShaped s2 ∧ onHead? s2 = some (3, pr 7 2 .onHead) :=
  ⟨commands_of (by decide), ⟨by simp [TailQueued, s2, s1, s0, State.reset, Sequencer.afterReset], fun _ _ h => nomatch h⟩,
    by decide⟩

theorem test_witness_MoveProbe_cases :
    let named := axisIds.filter fun i => (2).testBit i.val
    s2.station.mode = .run ∧ (fk 9 1 mvq).sender.toNat = s2.station.controller ∧ byteAt mvq 1 = 1 ∧ byteAt mvq 4 = 2 ∧
      (∀ i ∈ named, s2.live i = true) ∧ mvq.length = 9 + 4 * named.length ∧ s2.probes.change.active = false ∧
      (∀ i ∈ named, (s2.axis i).referenced = true) ∧ (s2.axis 0).referenced = true ∧ (s2.axis 2).referenced = true ∧
      u32At mvq 9 = 2000000 ∧ s2.station.probeCap ≠ 0 ∧ 1 ≤ 2 * s2.station.stopDecel * (pr 7 2 .onHead).allowance ∧
      inverse (heard (fk 9 1 mvq) s2) 1 3000 = 3000 ∧ (demands s2).get 1 ≠ 3000 ∧
      ((after (.moveProbe (fk 9 1 mvq)) s2).motion.queue.map fun x => (x.speed, x.searchEnd.map fun v => v.get 1)) =
        [(141, some 1000000)] := by decide

/-- Eight segments queued. -/
def q8 : List Segment := sg .position .waiting :: List.replicate 7 (sg .position .queued)

theorem test_witness_ReferenceIsAcceptedUnderItsReachCondition :
    Commands 10 (fk 10 1 [3, 1]) s1 ∧ Commands 10 (fk 10 1 [3, 0]) s1 ∧ Commands 10 (fk 10 1 [3, 1]) (withQ q8 s1) ∧
      QueueShaped (withQ q8 s1) :=
  ⟨commands_of (by decide), commands_of (by decide), commands_of (by decide), by
    refine ⟨by unfold TailQueued; decide, fun seg rest h => ?_⟩
    obtain ⟨rfl, -⟩ := List.cons.inj h
    decide⟩

theorem test_witness_Reference_cases :
    let far : State := { s1 with station := { s1.station with freeReach := -1 } }
    let codes := fun s : State => ((s.slots.replies.get 0).map fun r => r.code)
    (fk 10 1 [3, 1]).payload.length = 2 ∧ (withQ q8 s1).motion.queue.length = 8 ∧ (s1.axis 1).record.setUp = true ∧
      (s1.axis 0).record.role = .zoneAxis ∧ reachAxis? s1 = some 2 ∧ (s1.axis 2).position ≤ s1.station.freeReach ∧
      ¬ (far.axis 2).position ≤ far.station.freeReach ∧ s1.live 3 = false ∧
      codes (after (.reference (fk 10 1 [3, 0])) s1) = some .accepted ∧
      codes (after (.reference (fk 10 1 [3, 0])) far) = some .notReferenced ∧
      codes (after (.reference (fk 10 1 [3, 3])) s1) = some .badValue ∧
      codes (after (.reference (fk 10 1 [3, 1])) (withQ q8 s1)) = some .queueFull := by decide

theorem test_witness_HaltStopsTheHead : Hears 0 (fk 0 9 [0]) (withQ [sg .position .moving, sg .position .queued] s1) ∧
    Hears 0 (fk 0 9 [4]) s1 :=
  ⟨hears_of (by decide), hears_of (by decide)⟩

theorem test_witness_Halt_cases :
    let m := sg .position .moving
    let s := withQ [m, sg .position .queued] s1
    (fk 0 9 [0]).payload.length = 1 ∧ byteAt [0] 0 = 0 ∧ ¬ (byteAt [4] 0 = s1.line.number ∨ byteAt [4] 0 = 0) ∧
      s1.probes.change.active = false ∧ s1.motion.queue = [] ∧ m.traj.arrived = false ∧ 0 < m.traj.u ∧
      m.traj.s ≠ m.traj.len * 65536 ∧ m.issuer = .room ∧ (sg .position .waiting).issuer = .room ∧
      ((after (.halt (fk 0 9 [0])) s).motion.queue.map fun x => (x.state, x.outcome, x.flushed)) =
        [(.stopping, some .halted, 1)] := by decide

theorem test_witness_PermitKeepsMotionAlive : Hears 7 (fk 7 1 []) s1 ∧ Hears 7 (fk 7 2 []) s1 ∧
    Hears 7 (fk 7 1 []) { chg .unlock with probes := { (chg .unlock).probes with
      change := { (chg .unlock).probes.change with expiry := .timer, deferred := .lapsed } } } :=
  ⟨hears_of (by decide), hears_of (by decide), hears_of (by decide)⟩

theorem test_witness_Permit_cases :
    let s : State := withQ [sg .position .moving] { s1 with motion := { s1.motion with permitTimer := some 100 } }
    s1.station.mode = .run ∧ (fk 7 1 []).sender.toNat = s1.station.controller ∧ s1.probes.change.expiry = .none ∧
      ¬ (fk 7 2 []).sender.toNat = s1.station.controller ∧ s.inReset = false ∧ s.motion.permit = .valid ∧
      s.motion.permitTimer = some 100 ∧ 100 ≤ (advance 100 s).uptime ∧ (advance 99 s).uptime < 100 ∧
      s.probes.change.active = false ∧ (after (.permitTimerExpiry 99) s).motion.permit = .valid ∧
      (after (.permitTimerExpiry 100) s).motion.permit = .lapsed := by decide

theorem test_witness_OverlappedZonesAreThoseOfThePositions :
    zoneOf (tab15 fun j => 4000000 * (j.val + 1)) 3999999 = 0 ∧ zoneOf (tab15 fun j => 4000000 * (j.val + 1)) 4000000 = 1 ∧
      (3999999 : Int) ≤ 4000000 ∧ overlapped (tab15 fun j => 4000000 * (j.val + 1)) 3999999 4000000 = 3 := by decide

theorem test_witness_NeededSetCoversEveryEnvelope :
    let a : Vector Int 4 := #v[0, 0, 0, 0]
    let b : Vector Int 4 := #v[10, 0, 1, 0]
    reachAxis? s0 = none ∧ reachAxis? s1 = some 2 ∧ zoneAxis? s1 = some 0 ∧ a.get 0 ≠ b.get 0 ∧
      ¬ b.get 2 ≤ s1.station.freeReach ∧ a.get 2 ≤ s1.station.freeReach ∧ (s1.axis 2).referenced = true ∧
      (s1.axis 0).referenced = true ∧ min (bedPosition s1 a) (bedPosition s1 b) ≤ 10 ∧
      10 ≤ max (bedPosition s1 a) (bedPosition s1 b) ∧ zoneOf s1.zones.boundaries 10 = (15 : Fin 16).val ∧
      ZoneSet.has (travelSet s1 a b) 15 = true := by decide

/-- Zones 4 and 5 held FIRM by station 3, zone 6 TENTATIVE to station 9, zone 7 FIRM to it. -/
def sv : State := viewed [(4, hd 3 .firm), (5, hd 3 .firm), (6, hd 9 .tentative), (7, hd 9 .firm)] s1

theorem test_witness_ClaimHeardChangesTheView :
    Hears 5 (fk 5 9 [0x01, 0x40]) sv ∧ Hears 5 (fk 5 9 [0x01, 0x10]) sv ∧ Hears 5 (fk 5 9 [0x10]) sv ∧
      Hears 5 (fk 5 9 [0, 0]) sv ∧ Hears 5 (fk 5 9 [0, 0x10]) (onLine .mute sv) :=
  ⟨hears_of (by decide), hears_of (by decide), hears_of (by decide), hears_of (by decide), hears_of (by decide)⟩

theorem test_witness_ClaimHeard_cases :
    zonesAt [0x01, 0x40] 0 &&& ownZones sv = 0 ∧ zonesAt [0x01, 0x10] 0 &&& ownZones sv = 0x0010 ∧
      joined (heard (fk 5 9 [1, 16]) sv) = true ∧ objectSlot sv 9 = some 0 ∧
      joined (heard (fk 5 9 [1, 16]) (onLine .mute sv)) = false ∧ zonesAt [0, 0] 0 = 0 ∧
      (((after (.zoneClaimReceived (fk 5 9 [1, 16])) sv).slots.objects.get 0).frame.map fun x => x.zones) = some 0x0010 := by
  decide

theorem test_witness_ObjectionHeardPassesTheZones :
    Hears 2 (fk 2 9 [8, 0, 0x40]) sv ∧ Hears 2 (fk 2 9 [3, 0, 0x40]) sv ∧ Hears 2 (fk 2 9 [3, 0, 0x10]) sv ∧
      Hears 2 (fk 2 9 [31, 0, 0x10]) sv :=
  ⟨hears_of (by decide), hears_of (by decide), hears_of (by decide), hears_of (by decide)⟩

theorem test_witness_ObjectionHeard_cases :
    let s := withQ [needs .position .moving] sv
    byteAt [3, 0, 0x10] 0 = sv.line.number ∧ byteAt [8, 0, 0x40] 0 ≠ sv.line.number ∧
      zonesAt [3, 0, 0x40] 1 &&& firmZones sv = 0 ∧ zonesAt [3, 0, 0x10] 1 &&& firmZones sv ≠ 0 ∧ sv.motion.queue = [] ∧
      0 < (needs .position .moving).traj.u ∧ (needs .position .moving).needed.getD 0 &&& 0x0010 ≠ 0 ∧
      ((after (.zoneObjectReceived (fk 2 9 [3, 0, 0x10])) s).motion.queue.map fun x => (x.state, x.outcome)) =
        [(.stopping, some .conflict)] ∧
      ((after (.zoneObjectReceived (fk 2 9 [3, 0, 0x10])) s).notices.get 3).pending = false ∧
      (after (.zoneObjectReceived (fk 2 9 [3, 0, 0x10])) s).slots.notice.isSome = true := by decide

theorem test_witness_HoldsOfOthersRipenAndAreReleased :
    (Hears 4 (fk 4 9 [0, 0x40]) sv ∧ Hears 4 (fk 4 9 [0x40]) sv ∧ Hears 4 (fk 4 9 [0, 0]) sv) ∧ sv.inReset = false :=
  ⟨⟨hears_of (by decide), hears_of (by decide), hears_of (by decide)⟩, rfl⟩

/-- The hold of station 9 ripens at 16 ms, one tick not before. -/
theorem test_ripe_boundary : ((after (.tentativeHoldExpiry 160000) sv).zones.view.get 6) = some (hd 9 .firm) ∧
    ((after (.tentativeHoldExpiry 159999) sv).zones.view.get 6) = some (hd 9 .tentative) := by decide

theorem test_witness_HelloForgetsItsSender :
    Hears 3 (fk 3 9 [3, 1]) sv ∧ Hears 3 (fk 3 1 [3, 1]) sv ∧ Hears 3 (fk 3 9 [3]) sv ∧
      Hears 3 (fk 3 1 [3, 1]) { sv with motion := { sv.motion with permit := .lapsed, permitTimer := none } } :=
  ⟨hears_of (by decide), hears_of (by decide), hears_of (by decide), hears_of (by decide)⟩

theorem test_witness_Hello_cases :
    (fk 3 1 [3, 1]).sender.toNat = sv.station.controller ∧ (fk 3 9 [3, 1]).sender.toNat ≠ sv.station.controller ∧
      sv.motion.permit = .valid ∧ sv.probes.change.active = false ∧ sv.station.mode = .run ∧
      (after (.helloReceived (fk 3 1 [3, 1])) sv).motion.permit = .lapsed ∧
      (after (.helloReceived (fk 3 9 [3, 1])) sv).zones.view.get 7 = none := by decide

/-- The own claim for zone 5 in its window since tick 0. -/
def sw : State :=
  let s := viewed [(5, hd 3 .tentative)] (withQ [{ sg .position .claiming with needed := some 0x0020 }] s1)
  { s with zones := { s.zones with claim := .window 0x0020 0 } }

theorem test_witness_OwnClaimBecomesFirm :
    sw.inReset = false ∧ sw.zones.claim = .window 0x0020 0 ∧ 0 + 160000 ≤ (advance 160000 sw).uptime ∧
      (after (.claimWindowExpiry 160000) sw).zones.view.get 5 = some (hd 3 .firm) ∧
      (after (.claimWindowExpiry 159999) sw).zones.view.get 5 = some (hd 3 .tentative) := by decide

theorem test_witness_OwnClaim_otherwise :
    sw.inReset = false ∧ ∀ x began, sw.zones.claim = .window x began → (advance 159999 sw).uptime < began + 160000 :=
  ⟨rfl, fun _ _ h => by obtain ⟨-, rfl⟩ := Claim.window.inj h; decide⟩

theorem test_witness_AutoReleaseKeepsOnlyTheKeepSet :
    joined sv = true ∧ inFlight sv .release = false ∧ firmZones sv &&& ~~~keepSet sv = 0x0030 ∧
      (firmZones s1 &&& ~~~keepSet s1) = 0 ∧ joined (onLine .mute sv) = false ∧ s0.station.mode = .setup ∧
      sv.station.mode ≠ .setup ∧ (autoRelease sv).slots.release.frame = some 0x0030 := by decide

theorem test_witness_SetupZonesKeepsLoadedBoundariesRising :
    let good : List Byte := [3, 14] ++ b4 (-1) ++ b4 0
    (cmdOk 23 (fk 23 1 good) s0 && cmdOk 23 (fk 23 1 ([3, 14] ++ b4 0 ++ b4 0)) s0) = true ∧
      6 ≤ good.length ∧ (good.length - 2) % 4 = 0 ∧ byteAt good 1 + 2 ≤ 16 ∧
      (after (.setupZones (fk 23 1 good)) s0).zones.loaded.get 14 = true ∧
      (after (.setupZones (fk 23 1 ([3, 14] ++ b4 0 ++ b4 0))) s0).zones.loaded.get 14 = false := by decide

/-! Touches and points -/

theorem test_witness_TriggerEdgesLoadTheLatchAndReseat :
    s1.inReset = false ∧ s1.pins.deflected = false ∧ s1.capture.reseat = .spent ∧
      (after (.triggerDeflected 9) s1).pins.deflected = true ∧ (after (.triggerDeflected 9) s1).inReset = false ∧
      s1.capture.reseatTimer = some 50000 ∧ 50000 ≤ (advance 50000 s1).uptime ∧ (advance 49999 s1).uptime < 50000 ∧
      (after (.reseatTimerExpiry 50000) s1).capture.reseat = .ready ∧
      (after (.reseatTimerExpiry 49999) s1).capture.reseat = .spent := by decide

/-- A PROBE segment under way from a probe on the head, the trigger READY, companion 9 named. -/
def st : State :=
  let s := withQ [sg .probe .moving, sg .position .queued] s2
  { s with station := { s.station with companion := 9 } }

theorem test_witness_TouchOnAProbeSegmentFormsAPoint :
    st.inReset = false ∧ st.pins.deflected = false ∧ st.capture.reseat = .ready ∧ st.station.mode = .run ∧
      st.line.state ≠ .offline ∧ st.probes.change.active = false ∧ onHead? st = some (3, pr 7 2 .onHead) ∧
      st.motion.queue = [sg .probe .moving, sg .position .queued] ∧ (sg .probe .moving).kind = .probe ∧
      (sg .probe .moving).state = .moving ∧ (sg .probe .moving).traj.arrived = false ∧ 0 < (sg .probe .moving).traj.u ∧
      (sg .probe .moving).traj.s ≠ (sg .probe .moving).traj.len * 65536 ∧
      ((after (.triggerDeflected 7) st).capture.points.map fun r => (r.number, r.probe, r.state, r.timer)) =
        [(0, 7, .awaiting, some 250007)] := by decide

theorem test_witness_TouchElsewhereCollidesOrIsIgnored :
    let m := sg .position .moving
    onHead? (withQ [m, sg .probe .queued] s2) = some (3, pr 7 2 .onHead) ∧ s2.capture.reseat = .ready ∧
      (withQ [m, sg .probe .queued] s2).motion.queue = [m, sg .probe .queued] ∧ m.kind = .position ∧ m.state = .moving ∧
      m.traj.arrived = false ∧ 0 < m.traj.u ∧ m.traj.s ≠ m.traj.len * 65536 ∧ s2.motion.queue = [] ∧
      (withQ [sg .probe .stopping] s2).motion.queue = [sg .probe .stopping] ∧
      (withQ [sg .position .waiting] s2).motion.queue = [sg .position .waiting] ∧
      s0.inReset = false ∧ s0.pins.deflected = false ∧ s0.probes.change.active = false ∧ s0.station.mode ≠ .run ∧
      onHead? s1 = none ∧
      ((after (.triggerDeflected 7) (withQ [m, sg .probe .queued] s2)).probes.table.get 3).qualified = false := by decide

theorem test_witness_AwaitingPointsBecomeReady :
    let s := after (.triggerDeflected 7) st
    s.inReset = false ∧ s.line.attempt = none ∧
      (s.capture.points.map fun r => (r.number == 0 && r.state == .awaiting && r.timer == some 250007)) = [true] ∧
      (after (.companionTimerExpiry 0 250006) s).capture.points = s.capture.points ∧
      ((after (.companionTimerExpiry 0 250007) s).capture.points.map fun r => (r.state, r.flags.companionMissing)) =
        [(.offered, true)] := by decide

theorem test_witness_Awaiting_companion :
    Hears 6 (fk 6 9 ([3, 0, 0] ++ b4 77 ++ [0])) (after (.triggerDeflected 7) st) ∧
      Hears 6 (fk 6 9 ([3, 0, 0] ++ b4 77 ++ [2])) (after (.triggerDeflected 7) st) ∧
      Hears 6 (fk 6 9 ([4, 0, 0] ++ b4 77 ++ [0])) (after (.triggerDeflected 7) st) :=
  ⟨hears_of (by decide), hears_of (by decide), hears_of (by decide)⟩

theorem test_companion_merges :
    ((after (.companionReceived (fk 6 9 ([3, 0, 0] ++ b4 77 ++ [0]))) (after (.triggerDeflected 7) st)).capture.points.map
      fun r => (r.companion, r.flags.companionPresent)) = [(some 77, true)] ∧
    ((after (.companionReceived (fk 6 8 ([3, 0, 0] ++ b4 77 ++ [0]))) (after (.triggerDeflected 7) st)).capture.points.map
      fun r => (r.companion, r.state)) = [(none, .awaiting)] := by decide

/-- A station that serves station 9 from axis 1, with two ring entries. -/
def sr : State :=
  let s := s1a 1 fun a => { a with ring := [{ tick := 0, count := 100 }, { tick := 10, count := 110 }] }
  { s with station := { s.station with serveSet := BitVec.twoPow 32 9, serveAxis := some 1 } }

/-- A TOUCH of point 5 with probe 7 and this age: its instant is its start of frame, tick 10, less the age. -/
def tf (age : Nat) : RxFrame := fk 1 9 ([0, 5] ++ put24 age ++ [7])

theorem test_witness_TouchHeardIsAnsweredByTheRing :
    Hears 1 (tf 0) sr ∧ Hears 1 (tf 11) sr ∧ Hears 1 (fk 1 8 [0, 5, 0, 0, 0, 7]) sr ∧
      Hears 1 { tf 0 with sof := 11 } sr ∧ Hears 1 (tf 0) s1 :=
  ⟨hears_of (by decide), hears_of (by decide), hears_of (by decide), hears_of (by decide), hears_of (by decide)⟩

theorem test_witness_TouchHeard_cases :
    let h := heard (tf 0) sr
    sr.station.serveAxis = some 1 ∧ sr.live 1 = true ∧ (sr.axis 1).referenced = true ∧
      (sr.axis 1).ring.head? = some { tick := 0, count := 100 } ∧
      (sr.axis 1).ring.getLast? = some { tick := 10, count := 110 } ∧ (s1.axis 1).ring = [] ∧
      s1.station.serveAxis = none ∧ (tf 0).payload.length = 6 ∧ joined h = true ∧
      sr.station.serveSet.getLsbD (9#5).toNat = true ∧ sr.station.serveSet.getLsbD (8#5).toNat = false ∧
      settle h 10 = .answer .ok 110 ∧ settle h 11 = .wait ∧ settle h 0 = .answer .ok 100 ∧
      settle h (-1) = .answer .beyondHistory 0 ∧ companionSlot h 9 5 = some 0 ∧ h.capture.requests = [] ∧
      ((after (.touchReceived { tf 0 with sof := 11 }) sr).capture.requests.map fun q => q.instant) = [11] ∧
      (((after (.touchReceived (tf 11)) sr).slots.companions.get 0).frame.map fun x => x.status) = some .beyondHistory := by
  decide

theorem test_witness_TouchHeard_noSlot :
    let held : Slot CompanionFrame := { frame := some { dest := 8, point := 1, value := 0, status := .ok }, amend := none }
    let s : State := { sr with slots := { sr.slots with companions := #v[held, held] } }
    hearsOk 1 (tf 0) s = true ∧ settle (heard (tf 0) s) 10 = .answer .ok 110 ∧
      companionSlot (heard (tf 0) s) 9 5 = none := by decide

theorem test_witness_TouchHeard_interpolates :
    (∀ e ∈ [] ++ [({ tick := 0, count := 100 } : Sample)], Tick.earlier 9 e.tick = false) ∧ Tick.earlier 9 10 = true ∧
      Tick.earlier 10 10 = false ∧ Tick.later 10 10 = false ∧
      interpolate 9 [{ tick := 0, count := 100 }, { tick := 10, count := 110 }] = 109 := by decide

/-! Probes and the rack -/

theorem test_witness_HeadAndRackInputsAreFollowed :
    s2.inReset = false ∧ s2.probes.change.active = false ∧ s2.probes.reading = false ∧ s0.probes.reading = true ∧
      s0.probes.change.active = false ∧ lockState s2 = .locked ∧ lockState s1 = .moving ∧ lidState s2 0 = .closing := by
  decide

/-- The change in `ph` with drop lid output OPEN, the drop port PRESENT and a read begun. -/
def cph (ph : Phase) (locked : Bool) : State :=
  let s := chg ph
  { s with
    pins := { s.pins with locked := locked, ports := s.pins.ports.set 2 { openIn := false, closedIn := false, present := true } }
    probes := { s.probes with
      reading := true, ports := s.probes.ports.set 2 { Port.afterReset with lidOpen := true }
      change := { s.probes.change with segArrived := true, readBegun := true } } }

theorem test_witness_ChangePhasesAdvanceOnTheirConditions :
    let s := cph .openDrop true
    s.inReset = false ∧ s.probes.change.active = true ∧ s.probes.change.result = none ∧ s.motion.queue = [] ∧
      s.probes.change.drop = some 2 ∧ s.probes.change.pick = some 5 ∧ s.probes.change.phase = some .openDrop ∧
      (s.probes.ports.get 2).lidOpen = true ∧ (s.pins.ports.get 2).openIn = false ∧
      lockState (cph .unlock true) ≠ .unlocked ∧ lockState (cph .lock false) ≠ .locked ∧
      s.probes.change.deferred = .none ∧ s.probes.change.expiry = .none ∧ s.probes.reading = true ∧
      s.probes.change.readBegun = true ∧ present s 2 = true ∧ (s.pins.ports.get 2).closedIn = false ∧
      s.probes.change.target ≠ 0 ∧ (11#8).toNat = s.probes.change.target := by decide

theorem test_phases_advance :
    (after (.lidStateInput 2 true false 9) (cph .openDrop true)).probes.change.phase = some .insert ∧
      (after (.lockStateInput false true 9) (cph .unlock true)).probes.change.phase = some .detach ∧
      (after (.lockStateInput true false 9) (cph .lock false)).probes.change.phase = some .identify ∧
      (after (.identityReadComplete 0 9) (cph .detach true)).probes.change.phase = some .closeDrop ∧
      (after (.identityReadComplete 11 9) (cph .identify true)).probes.change.phase = some .withdraw := by decide

theorem test_witness_ChangeTimersFailTheirPhase :
    let s := chg .unlock
    s.probes.change.active = true ∧ s.probes.change.result = none ∧ s.motion.queue = [] ∧
      s.probes.change.timer = some 100 ∧ 100 ≤ (advance 100 s).uptime ∧ s.probes.change.phase = some .unlock ∧
      (advance 99 s).due s.probes.change.timer = false ∧
      (after (.lockTimerExpiry 99) s).probes.change.active = true ∧
      (after (.lockTimerExpiry 100) s).probes.change.last =
        some { outcome := .failed, phase := 4, cause := .lockFault, idRead := 0 } ∧
      ((after (.lockTimerExpiry 100) s).probes.table.get 3).location = .unknown ∧
      ((after (.identifyTimerExpiry 100) (chg .identify)).probes.change.last.map fun r => (r.phase, r.cause)) =
        some (11, .pickFault) ∧
      ((after (.lidTimerExpiry 100) (chg .openPick)).probes.change.last.map fun r => (r.phase, r.cause)) =
        some (8, .lidFault) := by decide

/-- A rack in zone 15 with ports 2 and 5 configured where the reach axis is out by one count. -/
def srack : State :=
  let port : Port := { Port.afterReset with configured := true, approach := #v[0, 0, 1], insertAxis := 1, insertDepth := 500 }
  { s2 with
    station := { s2.station with rackZone := some 15 }
    probes := { s2.probes with ports := (s2.probes.ports.set 2 port).set 5 port }
    pins := { s2.pins with ports := s2.pins.ports.set 5 { openIn := false, closedIn := true, present := true } } }

theorem test_witness_ProbeChangeIsCheckedAndBegins :
    (cmdOk 12 (fk 12 1 [3]) srack && cmdOk 12 (fk 12 1 [3, 11]) srack && cmdOk 12 (fk 12 1 [3, 12]) srack &&
      cmdOk 12 (fk 12 1 [3, 7]) srack && cmdOk 12 (fk 12 1 [3, 11]) (chg .unlock)) = true ∧
      srack.station.mode = .run ∧ (fk 12 1 [3, 11]).sender.toNat = srack.station.controller ∧
      srack.probes.change.active = false ∧ motionState srack = .idle ∧ srack.motion.queue = [] ∧
      recordOf? srack 12 = none ∧ recordOf? srack 7 = some (pr 7 2 .onHead) ∧
      checkChange (heard (fk 12 1 [3, 11]) srack) [3, 11] = .accept (some 2) 5 ∧
      checkChange srack [3, 11] = .accept (some 2) 5 ∧ (chg .unlock).probes.change.active = true := by decide

/-- With an empty head there is no drop, and the lock output goes to UNLOCK. -/
theorem test_witness_ProbeChange_emptyHead :
    let s : State := { srack with probes := { srack.probes with
      identity := 0, table := srack.probes.table.set 3 ProbeRecord.empty } }
    checkChange s [3, 11] = .accept none 5 ∧
      (after (.probeChange (fk 12 1 [3, 11])) s).probes.change.phase = some .travelPick ∧
      (after (.probeChange (fk 12 1 [3, 11])) s).probes.unlockOut = true := by decide

/-- PROBE SET of record `k` with this id and home port. -/
def ps (k id home : Byte) : List Byte := [3, k, id, home] ++ b4 1 ++ b4 2 ++ b4 3000000 ++ b4 200000 ++ [1]

theorem test_witness_ProbeSetDerivesTheLocation :
    let f := fun k id home => fk 13 1 (ps k id home)
    (cmdOk 13 (f 0 20 1) s2 && cmdOk 13 (f 0 7 1) s2 && cmdOk 13 (f 3 0 255) s2 && cmdOk 13 (fk 13 1 [3, 0]) s2 &&
      cmdOk 13 (f 0 20 1) (chg .unlock) && cmdOk 13 (f 3 7 2) (withQ [sg .position .moving] s2)) = true ∧
      (ps 0 20 1).length = 21 ∧ byteAt (ps 15 20 255) 1 < 16 ∧ s32At (ps 0 20 1) 12 ≤ 3000000 ∧ u32At (ps 0 20 1) 16 ≤ 200000 ∧
      byteAt (ps 0 20 1) 20 ≤ 1 ∧ (s2.probes.table.get 3).id = 7 ∧ motionState (withQ [sg .position .moving] s2) = .moving ∧
      (s2.probes.table.get 3).location = .onHead ∧ (chg .unlock).probes.change.active = true ∧
      ((after (.probeSet (f 0 20 1)) s2).probes.table.get 0).location = .absent ∧
      ((after (.probeSet (f 0 7 1)) s2).slots.replies.get 0).map (fun r => r.code) = some .badValue ∧
      ((after (.probeSet (f 3 7 2)) s2).probes.table.get 3).location = .onHead := by decide

/-! The line -/

theorem test_witness_FullResetBeginsAndEndsWithTheTables :
    (after (.fullReset .powerOn 9) s2).inReset = true ∧
      (after (.resetEnd { number := 31, fast := false, axes := 7 }) s2).line.state = .offline ∧
      (after (.resetEnd { number := 30, fast := false, axes := 7 }) s2).axisCount = 4 := by decide

theorem test_witness_ListenEndsByQuietAndAttemptsBegin :
    let m : State := { onLine .mute s1 with line := { (onLine .mute s1).line with muteTimer := some 100 } }
    let touch : State := { s1 with slots := { s1.slots with touch := some { point := 5, probe := 7, captureTick := 3 } } }
    let announcing : State := { onLine .listenAnnouncing s1 with slots := { s1.slots with hello := true } }
    m.inReset = false ∧ m.line.state = .mute ∧ m.line.muteTimer = some 100 ∧ 100 ≤ (advance 100 m).uptime ∧
      (advance 99 m).uptime < 100 ∧ State.reset.line.state = .listenIntegrating ∧ s1.line.state ≠ .mute ∧
      s1.line.state ≠ .listenIntegrating ∧ (advance 9 touch).line.state = .idle ∧ (advance 9 touch).line.attempt = none ∧
      slotOrder = [] ++ .touch :: slotOrder.tail ∧ (slotPayload (advance 9 touch) 9 .touch).isSome = true ∧
      (slotOrder.all fun id => !occupied (advance 9 s1) id) = true ∧
      (advance 214 announcing).line.state = .listenAnnouncing ∧ (advance 214 announcing).line.idleAt = some 107 ∧
      (after (.attemptStart 106) announcing).line.attempt = none ∧
      (after (.attemptStart 107) announcing).line.attempt.isSome = true ∧
      announcing.slots.hello = true ∧ (advance 9 (onLine .receiving s1)).line.state = .receiving := by decide

theorem test_witness_ListenEnds_allEmpty : ∀ id, occupied (advance 9 s1) id = false := by
  intro id
  cases id with
  | object i => revert i; decide
  | companion i => revert i; decide
  | reply i => revert i; decide
  | _ => decide

/-- An attempt from this slot whose tag ends at tick 99. -/
def flight (id : SlotId) (withdrawn : Bool) : Attempt :=
  { slot := id, kind := id.kind, payload := [], sof := 0, tagSent := 99, withdrawn := withdrawn }

/-- `s` with that attempt in flight. -/
def flying (id : SlotId) (withdrawn : Bool) (s : State) : State :=
  { s with line := { s.line with state := .arbitrating, attempt := some (flight id withdrawn) } }

theorem test_witness_LostAndFailedAttemptsKeepTheFrame :
    let r := { s1 with slots := { s1.slots with release := { frame := some 1, amend := some 2 } } }
    let c := { s1 with
      slots := { s1.slots with claim := some 0x0020 }, zones := { s1.zones with claim := .queued 0x0020 false } }
    let w := { flying .release false r with line := { (flying .release false r).line with failures := 15 } }
    (flying .release false r).line.attempt = some (flight .release false) ∧
      (advance 99 (flying .release false r)).uptime ≤ (flight .release false).tagSent ∧
      (flight .release false).tagSent < (advance 100 (flying .release false r)).uptime ∧
      (flight .touch true).withdrawn = true ∧ (flight .touch true).slot = .touch ∧
      (flying .claim true c).zones.claim = .queued 0x0020 false ∧ r.line.failures < 15 ∧ 15 ≤ w.line.failures ∧
      w.station.restartPending = false ∧ inCommit w = false ∧ w.probes.change.active = false ∧
      s1.line.attempt = none ∧ r.slots.release = { frame := some 1, amend := some 2 } ∧
      (after (.attemptFailed 7 100) w).line.state = .mute ∧
      (after (.arbitrationLost 99) (flying .release false r)).line.state = .receiving ∧
      (after (.arbitrationLost 99) (flying .release false r)).slots.release.frame = some 3 ∧
      (after (.arbitrationLost 100) (flying .release false r)).line.state = .sending ∧
      (after (.attemptFailed 7 100) (flying .release false r)).slots.release.frame = some 3 := by decide

theorem test_witness_LostAndFailed_head :
    let s := flying .notice false (withQ [sg .position .moving] s1)
    let n : NoticeFrame := { notice := .driveChange true, count := 1 }
    let w : State := { s with
      slots := { s.slots with notice := some n }, line := { s.line with failures := 15 } }
    w.motion.queue = [sg .position .moving] ∧ w.slots.notice = some n ∧
      ((after (.attemptFailed 7 100) w).notices.get 0).pending = true ∧
      ((after (.attemptFailed 7 100) w).motion.queue.map fun x => (x.state, x.outcome)) = [(.stopping, some .halted)] := by
  decide

theorem test_witness_SuccessfulAttemptsInformTheirOwner :
    let touch : State := { s1 with slots := { s1.slots with touch := some { point := 5, probe := 7, captureTick := 3 } } }
    let obj : ObjectFrame := { claimant := 9, zones := 0x0010 }
    let object : State := { sv with slots := { sv.slots with
      objects := sv.slots.objects.set 1 { frame := some obj, amend := none } } }
    let claim : State := { s1 with
      slots := { s1.slots with claim := some 0x0020 }, zones := { s1.zones with claim := .queued 0x0020 false } }
    let reply : State := placeReply { dest := 1, kind := 17, code := .done, detail := 0 } s1
    let pending : State := { reply with station := { reply.station with restartPending := true } }
    s1.inReset = false ∧ (flying .touch false touch).line.attempt = some (flight .touch false) ∧
      (flight .touch false).tagSent < (advance 100 (flying .touch false touch)).uptime ∧ touch.slots.touch.isSome = true ∧
      (object.slots.objects.get 1).frame = some obj ∧ claim.zones.claim = .queued 0x0020 false ∧
      (reply.slots.replies.get 0).isSome = true ∧ reply.station.restartPending = false ∧
      pending.station.restartPending = true ∧ (after (.attemptSuccess 100) (flying (.reply 0) false pending)).inReset = true ∧
      (after (.attemptSuccess 100) (flying (.reply 0) false reply)).inReset = false ∧
      (after (.attemptSuccess 100) (flying .claim false claim)).zones.claim = .window 0x0020 100 ∧
      (after (.attemptSuccess 100) (flying .claim false claim)).zones.view.get 5 =
        some { holder := 3, standing := .tentative, since := 100 } := by decide

theorem test_witness_Successful_points :
    let p : PointRecord :=
      { number := 1, segment := 0, probe := 7, flags := PointFlags.none, mask := 7, coords := [1, 2, 3], companion := none
        state := .offered, expected := 0, captureTick := 0, announced := false, timer := none }
    let s : State := { s1 with
      capture := { s1.capture with points := [p] }, slots := { s1.slots with point := some p.frame } }
    let x : StatusFrame := { dest := 1, sect := 0, index := 0, content := [] }
    let o : State := { s1 with overrun := true, slots := { s1.slots with status := some x } }
    (flying .point false s).capture.points = [p] ∧ p.state = .offered ∧
      (after (.attemptSuccess 100) (flying .point false s)).capture.points = [] ∧ o.slots.status = some x ∧
      (after (.attemptSuccess 100) (flying .status false o)).overrun = false ∧
      (after (.attemptSuccess 100) (flying .status false { o with overrunSince := true })).overrun = true := by decide

theorem test_witness_Successful_loads :
    let s := latchNotice (.driveChange true) s1
    joined s = true ∧ s.slots.notice = none ∧ (s.notices.get 0).pending = true ∧ (∀ j : Fin 9, j < 0 → (s.notices.get j).pending = false) ∧
      (s.notices.get 0).detail = some (.driveChange true) := by decide

/-- Seven dominant bits: a stuff error. A frame of kind 9 with its acknowledge slot read recessive. -/
def stuffed : List Bool := List.replicate 7 false
def whole : List Bool := transmit 5 9 9 [3]

set_option maxRecDepth 4000 in
theorem test_witness_ReceiveErrorsAndDuplicatesAreFound :
    s1.inReset = false ∧ s1.line.state ≠ .offline ∧ s1.line.attempt = none ∧ receiveBits stuffed = .error .stuff ∧
      receiveBits whole = .ok { cls := 5, sender := 9, kind := 9, payload := [3] } ∧
      receiveBits (whole.set (whole.length - 1) false) = .error .format ∧ receiveBits (whole.take 20) = .error .cutShort ∧
      (onLine .offline s1).line.state = .offline ∧ (flying .touch false s1).line.attempt ≠ none := by decide

theorem test_witness_ReceiverTakesExactlyWhatIsSent :
    7 < 8 ∧ 31 < 32 ∧ (List.replicate 28 (0 : Byte)).length ≤ 28 ∧ 28 < 29 ∧ 31 < 32 ∧
      (∃ i, i < 7 ∧ [true, true, true, true, true, true, false][i]? = some false) ∧
      stuff none (List.replicate 8 false) = [] ++ (List.replicate 6 false ++ [true, false]) ++ [false] ∧
      (List.replicate 6 false ++ [true, false]).length = 8 := by decide

theorem test_witness_FramesAreFollowedAndIgnoredByRule :
    Hears 8 (fk 8 9 []) s1 ∧ Hears 27 (fk 27 9 [1]) s1 ∧ Hears 29 (fk 29 9 []) s0 ∧ Hears 30 (fk 30 9 []) (onLine .listenIntegrating s0) :=
  ⟨hears_of (by decide), hears_of (by decide), hears_of (by decide), hears_of (by decide)⟩

theorem test_witness_Frames_cases :
    s1.inReset = false ∧ s1.line.state ≠ .offline ∧ s1.line.attempt = none ∧ (fr 5 9 []).sender.toNat ≠ s1.line.number ∧
      classOf 9 ≠ some (fr 7 9 []).cls.toNat ∧ (fr 5 0 []).sender = 0 ∧ (fr 5 31 []).sender = 31 ∧
      (fr 5 3 []).sender.toNat = s1.line.number ∧ (onLine .offline s1).line.state = .offline ∧
      (after (.helloReceived (fk 3 3 [0, 0])) s1).station.mode = .offline := by decide

/-! Station control -/

/-- `s0` with its three axes set up. -/
def ss : State := { s0 with axes := s1.axes }

theorem test_witness_ArmDisarmAndRestartChangeTheStation :
    (cmdOk 15 (fk 15 1 [3, 0, 50]) ss && cmdOk 15 (fk 15 1 [3, 0, 50]) s0 && cmdOk 16 (fk 16 1 [3]) s1 &&
      cmdOk 16 (fk 16 1 [3, 0]) s1 && cmdOk 16 (fk 16 1 [3]) (withQ q8 s1) && cmdOk 17 (fk 17 1 [3]) s1 &&
      cmdOk 17 (fk 17 1 [3]) (chg .unlock) && cmdOk 17 (fk 17 1 [3, 0]) s1 && cmdOk 17 (fk 17 1 [3]) (onLine .mute s1)) = true ∧
      ss.station.mode ≠ .run ∧ (∀ i, ss.live i = true → (ss.axis i).record.setUp = true) ∧
      ¬ (∀ i, s0.live i = true → (s0.axis i).record.setUp = true) ∧ s1.station.mode = .run ∧
      (fk 16 1 [3]).sender.toNat = s1.station.controller ∧ s1.probes.change.active = false ∧ s1.motion.queue = [] ∧
      motionState s1 = .idle ∧ (withQ q8 s1).motion.queue ≠ [] ∧ (chg .unlock).probes.change.active = true ∧
      s1.line.state ≠ .mute ∧ (after (.arm (fk 15 1 [3, 0, 49])) ss).station.permitTime = 50 ∧
      (after (.arm (fk 15 1 [3, 4, 0])) ss).station.permitTime = 1000 ∧
      (after (.restart (fk 17 1 [3])) (onLine .mute s1)).inReset = true := by decide

/-- Payloads at the ends of their ranges. -/
def pStation : List Byte := [3, 0, 200, 0, 200, 78, 32] ++ b4 100000000 ++ b4 (-1) ++ [255, 255, 255, 7]
def pAxis : List Byte := [3, 1, 0, 1] ++ b4 (-5) ++ b4 5 ++ [78, 32] ++ b4 1000000 ++ [39, 16] ++ b4 5 ++ [1, 78, 32]
def pThermal : List Byte := [3] ++ b4 (-5000) ++ [1, 0, 1, 255, 255, 30, 0]
def pLinks : List Byte := [3, 30, 0x7F, 255, 255, 0xFE, 3]
def pRack : List Byte := [3, 7] ++ b4 1 ++ b4 2 ++ b4 3 ++ [3] ++ b4 (-1000000)

theorem test_witness_SetupFramesWriteWholeOrNothing :
    (cmdOk 19 (fk 19 1 pStation) s0 && cmdOk 20 (fk 20 1 pAxis) s0 && cmdOk 24 (fk 24 1 pThermal) s0 &&
      cmdOk 25 (fk 25 1 pLinks) s0 && cmdOk 26 (fk 26 1 pRack) s0) = true ∧ s0.station.mode ≠ .run ∧
      (pStation.length = 19 ∧ u16At pStation 1 ≤ 200 ∧ u16At pStation 5 ≤ 20000 ∧ s32At pStation 7 ≤ 100000000 ∧ byteAt pStation 15 = 255) ∧
      (pAxis.length = 27 ∧ s0.live 1 = true ∧ byteAt pAxis 2 = AxisKind.linear.code ∧ byteAt pAxis 3 = Role.zoneAxis.code ∧
        byteAt pAxis 24 ≤ 1 ∧ s32At pAxis 4 < s32At pAxis 8 ∧ u16At pAxis 12 ≤ 20000 ∧ u32At pAxis 14 ≤ 1000000 ∧
        u16At pAxis 18 ≤ 10000 ∧ u16At pAxis 25 ≤ 20000 ∧ s32At pAxis 20 ≤ s32At pAxis 8 ∧
        (∀ j, j ≠ 1 → (s0.axis j).record.role ≠ .zoneAxis)) ∧
      (pThermal.length = 12 ∧ -5000 ≤ s32At pThermal 1 ∧ byteAt pThermal 10 = 30) ∧
      (pLinks.length = 7 ∧ byteAt pLinks 1 = 30 ∧ (BitVec.ofNat 32 (u32At pLinks 2)).getLsbD 31 = false) ∧
      (pRack.length = 19 ∧ byteAt pRack 1 = (7 : Fin 8).val ∧ -1000000 ≤ s32At pRack 15) := by decide

theorem test_setups_answer :
    let code := fun (i : RxFrame → Instr) k p => ((after (i (fk k 1 p)) s0).slots.replies.get 0).map fun r => r.code
    code .setupStation 19 pStation = some .done ∧ code .setupAxis 20 pAxis = some .done ∧
      code .setupThermal 24 pThermal = some .done ∧ code .setupLinks 25 pLinks = some .done ∧
      code .setupRack 26 pRack = some .done ∧ code .setupStation 19 (pStation.set 2 201) = some .badValue ∧
      code .setupAxis 20 (pAxis.set 1 3) = some .badValue ∧ code .setupThermal 24 (pThermal.set 7 0) = some .badValue ∧
      code .setupLinks 25 (pLinks.set 1 3) = some .badValue ∧ code .setupRack 26 (pRack.set 1 8) = some .badValue := by decide

theorem test_witness_QueriesAreAnsweredByOneStatus :
    Hears 18 (fk 18 9 [3, 6, 15]) s1 ∧ Hears 18 (fk 18 9 [3, 6, 16]) s1 ∧ Hears 18 (fk 18 9 [3, 6, 16]) (full s1) :=
  ⟨hears_of (by decide), hears_of (by decide), hears_of (by decide)⟩

theorem test_witness_Queries_cases :
    (statusContent (heard (fk 18 9 [3, 6, 15]) s1) 6 15).isSome = true ∧
      statusContent (heard (fk 18 9 [3, 6, 16]) s1) 6 16 = none ∧ s1.slots.status = none ∧
      (after (.queryPoints (fk 18 9 [3, 6, 15])) s1).slots.status.isSome = true ∧
      (s1.slots.replies.get 0) = none ∧ (full s1).slots.replies.get 0 ≠ none ∧ (full s1).slots.replies.get 1 ≠ none ∧
      (after (.queryPoints (fk 18 9 [3, 6, 15])) (after (.queryPoints (fk 18 9 [3, 6, 15])) s1)).overrun = true ∧
      (statusContent s1 0 0).isSome = true ∧ s1.station.mode ≠ .offline := by decide

theorem test_witness_AccessChecksRefuseByModeAndSender :
    (cmdOk 9 (fk 9 1 [3, 0]) s0 && cmdOk 9 (fk 9 2 [3, 0]) s1 && cmdOk 15 (fk 15 1 [3]) s1) = true ∧
      s0.station.mode ≠ .run ∧ (fk 9 2 [3, 0]).sender.toNat ≠ s1.station.controller ∧
      hearsOk 11 (fk 11 1 [3]) (full s1) = true ∧ (full s1).slots.replies.get 0 ≠ none ∧
      (full s1).slots.replies.get 1 ≠ none ∧ hearsOk 11 (fk 11 1 []) s1 = true ∧ hearsOk 11 (fk 11 1 [4]) s1 = true ∧
      byteAt [4] 0 ≠ s1.line.number := by decide

/-! Invariants: they hold of states on the way -/

theorem test_witness_EveryStepKeepsTheBuffersBounded :
    (QueueBounded st ∧ PointsBounded st ∧ RingsBounded st) ∧
      ∃ t, step { st with pending := [.triggerDeflected 7] } = .next t :=
  ⟨⟨by unfold QueueBounded; decide, by unfold PointsBounded TailQueued; decide, by unfold RingsBounded; decide⟩, _, rfl⟩

theorem test_witness_EveryStepKeepsTheDrivesAndZonesSafe :
    let s := viewed [(4, hd 3 .firm)] (withQ [needs .position .moving, sg .probe .queued] s1)
    (DrivesSafe s ∧ StoppedMotionEmpty s ∧ QueueShaped s ∧ ZonesSafe s) ∧
      ∃ t, step { s with pending := [.servoSample 2500] } = .next t := by
  refine ⟨⟨by unfold DrivesSafe; decide, by unfold StoppedMotionEmpty; decide, ⟨by unfold TailQueued; decide, ?_⟩,
    by unfold TailQueued; decide, by unfold IdleOutsideRun; decide, ?_⟩, _, rfl⟩
  · intro seg rest h
    obtain ⟨rfl, -⟩ := List.cons.inj h
    decide
  · intro seg rest h
    obtain ⟨rfl, -⟩ := List.cons.inj h
    decide

theorem test_witness_EveryStepKeepsTheProbeTableAndBoundaries :
    (TableSafe (chg .unlock) ∧ BoundariesRise (chg .unlock)) ∧
      ∃ t, step { chg .unlock with pending := [.lockTimerExpiry 100] } = .next t :=
  ⟨⟨⟨by unfold TableDistinct; decide, by decide, by decide⟩, by unfold BoundariesRise; decide⟩, _, rfl⟩

/-! ### Worked tables of the spec -/

/-- The reads of a channel applied in order, with its state, average, rejects and held age after each. -/
def reads (f : Nat) (rs : List SensorRead) (ch : Channel) : Channel := rs.foldl (fun c r => (applyRead f r c).1) ch

/-- A VALID channel with this average. -/
def warm (a : Int) : Channel := { Channel.afterReset with state := .valid, average := a }

/-- spec/02, Worked sequence: a door is opened. -/
theorem test_door :
    let rs : List SensorRead := [.value 23100, .value 23250, .failed, .value 23300, .value 23320, .value 23340, .value 23288]
    let row := fun k => let c := reads 2 (rs.take k) (warm 21410); (c.state, c.average, c.rejects, c.heldAge)
    row 1 = (.held, 21410, 1, 1) ∧ row 3 = (.held, 21410, 2, 3) ∧ row 4 = (.held, 21410, 3, 4) ∧
      row 5 = (.valid, 23320, 0, 0) ∧ row 6 = (.valid, 23325, 0, 0) ∧ row 7 = (.valid, 23315, 0, 0) := by decide

/-- spec/02, Worked sequence: a sensor drops out and returns. -/
theorem test_dropout :
    let c := reads 2 (List.replicate 6 .failed) (warm 20812)
    let row := fun rs => let d := reads 2 rs { c with heldAge := 40 }; (d.state, d.average, d.settle, d.heldAge)
    (c.state, c.average, c.heldAge) = (.faulted, 20812, 6) ∧ row [.value 20790] = (.settling, 20790, 1, 0) ∧
      row [.value 20790, .value 20798] = (.settling, 20792, 2, 0) ∧
      row [.value 20790, .value 20798, .value 20801] = (.settling, 20794, 3, 0) ∧
      row [.value 20790, .value 20798, .value 20801, .value 20790] = (.valid, 20793, 0, 0) := by decide

/-- spec/02, The workpiece figure: the list 3, 4 and 7. -/
theorem test_mean :
    let t := fun a4 s7 : Nat => { Thermal.afterReset with
      entries := #v[some 3, some 4, some 7, none]
      channels := ((Thermal.afterReset.channels.set 3 (warm 21204)).set 4 { warm a4 with state := .held }).set 7
        { warm 21231 with state := if s7 = 0 then .valid else .faulted } }
    localFigure (t 21190 0) = { value := 21208, quality := .stale } ∧
      localFigure (t 21190 1) = { value := 21197, quality := .stale } ∧
      localFigure (t 21191 1) = { value := 21198, quality := .stale } := by decide

/-- spec/01, Drive demand figures. -/
theorem test_drive :
    let d := fun (change error : Int) => driveDemand 0 { Axis.afterReset with demand := change, position := change - error }
    d 1250 320 = 5005 ∧ d 1250 (-97) = 4998 ∧ d 0 32 = 1 ∧ d 0 (-32) = -1 ∧ d 5000 900000 = 32767 ∧
      d (-5000) (-900000) = -32767 := by decide

/-- spec/03, Worked correction on X: station 3 with channel 0 at 23,400 mK as A0's scale channel. -/
def sx (q : Quality) : State :=
  let s := sPeer .heard q (some 50000000)
  let s := s.setAxis 0 { s.axis 0 with comp :=
    { CompRecord.afterReset with
      alpha := 10500, scaleChannel := some 0, shift := 20, tip := some 0, datum := 5000000
      nodes := ((Vector.replicate 65 0).set 23 120).set 24 156 } }
  { s with
    thermal := { s.thermal with alphaW := 11700, channels := s.thermal.channels.set 0 (warm 23400) }
    probes := { s.probes with table := s.probes.table.set 0 { pr 7 2 .onHead with tip := #v[350000, -42000, -1180000] } } }

/-- spec/03, Worked correction on X, its STALE row, Scale channel FAULTED, and Worked inverse on X. -/
theorem test_correction_x :
    let bare := { sx .fresh with thermal := { (sx .fresh).thermal with channels := Vector.replicate 16 Channel.afterReset } }
    forward (sx .fresh) 0 25000000 true =
        { value := 25350552, mapOutside := false, clamped := false, stale := false, absent := false } ∧
      forward (sx .stale) 0 25000000 true =
        { value := 25350552, mapOutside := false, clamped := false, stale := true, absent := false } ∧
      forward bare 0 25000000 true =
        { value := 25349659, mapOutside := false, clamped := false, stale := false, absent := true } ∧
      inverse (sx .fresh) 0 25350552 = 25000000 := by decide

/-- A station of one axis with this record of compensation. -/
def sc (kind : AxisKind) (alphaW : Int) (c : CompRecord) : State :=
  let s := (sx .fresh).setAxis 0 { ax .other with record := { (ax .other).record with kind := kind }, comp := c }
  { s with thermal := { s.thermal with alphaW := alphaW, channels := s.thermal.channels.set 0 (warm 60000) } }

/-- spec/03, Limit cases, and Worked inverse on a steep map. -/
theorem test_correction_limits :
    let c : CompRecord := { CompRecord.afterReset with scaleChannel := some 0 }
    let zeros : Vector Int 65 := Vector.replicate 65 0
    forward (sc .linear 0 { c with shift := 16, nodes := zeros.set 64 (-210) }) 0 4200000 true =
        { value := 4199790, mapOutside := true, clamped := false, stale := false, absent := false } ∧
      forward (sc .linear 0 { c with origin := 600000000, alpha := 40000 }) 0 700000000 true =
        { value := 701000000, mapOutside := false, clamped := true, stale := false, absent := false } ∧
      forward (sc .linear 0 { c with origin := 1900000000, tip := some 0 }) 0 1999800000 true =
        { value := 2000000000, mapOutside := false, clamped := true, stale := false, absent := false } ∧
      forward (sc .angular 0 { c with
        origin := -2147483648, shift := 8, nodes := (zeros.set 14 (-500)).set 15 (-520) }) 0 (-2147480000) true =
        { value := -2000000000, mapOutside := false, clamped := true, stale := false, absent := false } ∧
      inverse (sc .angular 0 { c with shift := 10, nodes := zeros.set 6 100 }) 0 5632 = 5582 ∧
      (forward (sc .angular 0 { c with shift := 10, nodes := zeros.set 6 100 }) 0 5582 true).value = 5627 := by decide

/-- spec/04, Worked PROBE acceptance. -/
theorem test_probe_acceptance :
    let far := fun (x : Int) (a : Axis) => { a with
      position := x, demand := x, record := { a.record with maxSpeed := 5000, softMin := -100000000, softMax := 100000000 } }
    let s := ((s2.setAxis 0 (far 25000000 (s2.axis 0))).setAxis 1 (far 3000000 (s2.axis 1))).setAxis 2
      (far 8000000 (s2.axis 2))
    let p : List Byte := [3, 1, 1, 44, 6] ++ b4 3100000 ++ b4 8200000 ++ b4 10000
    ((after (.moveProbe (fk 9 1 p)) s).motion.queue.map fun x => (x.speed, x.searchEnd)) =
      [(141, some #v[25000000, 3104472, 8208944, 0])] := by decide

/-- spec/05, Worked needed sets: the bed of 6 m and station 3's arm. -/
def sbed : State :=
  let s := s1.setAxis 0 { s1.axis 0 with comp := { CompRecord.afterReset with bedOffset := 1500000 } }
  { s with
    zones := { s.zones with boundaries := tab15 fun j => 4000000 * (j.val + 1) }
    station := { s.station with halfWidth := 2500000, freeReach := 400000 } }

theorem test_needed_sets :
    travelSet sbed #v[20000000, 0, 11750, 0] #v[24000000, 0, 900000, 0] = 0x00F0 ∧
      travelSet sbed #v[24000000, 0, 11750, 0] #v[30000000, 0, 11750, 0] = 0 ∧
      travelSet sbed #v[24000000, 0, 900000, 0] #v[24000000, 0, 11750, 0] = 0 ∧
      travelSet sbed #v[24000000, 0, 900000, 0] #v[25000000, 0, 900000, 0] = 0x00E0 ∧
      travelSet sbed #v[24000000, 0, 11750, 0] #v[24000000, 0, 900000, 0] = 0x00E0 ∧
      stationarySet sbed #v[24000000, 0, 900000, 0] = 0x00E0 := by decide

/-- spec/05, Worked needed sets: the four SETUP ZONES frames. -/
theorem test_boundaries_loaded :
    let load := fun (first : Byte) (xs : List Int) (s : State) =>
      let t := after (.setupZones (fk 23 1 ([3, first] ++ xs.flatMap b4))) s
      ({ t with slots := Slots.empty }, (t.slots.replies.get 0).map fun r => r.code)
    let a := load 1 [4000000, 8000000, 12000000, 16000000, 20000000, 24000000] s0
    let b := load 13 [52000000, 56000000, 60000000] a.1
    let c := load 7 [28000000, 32000000, 36000000, 40000000, 44000000, 48000000] b.1
    let d := load 7 [20000000] c.1
    (a.2, b.2, c.2, d.2) = (some .done, some .done, some .done, some .badValue) ∧
      d.1.zones.boundaries.get 6 = 28000000 ∧ c.1.zones.boundaries = sbed.zones.boundaries := by decide

set_option maxRecDepth 8000 in
/-- spec/08, R153: the check register over the nine digits. -/
theorem test_check_register : checkOf ((List.range 9).flatMap fun i => bitsOf 8 (49 + i)) = 0x29B1 := by decide

/-- spec/08: the age of the worked TOUCH. -/
theorem test_touch_age : ageBytes 0 7002570 7000000 = put24 2570 := by decide

/-- spec/01, Worked reference of a reach axis: every entry is raised by 1,246,567. -/
theorem test_reference_offset :
    let seg : Segment := { sg .reference .moving with axis := 2 }
    let s := withQ [seg] (s1a 2 fun a => { a with
      record := { a.record with refValue := 12000 }, position := -1234567, demand := -1234567
      ring := [{ tick := 0, count := 0 }, { tick := 2500, count := -1234567 }] })
    let a := (after (.referenceMark 2 5000) s).axis 2
    (a.position, a.demand, a.referenced, a.ring.map fun e => e.count) = (12000, 12000, true, [1246567, 12000]) := by decide

/-! ### Further clauses -/

/-- The codes of a REPLY. -/
def code (i : Instr) (s : State) : Option (ReplyCode × Nat) :=
  ((after i s).slots.replies.get 0).map fun r => (r.code, r.detail)

/-- A head whose path ends in the next servo period, axis 1 standing at `x`. -/
def near (kind : SegKind) (x : Int) : State :=
  let seg : Segment := { sg kind .moving with
    searchEnd := if kind = .probe then some #v[0, 1000, 0, 0] else none
    traj := { (sg kind .moving).traj with s := 65535999 } }
  withQ [seg, sg .position .queued] (s1a 1 fun a => { a with position := x, demand := 999 })

/-- Only the head, at the rest of its stop. -/
def stopped : State :=
  withQ [{ sg .position .stopping with outcome := some .halted, traj := { (sg .position .stopping).traj with u := 0 } }] s1

theorem test_witness_SettleTimeout_ends :
    SoundSample 2500 (near .position 995) ∧ SoundSample 2500 (near .position 980) ∧ SoundSample 2500 (near .probe 995) ∧
      SoundSample 2500 stopped ∧ ampOn stopped = true ∧ ampOn (near .probe 995) = true ∧ stopped.inReset = false ∧
      ((after (.servoSample 2500) (near .position 995)).motion.queue.map fun x => x.state) = [.moving] ∧
      ((after (.servoSample 2500) (near .position 980)).motion.queue.map fun x => x.state) = [.moving, .queued] ∧
      (after (.servoSample 2500) (near .probe 995)).motion.queue = [] ∧
      (after (.servoSample 2500) stopped).motion.queue = [] := by
  unfold SoundSample; decide

/-- A search of axis 1 whose demand travel passes 2^31 − 1 counts in the next period. -/
def lost : State :=
  withQ [{ sg .reference .moving with
    axis := 1
    traj := { (sg .reference .moving).traj with start := #v[0, -1000000, 0, 0], s := 140737488322560, u := 65536 } }]
    (s1a 1 fun a => { a with position := 2146483640, demand := 2146483648 })

theorem test_witness_SettleTimeout_notFound :
    ampOn lost = true ∧ lost.live 1 = true ∧
      (lost.motion.queue.map fun x => decide (2147483647 < roundDiv (stepSegment (advance 2500 lost) x).traj.s 65536)) = [true] ∧
      lost.motion.queue.map (fun x => (x.kind, x.state, x.traj.marked)) = [(.reference, .moving, false)] ∧
      periodFaults (demands lost) (sampled 2500 lost) = [(1, .notFound)] ∧
      (after (.servoSample 2500) lost).gate = .faulted ∧ (after (.servoSample 2500) lost).motion.queue = [] := by decide

/-- R46, R48: the clamps act on both kinds of axis. -/
theorem test_witness_ForwardCorrection_clamped :
    let s := sc .linear 0 { CompRecord.afterReset with origin := 1900000000 }
    let a := s.setAxis 0 { s.axis 0 with record := { (s.axis 0).record with kind := .angular } }
    (forward s 0 2000000001 false).clamped = true ∧ (forward s 0 2000000001 false).value = 2000000000 ∧
      (forward a 0 2000000001 false).clamped = true ∧ (forward a 0 2000000001 false).value = 2000000000 := by decide

/-- R68: the path of one moved axis, of a turned one, and of none. -/
theorem test_witness_HeadMoves_trajectory :
    let len := fun s : State => (evaluateHead s).motion.queue.map fun x => (x.traj.len, x.traj.pathSpeed)
    let turns := s1a 1 fun a => { a with record := { a.record with kind := .angular, maxSpeed := 60 } }
    let still := s1a 1 fun a => { a with demand := 1000 }
    len (withQ [sg .position .waiting] s1) = [(1000, 100)] ∧ len (withQ [sg .position .waiting] turns) = [(1000, 60)] ∧
      len (withQ [sg .position .waiting] still) = [(0, 100)] := by decide

theorem test_witness_Trajectories_periods :
    let m := sg .position .moving
    let fast : Segment := { m with traj := { m.traj with u := 1638400, s := 65000000 } }
    let r := sg .reference .moving
    let marked : Segment := { r with traj := { r.traj with marked := true } }
    let late : Segment := { m with state := .stopping, traj := { m.traj with s := 65535000, u := 163840 } }
    let early : Segment := { m with state := .stopping, traj := { m.traj with u := 163840 } }
    1 ≤ s1.station.accel ∧ s1.station.stopDecel = 20 ∧ m.traj.arrived = false ∧ (stepSegment s1 m).traj.u = 57344 ∧
      (stepSegment s1 fast).decelerating = true ∧ (stepSegment s1 fast).traj.u = 1597440 ∧
      (stepSegment s1 r).traj.u = 57344 ∧ (stepSegment s1 marked).traj.u = 0 ∧
      (stepSegment s1 marked).traj.settle = some 5000000 ∧ (stepSegment s1 early).traj.u = 81920 ∧
      (stepSegment s1 late).traj.u = 0 ∧ late.traj.s + 1000 = late.traj.len * 65536 := by decide

/-- R58 to R61: each refusal of a MOVE. -/
theorem test_witness_Move_refusals :
    let p := fun (mask : Byte) (speed : Byte) (x : Int) => fk 9 1 ([3, 0, 0, speed, mask] ++ b4 x)
    let unknown := s1a 1 fun a => { a with referenced := false }
    (cmdOk 9 (p 2 5 7) s1 && cmdOk 9 (p 16 5 7) s1 && cmdOk 9 (p 2 5 7) (withQ q8 s1) && cmdOk 9 (p 2 5 7) unknown &&
      cmdOk 9 (p 2 5 7) (chg .unlock)) = true ∧
      code (.movePosition (p 16 5 7)) s1 = some (.badValue, 0) ∧ code (.movePosition (p 8 5 7)) s1 = some (.badValue, 0) ∧
      code (.movePosition (p 2 5 7)) (chg .unlock) = some (.busy, 0) ∧
      code (.movePosition (p 2 5 7)) (withQ q8 s1) = some (.queueFull, 0) ∧
      code (.moveProbe (p 2 5 7)) unknown = some (.notReferenced, 0) ∧
      code (.movePosition (p 2 0 7)) s1 = some (.badValue, 0) ∧
      code (.movePosition (p 2 5 1000001)) s1 = some (.outOfRange, 0) ∧
      code (.movePosition (p 2 5 1000000)) s1 = some (.accepted, 0) := by decide

/-- R59, R61: each refusal of a MOVE of kind PROBE past the shared checks. -/
theorem test_witness_MoveProbe_refusals :
    let p := fun (speed : Byte) (x d : Int) => fk 9 1 ([3, 1, 0, speed, 2] ++ b4 x ++ b4 d)
    (cmdOk 9 (p 5 7 9) s1 && cmdOk 9 (p 5 7 0) s2) = true ∧ onHead? s1 = none ∧
      code (.moveProbe (p 5 7 9)) s1 = some (.badValue, 0) ∧ code (.moveProbe (p 5 7 0)) s2 = some (.badValue, 0) ∧
      code (.moveProbe (p 5 7 2000001)) s2 = some (.badValue, 0) ∧ code (.moveProbe (p 0 7 9)) s2 = some (.badValue, 0) ∧
      code (.moveProbe (p 5 1000001 9)) s2 = some (.outOfRange, 0) ∧ code (.moveProbe (p 5 0 9)) s2 = some (.badValue, 0) ∧
      code (.moveProbe (p 5 7 9)) s2 = some (.accepted, 0) := by decide

theorem test_witness_Reference_refusals :
    (cmdOk 10 (fk 10 1 [3]) s1 && cmdOk 10 (fk 10 1 [3, 1]) (chg .unlock)) = true ∧
      code (.reference (fk 10 1 [3])) s1 = some (.badValue, 0) ∧
      code (.reference (fk 10 1 [3, 1])) (chg .unlock) = some (.busy, 0) ∧
      code (.reference (fk 10 1 [3, 1])) (driven false .disabled s1) = some (.busy, 0) := by decide

/-- A change in TRAVEL-DROP with its segment in state `k`, speed `u`. -/
def travel (k : SegState) (u : Nat) : State :=
  let seg : Segment := { sg .rackTravel k with
    issuer := .probeUnit, number := 9, outcome := if k = .stopping then some .conflict else none
    traj := { (sg .rackTravel k).traj with u := u } }
  withQ [seg] { chg .travelDrop with motion := { s1.motion with permitTimer := some 100 } }

/-- The change inside its first commit stretch, the permit timer at tick 100. -/
def commit : State := { chg .unlock with motion := { s1.motion with permitTimer := some 100 } }

/-- The states meet `Shedding` and `Speedless`. -/
theorem test_witness_heads :
    (∀ seg ∈ (travel .moving 5).motion.queue, Shedding seg) ∧ (∀ seg ∈ (travel .moving 0).motion.queue, Speedless seg) ∧
      inCommit commit = true ∧ inCommit (travel .moving 5) = false ∧ commit.probes.change.result = none ∧
      (travel .moving 5).probes.change.active = true := by
  unfold Shedding Speedless; decide

set_option maxRecDepth 16000 in
/-- R142: HALT in a change. -/
theorem test_witness_Halt_change :
    let ended : State := { travel .stopping 5 with probes := { (travel .stopping 5).probes with
      change := { (travel .stopping 5).probes.change with
        result := some { outcome := .failed, phase := 1, cause := .conflict, idRead := 0 } } } }
    (hearsOk 0 (fk 0 9 [3]) commit && hearsOk 0 (fk 0 9 [3]) (travel .moving 5) && hearsOk 0 (fk 0 9 [3]) ended) = true ∧
      (after (.halt (fk 0 9 [3])) commit).probes.change.deferred = .halted ∧
      ((after (.halt (fk 0 9 [3])) (travel .moving 5)).motion.queue.map fun x => (x.state, x.outcome)) =
        [(.stopping, some .halted)] ∧
      ((after (.halt (fk 0 9 [3])) (travel .moving 0)).probes.change.last.map fun r => (r.outcome, r.phase, r.cause)) =
        some (.aborted, 1, .halted) ∧
      (after (.halt (fk 0 9 [3])) ended).probes.change = ended.probes.change := by decide

theorem test_witness_Halt_heads :
    let q := fun k => withQ [sg .position k, sg .position .queued] s1
    (after (.halt (fk 0 9 [3])) (q .waiting)).motion.queue = [] ∧
      ((after (.halt (fk 0 9 [3])) (q .stopping)).motion.queue.map fun x => x.flushed) = [1] := by decide

set_option maxRecDepth 16000 in
/-- R143: an expiry in a change, and the end of a stretch that deferred it. -/
theorem test_witness_Permit_change :
    let t := after (.permitTimerExpiry 100) commit
    let u := after (.lockStateInput true false 200) { cph .lock false with
      probes := { (cph .lock false).probes with
        change := { (cph .lock false).probes.change with deferred := .lapsed, expiry := .timer } } }
    commit.motion.permit = .valid ∧ commit.motion.permitTimer = some 100 ∧ t.motion.permit = .valid ∧
      (t.probes.change.deferred, t.probes.change.expiry, t.motion.permitTimer) = (.lapsed, .timer, none) ∧
      ((after (.permitTimerExpiry 100) (travel .moving 0)).probes.change.last.map fun r => r.cause) = some .lapsed ∧
      (after (.permitTimerExpiry 100) (travel .moving 0)).motion.permit = .lapsed ∧
      u.motion.queue = [] ∧ u.motion.permit = .lapsed ∧
      (u.probes.change.last.map fun r => (r.outcome, r.phase, r.cause)) = some (.aborted, 10, .lapsed) := by decide

theorem test_witness_Hello_change :
    (hearsOk 3 (fk 3 1 [3, 1]) commit && hearsOk 3 (fk 3 1 [3, 1]) (travel .moving 5)) = true ∧
      (after (.helloReceived (fk 3 1 [3, 1])) commit).probes.change.expiry = .hello ∧
      (after (.helloReceived (fk 3 1 [3, 1])) commit).motion.permit = .valid ∧
      ((after (.helloReceived (fk 3 1 [3, 1])) (travel .moving 5)).motion.queue.map fun x => x.outcome) = [some .lapsed] := by
  decide

theorem test_witness_NeededSet_cases :
    let lone := s1a 2 fun a => { a with referenced := false }
    let held := viewed [(4, hd 3 .firm)] lone
    (held.axis 2).referenced = false ∧ stationarySet held #v[0, 0, 5, 0] = 0x0010 ∧
      neededSet s1 { sg .reference .queued with axis := 2 } = 0 ∧
      neededSet held { sg .reference .queued with axis := 1 } = 0x0010 ∧
      neededSet s1 (sg .probe .queued) = travelSet s1 (demands s1) #v[0, 1000, 0, 0] := by decide

set_option maxRecDepth 16000 in
/-- R107, R109, R145: what a touch does to the other heads. -/
theorem test_witness_TouchElsewhere_heads :
    let touch := fun s : State => after (.triggerDeflected 7) s
    let idle : Segment := { sg .position .moving with traj := { (sg .position .moving).traj with arrived := true } }
    (touch (withQ [idle, sg .probe .queued] s2)).motion.queue = [] ∧
      ((touch (withQ [sg .reference .stopping, sg .probe .queued] s2)).motion.queue.map fun x => (x.flushed, x.outcome)) =
        [(1, none)] ∧
      (travel .stopping 5).probes.change.expiry = .none ∧
      (touch (travel .stopping 5)).probes.change = (travel .stopping 5).probes.change ∧
      ((touch (travel .moving 5)).motion.queue.map fun x => x.outcome) = [some .collision] ∧
      ((touch (travel .moving 5)).probes.change.result.map fun r => (r.outcome, r.phase, r.cause)) =
        some (.failed, 1, .collision) ∧
      (touch (travel .moving 0)).probes.change.active = false ∧
      (touch (withQ [sg .rackInsert .moving] (chg .insert))).notices = s2.notices := by decide

/-- The change in `ph` with its segment one servo period from its end. -/
def arriving (ph : Phase) (locked : Bool) : State :=
  let s := chg ph
  let kind : SegKind := if ph = .travelDrop ∨ ph = .travelPick then .rackTravel else .rackInsert
  let seg : Segment := { sg kind .moving with
    issuer := .probeUnit, traj := { (sg kind .moving).traj with s := 65535999 } }
  let t := withQ [seg] (s.setAxis 1 { s.axis 1 with position := 999, demand := 999 })
  { t with pins := { t.pins with locked := locked } }

theorem test_witness_ChangePhases_arrives : ∃ seg, Arrives 2500 (arriving .travelDrop true) seg ∧
    (arriving .travelDrop true).motion.queue = [seg] ∧ seg.issuer = .probeUnit ∧
    (arriving .travelDrop true).probes.change.expiry = .none :=
  ⟨_, ⟨by decide, by decide, by unfold SoundSample; decide, by decide, by decide, by decide, by decide⟩, rfl, rfl, rfl⟩

set_option maxRecDepth 16000 in
theorem test_witness_ChangePhases_ended :
    let t := fun ph locked => ((after (.servoSample 2500) (arriving ph locked)).probes.change)
    (t .travelDrop true).phase = some .openDrop ∧ (t .travelDrop true).timer = some 20002500 ∧
      (t .insert true).phase = some .unlock ∧ (t .detach true).segArrived = true ∧
      (t .travelPick true).phase = some .openPick ∧ (t .engage false).phase = some .lock ∧
      (t .withdraw true).phase = some .closePick ∧
      ((after (.servoSample 2500) { arriving .withdraw true with pins := { (arriving .withdraw true).pins with
        ports := (arriving .withdraw true).pins.ports.set 5 { openIn := false, closedIn := false, present := true } } }
        ).probes.change.last.map fun r => (r.phase, r.cause)) = some (12, .presenceFault) := by decide

set_option maxRecDepth 4000 in
theorem test_witness_ChangePhases_others :
    let s := cph .openPick false
    let pick : State := { s with
      pins := { s.pins with unlocked := true }
      probes := { s.probes with ports := s.probes.ports.set 5 { Port.afterReset with lidOpen := true } } }
    let opened : State := { pick with pins := { pick.pins with
      unlocked := false, ports := pick.pins.ports.set 5 { openIn := true, closedIn := false, present := true } } }
    let drop : State := { cph .closeDrop true with probes := { (cph .closeDrop true).probes with
      ports := (cph .closeDrop true).probes.ports.set 2 Port.afterReset } }
    lockState pick = .unlocked ∧ lidState opened 5 = .opened ∧ lockState opened ≠ .unlocked ∧
      (after (.lidStateInput 5 true false 9) pick).probes.change.phase = some .engage ∧
      (after (.lockStateInput false true 9) opened).probes.change.phase = some .engage ∧
      (after (.lidStateInput 2 false true 9) drop).probes.change.phase = some .travelPick ∧
      ((after (.lidStateInput 5 false true 9) (cph .closePick true)).probes.change.last.map fun r => r.outcome) = some .done := by
  decide

theorem test_witness_ChangePhases_reads :
    let last := fun s id => ((after (.identityReadComplete id 9) s).probes.change.last.map fun r => (r.phase, r.cause, r.idRead))
    let gone : State := { cph .detach true with pins := s2.pins }
    let unread : State := { cph .detach true with probes := { (cph .detach true).probes with
      change := { (cph .detach true).probes.change with readBegun := false } } }
    last (cph .detach true) 7 = some (5, .dropFault, 0) ∧ last gone 0 = some (5, .presenceFault, 0) ∧
      last (cph .identify true) 0 = some (11, .pickFault, 0) ∧ last (cph .identify true) 7 = some (11, .wrongProbe, 7) ∧
      ((after (.identityReadComplete 7 9) (cph .identify true)).probes.table.get 3).location = .onHead ∧
      (after (.identityReadComplete 0 9) unread).probes.change.active = true := by decide

set_option maxRecDepth 4000 in
/-- R132: the refusals of checks 5 to 8. -/
theorem test_witness_ProbeChange_refusals :
    let reply := fun s => code (.probeChange (fk 12 1 [3, 11])) s
    let bare := fun (f : Fin 8) => { srack with probes := { srack.probes with
      ports := srack.probes.ports.set f.val { srack.probes.ports.get f with configured := false } } }
    let port := fun (f : Fin 8) (g : Port → Port) => { srack with probes := { srack.probes with
      ports := srack.probes.ports.set f.val (g (srack.probes.ports.get f)) } }
    reply (bare 5) = some (.badValue, 7) ∧ reply { srack with station := { srack.station with rackZone := none } } = some (.badValue, 0) ∧
      reply (bare 2) = some (.badValue, 1) ∧
      reply { srack with pins := { srack.pins with locked := false } } = some (.busy, 1) ∧
      reply (port 2 fun p => { p with insertAxis := 3 }) = some (.badValue, 1) ∧
      reply (port 2 fun p => { p with insertDepth := 1000001 }) = some (.outOfRange, 1) ∧
      reply (port 5 fun p => { p with approach := #v[0, 0, 0] }) = some (.badValue, 7) ∧
      reply (port 5 fun p => { p with insertDepth := -1000001 }) = some (.outOfRange, 7) ∧
      reply srack = some (.accepted, 0) := by decide

set_option maxRecDepth 4000 in
/-- A record ON HEAD becomes UNKNOWN when the head reads 0. -/
theorem test_witness_ProbeChange_unknown :
    let s : State := { srack with probes := { srack.probes with identity := 0 } }
    code (.probeChange (fk 12 1 [3, 11])) s = some (.accepted, 0) ∧
      ((after (.probeChange (fk 12 1 [3, 11])) s).probes.table.get 3).location = .unknown ∧
      ((after (.probeChange (fk 12 1 [3, 11])) s).motion.queue.map fun x => (x.kind, x.targets, x.speed)) =
        [(.rackTravel, #v[0, 0, 1, 0], 1000)] := by decide

/-- R154: the HELLO that lost begins no attempt before the winning frame ends. -/
theorem test_lost_hello_waits :
    let s := { onLine .listenAnnouncing s1 with slots := { s1.slots with hello := true } }
    let lost := after (.arbitrationLost 120) (after (.attemptStart 107) s)
    lost.line.idleAt = none ∧ lost.line.state = .listenAnnouncing ∧ lost.slots.hello = true ∧
      (after (.attemptStart 5000) lost).line.attempt = none := by decide

set_option maxRecDepth 4000 in
/-- R142: MUTE in a change. -/
theorem test_witness_LostAndFailed_change :
    let fly := fun s : State => let t := flying .notice false s; { t with line := { t.line with failures := 15 } }
    let u := after (.attemptFailed 7 100) (fly commit)
    let v := after (.attemptFailed 7 100) (fly (travel .moving 5))
    u.line.state = .mute ∧ u.probes.change.deferred = .mute ∧
      (v.motion.queue.map fun x => (x.state, x.outcome)) = [(.stopping, some .halted)] ∧
      (v.probes.change.result.map fun r => (r.outcome, r.cause)) = some (.aborted, .mute) := by decide

/-- A frame of station 3 that passed its check, with a dominant bit in its end field; bits that fall in an interframe. -/
def own : List Bool := (transmit 5 3 9 [3]).set ((transmit 5 3 9 [3]).length - 1) false

set_option maxRecDepth 4000 in
theorem test_witness_ReceiveErrors_own :
    let busy : State := { s1 with line := { s1.line with state := .receiving, idleAt := some 900 } }
    receiveBits own = .error .format ∧ checkedSender own = some s1.line.number ∧
      (after (.frameReceiveError own 400 2000) s1).line.state = .offline ∧
      (after (.frameReceiveError [false, true] 400 500) busy).line.idleAt = some 597 ∧
      (after (.frameReceiveError [false, true] 400 500) busy).line.lastSof = 0 ∧
      (after (.frameReceiveError [true, true] 400 500) busy).line.idleAt = some 900 ∧
      (after (.frameReceiveError (List.replicate 7 false) 400 500) s1).line.lastSof = 400 := by decide

set_option maxRecDepth 4000 in
/-- R150: a length error on a run of six equal bits is found at once. -/
theorem test_length_error_at_once :
    receiveBits (stuff none (false :: bitsOf 3 5 ++ bitsOf 5 4 ++ bitsOf 5 9 ++ bitsOf 4 15) ++ [true]) = .error .length ∧
      receiveBits (stuff none (false :: bitsOf 3 5 ++ bitsOf 5 4 ++ bitsOf 5 9 ++ bitsOf 5 31)) = .error .length := by decide

/-- R199 to R204: a content for each section. -/
theorem test_witness_Queries_fields :
    (statusContent s1 1 0).isSome = true ∧ (statusContent s1 2 15).isSome = true ∧ (statusContent s1 2 16).isSome = true ∧
      (statusContent s1 3 15).isSome = true ∧ (statusContent s1 3 16).isSome = true ∧ (statusContent s2 4 3).isSome = true ∧
      (statusContent s2 5 7).isSome = true ∧ (statusContent s2 5 8).isSome = true ∧ (statusContent s2 6 15).isSome = true ∧
      ((statusContent s2 4 3).map fun c => (byteAt c 0, byteAt c 1, byteAt c 2, u32At c 15)) = some (7, 2, 0, 500) ∧
      ((statusContent sv 2 6).map fun c => (byteAt c 0, byteAt c 1)) = some (9, 1) := by decide

/-! ### Power loss and failing phases in a change -/

/-- The outcome last taken, in short. -/
def ended (s : State) : Option (ChangeOutcome × Nat × ChangeCause) :=
  s.probes.change.last.map fun r => (r.outcome, r.phase, r.cause)

/-- `s` with an outcome taken by its change. -/
def taken (s : State) : State :=
  let r : ChangeResult := { outcome := .failed, phase := 1, cause := .conflict, idRead := 0 }
  { s with probes := { s.probes with change := { s.probes.change with result := some r, last := some r } } }

/-- The change in `ph`, the drop lid OPEN, with an expiry deferred. -/
def deferring (ph : Phase) : State :=
  { cph ph true with probes := { (cph ph true).probes with change := { (cph ph true).probes.change with expiry := .hello } } }

set_option maxRecDepth 16000 in
/-- R144: a motion fault in a commit stretch, and after an outcome has been taken. -/
theorem test_witness_MotionFault_change :
    let t := motionFault 0 .encoder (deferring .unlock)
    let u := motionFault 0 .encoder (taken (travel .stopping 5))
    (deferring .unlock).probes.change.active = true ∧ (deferring .unlock).probes.change.result = none ∧
      (taken (travel .stopping 5)).probes.change.result.isSome = true ∧
      ended t = some (.failed, 4, .motionFault) ∧ (t.probes.table.get 3).location = .unknown ∧
      (t.probes.table.get 4).location = .unknown ∧ (t.probes.ports.get 2).lidOpen = true ∧ t.motion.permit = .lapsed ∧
      (t.notices.get 5).detail = some (.permitLapsed true) ∧
      ended u = some (.failed, 1, .conflict) ∧ (u.probes.table.get 3).location = .unknown := by decide

set_option maxRecDepth 4000 in
/-- R90, R81: with no change in progress a QUEUED claim of the head is withdrawn and the zones go free. -/
theorem test_witness_MotionFault_zones :
    let s : State := withQ [sg .position .waiting] { sv with
      slots := { sv.slots with claim := some 0x0800 }, zones := { sv.zones with claim := .queued 0x0800 false } }
    let t := motionFault 0 .encoder s
    s.probes.change.active = false ∧ s.motion.queue = [sg .position .waiting] ∧ inFlight s .claim = false ∧
      t.zones.claim = .none ∧ t.slots.claim = none ∧ t.zones.view.get 4 = none ∧ t.zones.view.get 7 = some (hd 9 .firm) ∧
      t.probes = s.probes ∧ (motionFault 0 .encoder sv).zones = sv.zones := by decide

set_option maxRecDepth 16000 in
/-- R144: drive-enable falls in a change. -/
theorem test_witness_DriveEnable_change :
    let t := after (.driveEnableFall 9) (deferring .detach)
    (deferring .detach).inReset = false ∧ (deferring .detach).pins.driveEnable = true ∧
      ended t = some (.failed, 5, .drivesOff) ∧ (t.probes.table.get 4).location = .unknown ∧
      (t.probes.ports.get 2).lidOpen = true ∧ t.motion.permit = .lapsed := by decide

set_option maxRecDepth 16000 in
/-- R144: the entry into OFFLINE in a change. -/
theorem test_witness_ReceiveErrors_change :
    let s := travel .moving 5
    let t := after (.duplicateNumber 4 9) s
    s.inReset = false ∧ s.line.state ≠ .offline ∧ s.line.attempt = none ∧ s.station.restartPending = false ∧
      s.probes.change.active = true ∧ ended t = some (.failed, 1, .drivesOff) ∧
      (t.probes.table.get 3).location = .unknown ∧ (t.notices.get 4).pending = true ∧
      (after (.duplicateNumber 4 9) s2).probes = s2.probes := by decide

/-- The change in DETACH with its segment in its settling wait to tick 100. -/
def settling : State :=
  let seg : Segment := { sg .rackInsert .moving with
    issuer := .probeUnit, traj := { (sg .rackInsert .moving).traj with arrived := true, settle := some 100 } }
  withQ [seg] (chg .detach)

set_option maxRecDepth 16000 in
/-- R134: UNSETTLED and CONFLICT fail the phase. -/
theorem test_witness_SettleTimeout_rack :
    let t := after (.settleTimeout 100) settling
    (settling.motion.queue.map fun x => (x.issuer, x.state, x.traj.settle)) = [(.probeUnit, .moving, some 100)] ∧
      ended t = some (.failed, 5, .settleFault) ∧ (t.probes.table.get 3).location = .unknown ∧
      ended (after (.settleTimeout 99) settling) = none ∧
      ended (after (.servoSample 2500) (travel .stopping 0)) = some (.failed, 1, .conflict) ∧
      (after (.servoSample 2500) (taken (travel .stopping 0))).probes.change.active = false := by decide

theorem test_witness_SettleTimeout_rack_sound :
    SoundSample 2500 (travel .stopping 0) ∧ SoundSample 2500 (taken (travel .stopping 0)) ∧
      ampOn (travel .stopping 0) = true ∧
      ((travel .stopping 0).motion.queue.map fun x => (x.issuer, x.state, x.outcome, (stepSegment (advance 2500 (travel .stopping 0)) x).traj.u)) =
        [(.probeUnit, .stopping, some .conflict, 0)] := by
  unfold SoundSample; decide

set_option maxRecDepth 16000 in
/-- R97: a late objection finds the head STOPPING, in its settling wait, in a change, or on other zones. -/
theorem test_witness_ObjectionHeard_heads :
    let m := needs .position .moving
    let wait : Segment := { m with traj := { m.traj with arrived := true } }
    let hear := fun s => after (.zoneObjectReceived (fk 2 9 [3, 0, 0x10])) s
    let rack := withQ [{ wait with issuer := .probeUnit, kind := .rackTravel }] { chg .travelPick with zones := sv.zones }
    wait.needed.getD 0 &&& 0x0010 ≠ 0 ∧ wait.state = .moving ∧ rack.probes.change.active = true ∧
      rack.probes.change.result = none ∧
      ((hear (withQ [needs .position .stopping, m] sv)).motion.queue.map fun x => (x.state, x.flushed)) = [(.stopping, 1)] ∧
      (hear (withQ [wait] sv)).motion.queue = [] ∧ ended (hear rack) = some (.failed, 7, .conflict) ∧
      (hear (withQ [sg .position .moving] sv)).motion.queue = [sg .position .moving] := by decide

set_option maxRecDepth 4000 in
/-- R155: the timer of a point runs out while its TOUCH is in flight: held up to the last tick of the tag, and past it
without effect. -/
theorem test_witness_Awaiting_flying :
    let s := after (.triggerDeflected 7) st
    let f := fun tag => { s with line := { s.line with
      state := .arbitrating, attempt := some { flight .touch false with tagSent := tag } } }
    let late := fun tag => after (.companionTimerExpiry 0 250007) (f tag)
    s.slots.touch.isSome = true ∧ (f 250007).line.attempt.map (fun x => x.slot) = some .touch ∧
      (late 250007).line.attempt.map (fun x => x.withdrawn) = some true ∧
      (late 250006).line.attempt.map (fun x => x.withdrawn) = some false ∧
      (late 250007).slots.touch = s.slots.touch ∧ (late 250006).slots.touch = s.slots.touch ∧
      (after (.companionTimerExpiry 0 250007) s).slots.touch = none := by decide

/-- The change in `ph`, its lids OPEN, with this segment. -/
def standing (ph : Phase) (q : List Segment) : State :=
  let s := chg ph
  let open_ : PortPins := { openIn := true, closedIn := false, present := true }
  let port : Port := { Port.afterReset with lidOpen := true }
  withQ q { s with
    pins := { s.pins with ports := (s.pins.ports.set 2 open_).set 5 open_ }
    probes := { s.probes with ports := (s.probes.ports.set 2 port).set 5 port } }

set_option maxRecDepth 16000 in
/-- R131, R141: the lid leaves OPEN under the head, with a segment and without. -/
theorem test_witness_HeadAndRackInputs_lid :
    let seg : Segment := { sg .rackInsert .moving with issuer := .probeUnit }
    let rest : Segment := { seg with traj := { seg.traj with u := 0 } }
    let stop : Segment := { seg with state := .stopping, outcome := some .conflict }
    let shut := fun p s => after (.lidStateInput p false false 9) s
    let t := shut 2 (standing .insert [seg])
    let u := shut 5 (standing .identify [])
    headStands (standing .insert [seg]).probes.change 2 = true ∧
      headStands (standing .identify []).probes.change 5 = true ∧
      (t.motion.queue.map fun x => (x.state, x.outcome)) = [(.stopping, some .halted)] ∧
      (t.probes.change.result.map fun r => (r.outcome, r.phase, r.cause)) = some (.failed, 3, .lidFault) ∧
      (t.probes.ports.get 2).lidOpen = true ∧ (t.probes.ports.get 5).lidOpen = false ∧
      ended u = some (.failed, 11, .lidFault) ∧ (u.probes.table.get 4).location = .unknown ∧
      ended (shut 2 (standing .unlock [])) = some (.failed, 4, .lidFault) ∧
      ((shut 2 (standing .unlock [])).probes.ports.get 5).lidOpen = true ∧
      (shut 2 (standing .insert [rest])).motion.queue = [] ∧ (shut 2 (standing .insert [stop])).motion.queue = [stop] ∧
      (shut 5 (standing .insert [seg])).probes.change.result = none := by decide

set_option maxRecDepth 4000 in
/-- R136, R139: which phases a read that begins serves. -/
theorem test_witness_HeadAndRackInputs_read :
    let begun := fun s => (after (.identityReadStart 9) s).probes.change.readBegun
    let out : State := { chg .detach with probes := { (chg .detach).probes with
      change := { (chg .detach).probes.change with segArrived := true } } }
    (chg .identify).probes.reading = false ∧ begun (chg .identify) = true ∧ begun (chg .detach) = false ∧
      begun out = true ∧ begun (chg .lock) = false ∧ begun (taken (chg .identify)) = false := by decide

/-- R22: DISARM keeps the demand position, and the next servo period takes it to the position. -/
theorem test_disarm_keeps_demands :
    let s := s1a 1 fun a => { a with position := 7, demand := 9, driveOut := 5 }
    let t := after (.disarm (fk 16 1 [3])) s
    (t.axis 1).demand = 9 ∧ (t.axis 1).driveOut = 0 ∧ t.station.mode = .setup ∧
      ((after (.servoSample 2500) t).axis 1).demand = 7 := by decide

set_option maxRecDepth 4000 in
/-- R198: both indices of STATION. -/
theorem test_witness_Queries_station :
    let at0 := fun (g : List Byte → Nat) => (statusContent s1 0 0).map g
    let at1 := fun (g : List Byte → Nat) => (statusContent { s1 with station := { s1.station with rackZone := some 15 } } 0 1).map g
    s1.station.mode ≠ .offline ∧ at0 (byteAt · 0) = some 1 ∧ at0 (byteAt · 1) = some 1 ∧ at0 (byteAt · 3) = some 1 ∧
      at0 (u16At · 4) = some 500 ∧ at0 (u16At · 6) = some 500 ∧ at0 (byteAt · 8) = some 3 ∧ at0 (byteAt · 17) = some 1 ∧
      at0 (byteAt · 18) = some 3 ∧ at1 (u16At · 0) = some 10 ∧ at1 (u16At · 2) = some 20 ∧ at1 (u16At · 4) = some 200 ∧
      at1 (byteAt · 14) = some 15 ∧ at1 (byteAt · 23) = some 255 := by decide

/-! ### Claims that outlive their head, and frames that stay -/

/-- A QUEUED claim for zone 4 with a WAITING head. -/
def claimed (outlived : Bool) : State :=
  withQ [sg .position .waiting] { sv with
    slots := { sv.slots with claim := some 0x0010 }, zones := { sv.zones with claim := .queued 0x0010 outlived } }

set_option maxRecDepth 4000 in
/-- R90, R155: the head of a QUEUED claim ends while the claim is in flight, and a later head ends. -/
theorem test_witness_MotionFault_outlived :
    let t := motionFault 0 .encoder (flying .claim false (claimed false))
    let u := motionFault 0 .encoder (claimed true)
    (flying .claim false (claimed false)).probes.change.active = false ∧
      t.zones.claim = .queued 0x0010 true ∧ t.slots.claim = some 0x0010 ∧
      u.zones.claim = .queued 0x0010 true ∧ u.slots.claim = some 0x0010 ∧
      (motionFault 0 .encoder (claimed false)).zones.claim = .none := by decide

/-- R155, R157: a withdrawal held before the tag was won is without effect once the attempt has failed past it. -/
theorem test_witness_LostAndFailed_withdrawn :
    let s := { s1 with slots := { s1.slots with touch := some { point := 5, probe := 7, captureTick := 3 } } }
    let c := flying .claim true (claimed true)
    (flight .touch true).tagSent < (advance 100 (flying .touch true s)).uptime ∧ s.line.failures < 15 ∧
      (flying .touch true s).inReset = false ∧ s.slots.touch.isSome = true ∧
      (after (.attemptFailed 7 100) (flying .touch true s)).slots.touch = s.slots.touch ∧
      (after (.arbitrationLost 99) (flying .touch true s)).slots.touch = none ∧
      (after (.attemptFailed 7 100) c).slots.claim = some 0x0010 ∧ (after (.attemptFailed 7 100) c).line.failures = 1 ∧
      (after (.arbitrationLost 99) c).zones.claim = .none := by decide

/-- R90: a QUEUED claim is withdrawn exactly when another station takes one of its zones. -/
theorem test_witness_ClaimHeard_overlap :
    let lose := viewed [(4, hd 9 .tentative)] (claimed true)
    let keep := viewed [(5, hd 9 .tentative)] (claimed true)
    lose.zones.claim = .queued 0x0010 true ∧ (lose.zones.view.get 4).map (fun k => k.holder) = some 9 ∧
      inFlight lose .claim = false ∧ (settled lose).zones.claim = .none ∧ (settled lose).slots.claim = none ∧
      (settled keep).zones.claim = .queued 0x0010 true := by decide

/-! ### What a servo sample finds -/

/-- `near` with axis 1 against this end, its following limit at `limit`. -/
def against (atMin atMax : Bool) (demand limit : Nat) : State :=
  let s := near .position 1000
  let s := s.setAxis 1 { s.axis 1 with demand := demand, record := { (s.axis 1).record with followLimit := limit } }
  let ends : ChannelPins := { s.pins.channels.get 1 with atMin := atMin, atMax := atMax }
  { s with pins := { s.pins with channels := s.pins.channels.set 1 ends } }

set_option maxRecDepth 4000 in
/-- R10, R13, R18: the faults of a period at their boundaries, in their order, and what they leave. -/
theorem test_witness_ServoSample_faults :
    let finds := fun s => periodFaults (demands s) (sampled 2500 s)
    let off := against false true 999 10
    let two := (against false true 999 10).setAxis 1 { (against false true 999 10).axis 1 with position := 989 }
    let t := after (.servoSample 2500) (against false true 999 10)
    (ampOn off && !off.inReset) = true ∧ ((sampled 2500 off).axis 1).demand = 1000 ∧
      finds (against false false 999 10) = [] ∧ finds (against false true 999 10) = [(1, .endMax)] ∧
      finds (against false true 1000 10) = [] ∧ finds (against true false 1000 10) = [] ∧
      finds (against true false 1001 10) = [(1, .endMin)] ∧ finds two = [(1, .following), (1, .endMax)] ∧
      finds (two.setAxis 1 { two.axis 1 with position := 990 }) = [(1, .endMax)] ∧
      finds (driven false .disabled two) = [] ∧
      (t.faultPending, t.gate, t.motion.queue.length, t.probes.change.active) = (true, .faulted, 0, false) ∧
      (t.notices.get 6).detail = some (.segmentEnd (sg .position .moving).number .motionFault 1) := by decide

/-! ### Channels and figures -/

/-- R24, R27, R30, R31: SETTLING, FAULTED and UNUSED channels, and the bounds of a good read. -/
theorem test_witness_Sensor_states :
    let ch : Channel := { Channel.afterReset with state := .settling, average := 20000 }
    let read := fun (r : SensorRead) (c : Channel) => (applyRead 2 r c).1
    let of := fun n => { ch with settle := n }
    let worn : Channel := { ch with state := .faulted, heldAge := 255 }
    (ch.state = .settling ∧ worn.state = .faulted ∧ Channel.afterReset.state = .unused) ∧
      (read (.value 30000) (of 0)).average = 30000 ∧ (read (.value 30000) (of 2)).settle = 3 ∧
      (read (.value 30000) (of 2)).average = 22500 ∧ (read (.value 30000) (of 3)).state = .valid ∧
      (read .failed { ch with heldAge := 4 }).state = .settling ∧ (applyRead 2 .failed { ch with heldAge := 5 }).2 = true ∧
      (read .failed { ch with heldAge := 5 }).state = .faulted ∧
      ((read (.value 1) worn).state, (read (.value 1) worn).settle, (read (.value 1) worn).average) = (.settling, 1, 1) ∧
      (applyRead 2 (.value 1) worn).2 = true ∧ (read .failed worn).heldAge = 255 ∧
      read (.value 1) Channel.afterReset = Channel.afterReset ∧ (read (.value 60000) ch).last = 60000 ∧
      (read (.value 60001) ch).last = ch.last ∧ (read (.value (-10000)) ch).last = -10000 ∧
      (read (.value (-10001)) ch).last = ch.last := by decide

/-- R32, R33: the scale figure by its channel's state, and a LOCAL source with no channel that counts. -/
theorem test_witness_PeerTemps_figures :
    let s := sx .fresh
    let held := { s with thermal := { s.thermal with
      source := .localChannels, channels := s.thermal.channels.set 0 { warm 23400 with state := .held } } }
    let listed := { held.thermal with entries := held.thermal.entries.set 0 (some 0) }
    (s.axis 0).comp.scaleChannel = some 0 ∧ (s.thermal.channels.get 0).state = .valid ∧
      (held.thermal.channels.get 0).state = .held ∧ (s.axis 1).comp.scaleChannel = none ∧
      scaleFigure s 0 = { value := 23400, quality := .fresh } ∧ scaleFigure held 0 = { value := 23400, quality := .stale } ∧
      scaleFigure s 1 = { value := 20000, quality := .absent } ∧ held.thermal.source = .localChannels ∧
      localFigure Thermal.afterReset = { value := 20000, quality := .absent } ∧
      localFigure listed = { value := 23400, quality := .stale } := by decide

/-! ### The permit of a HELLO -/

set_option maxRecDepth 16000 in
/-- R79, R100: the heads under a HELLO of the controlling station, which holds zone 8. -/
theorem test_witness_Hello_heads :
    let at8 := fun s => viewed [(8, hd 1 .firm)] s
    let hear := fun s => after (.helloReceived (fk 3 1 [3, 1])) (at8 s)
    let heads := fun s => (hear s).motion.queue.map fun x => (x.state, x.outcome, x.flushed)
    let q := fun k => withQ [sg .position k, sg .position .queued] sv
    hearsOk 3 (fk 3 1 [3, 1]) (at8 (q .moving)) = true ∧ hearsOk 3 (fk 3 1 [3, 1]) (at8 sv) = true ∧
      heads (q .moving) = [(.stopping, some .lapsed, 1)] ∧ heads (q .stopping) = [(.stopping, none, 1)] ∧
      heads (q .waiting) = [] ∧ (hear (q .waiting)).zones.view.get 8 = none ∧
      (hear (q .waiting)).zones.view.get 5 = none ∧ (hear (q .waiting)).zones.view.get 7 = some (hd 9 .firm) ∧
      (hear sv).zones.view.get 8 = none ∧ (hear sv).zones.view.get 5 = some (hd 3 .firm) ∧
      (hear sv).motion.permit = .lapsed := by decide

set_option maxRecDepth 16000 in
/-- R79, R146: a change that has taken its outcome. -/
theorem test_witness_Hello_taken :
    let hear := fun s => after (.helloReceived (fk 3 1 [3, 1])) (taken s)
    hearsOk 3 (fk 3 1 [3, 1]) (taken (travel .moving 5)) = true ∧ (taken (travel .moving 5)).probes.change.active = true ∧
      (taken (travel .moving 5)).motion.permit = .valid ∧
      (travel .moving 5).motion.queue.length = 1 ∧ (travel .stopping 5).motion.queue.length = 1 ∧
      ((hear (travel .moving 5)).motion.queue.map fun x => (x.state, x.outcome)) = [(.stopping, some .lapsed)] ∧
      (hear (travel .stopping 5)).motion.queue = (travel .stopping 5).motion.queue ∧
      (hear (travel .moving 0)).motion.queue = [] ∧ ended (hear (travel .moving 0)) = some (.failed, 1, .conflict) ∧
      (hear (travel .moving 0)).probes.change.active = false := by decide

/-! ### Payloads and loads -/

/-- spec/09, Payloads: the bytes of the frames that hold more than one field. -/
theorem test_witness_ListenEnds_payloads :
    let p : PointFrame :=
      { number := 0x0102, segment := 3, probe := 7
        flags := { PointFlags.none with clamped := true, decelerating := true }
        mask := 5, coords := [-2, 256], companion := some 9 }
    let o := fun (s : State) id => slotPayload s 1000 id
    let s : State := { s1 with slots := { s1.slots with
      touch := some { point := 0x0102, probe := 7, captureTick := 0 }, claim := some 0x8001, point := some p
      objects := s1.slots.objects.set 2 { frame := some { claimant := 9, zones := 0x0110 }, amend := none }
      temp := { frame := some { value := -1, quality := .absent }, amend := none }
      notice := some { notice := .zoneConflict 9 0x8001 true, count := 2 }
      status := some { dest := 1, sect := 2, index := 3, content := [4, 5] } } }
    (1000 : Tick) - 0 < 16777216 ∧ o s1 .touch = none ∧
      (o s .touch).map (·.map BitVec.toNat) = some [1, 2, 0, 3, 232, 7] ∧
      (o s .claim).map (·.map BitVec.toNat) = some [128, 1] ∧
      (o s (.object 2)).map (·.map BitVec.toNat) = some [9, 1, 16] ∧
      (o s .point).map (·.map BitVec.toNat) = some [1, 2, 3, 7, 129, 5, 255, 255, 255, 254, 0, 0, 1, 0, 0, 0, 0, 9] ∧
      (o s .temp).map (·.map BitVec.toNat) = some [255, 255, 255, 255, 2] ∧
      (o s .notice).map (·.map BitVec.toNat) = some [4, 2, 9, 128, 1, 1] ∧
      (o s .status).map (·.map BitVec.toNat) = some [1, 2, 3, 4, 5] := by decide

/-- R116, R123: the records that the loads of a step's end take, and pass over. -/
theorem test_witness_Successful_endOfStep :
    let r : PointRecord :=
      { number := 1, segment := 0, probe := 7, flags := PointFlags.none, mask := 7, coords := [1, 2, 3], companion := none
        state := .awaiting, expected := 9, captureTick := 0, announced := true, timer := some 250000 }
    let s : State := { s1 with capture := { s1.capture with points := [r, { r with number := 2, announced := false }] } }
    let t : State := { s1 with capture := { s1.capture with points := [{ r with state := .ready }] } }
    joined s = true ∧ s.slots.touch = none ∧ s.slots.point = none ∧ s.inReset = false ∧
      ((loadTouch s).slots.touch.map fun f => f.point) = some 2 ∧ loadPoint s = s ∧
      ((loadPoint t).capture.points.map fun x => x.state) = [.offered] ∧ (loadPoint t).slots.point.isSome = true ∧
      loadTouch t = t ∧ loadNotice s1 = s1 ∧ loadTouch (onLine .mute s) = onLine .mute s ∧
      finish { s with inReset := true } = { s with inReset := true } := by decide

/-! ### The line with time, stops without an end, slots and requests -/

/-- R154, R156: the tag is won one tick after its end, and the line is idle at its moment. -/
theorem test_witness_CommandTimePasses_line :
    let at_ := fun l => { s1 with line := { s1.line with state := l, idleAt := some 500 } }
    let f := flying .temp false s1
    (f.line.attempt = some (flight .temp false) ∧ (flight .temp false).tagSent = 99 ∧ f.line.state = .arbitrating) ∧
      (advance 99 f).line.state = .arbitrating ∧ (advance 100 f).line.state = .sending ∧
      (at_ .receiving).line.attempt = none ∧ (advance 499 (at_ .receiving)).line.state = .receiving ∧
      (advance 500 (at_ .receiving)).line.state = .idle ∧ (advance 500 (at_ .sending)).line.state = .idle ∧
      (advance 500 (at_ .mute)).line.state = .mute := by decide

/-- R69, R70: the stop of a search, which has no end, and a segment without travel. -/
theorem test_witness_Trajectories_noEnd :
    let r : Segment := { sg .reference .stopping with traj := { Trajectory.none with u := 100000, s := 7 } }
    let still : Segment := { sg .position .moving with traj := { Trajectory.none with start := #v[0, 5, 0, 0] } }
    r.kind = .reference ∧ r.traj.len = 0 ∧ s1.station.stopDecel = 20 ∧
      ((stepSegment s1 r).traj.u, (stepSegment s1 r).traj.s) = (18080, 59047) ∧
      (Trajectory.stop 20 false r.traj).u < r.traj.u ∧ still.kind ≠ .reference ∧ still.traj.len = 0 ∧
      pathDemand s1 still 1 = 1000 := by decide

/-- R93, R122: a slot that already names the station, else the lowest empty one, else none. -/
theorem test_witness_slots :
    let o := fun (a b c : Option ObjectFrame) => { s1 with slots := { s1.slots with
      objects := #v[{ frame := a, amend := none }, { frame := b, amend := none }, { frame := c, amend := none }] } }
    let x : Option ObjectFrame := some { claimant := 9, zones := 1 }
    let y : Option ObjectFrame := some { claimant := 6, zones := 1 }
    let c := fun (a b : Option CompanionFrame) => { s1 with slots := { s1.slots with
      companions := #v[{ frame := a, amend := none }, { frame := b, amend := none }] } }
    let p : CompanionFrame := { dest := 9, point := 1, value := 5, status := .ok }
    (objectSlot (o none y x) 9, objectSlot (o y none none) 9, objectSlot (o y y y) 9) = (some 2, some 1, none) ∧
      (companionSlot (c none (some p)) 9 1, companionSlot (c none (some p)) 9 2) = (some 1, some 0) ∧
      companionSlot (c (some p) (some { p with dest := 6 })) 9 2 = none := by decide

/-- R120: a request that waits takes the place of the same point, a third is dropped, and the next sample settles those whose
instant the ring has reached. -/
theorem test_witness_TouchHeard_pending :
    let q : Request := { toucher := 9, point := 5, instant := 2000 }
    let other : Request := { toucher := 6, point := 1, instant := 100000 }
    let s := fun rs => { sr with capture := { sr.capture with requests := rs } }
    let f : RxFrame := { tf 0 with sof := 2000, tick := 2600 }
    let t := after (.servoSample 2500) (s [q, other])
    (hearsOk 1 f (s [q, other]) && joined (heard f (s [q, other]))) = true ∧ settle (heard f (s [])) 2000 = .wait ∧
      (after (.touchReceived f) (s [{ q with instant := 7 }, other])).capture.requests.map (fun x => x.instant) =
        [2000, 100000] ∧
      (after (.touchReceived f) (s [other, { other with point := 2 }])).capture.requests =
        [other, { other with point := 2 }] ∧
      sr.inReset = false ∧ t.capture.requests = [other] ∧
      ((t.slots.companions.get 0).frame.map fun x => (x.dest, x.point, x.status)) = some (9, 5, .ok) := by decide

/-- R152, R154: the tags in which a stuff bit falls. -/
theorem test_witness_ListenEnds_tags :
    (tagBits 4 1, tagBits 3 30, tagBits 7 28, tagBits 7 30) = (10, 10, 10, 10) ∧
      (tagBits 4 2, tagBits 3 29, tagBits 7 27, tagBits 1 1) = (9, 9, 9, 9) := by decide

/-- R175: zones released while a RELEASE is in flight. -/
theorem test_witness_AutoRelease_flying :
    let s := { sv with slots := { sv.slots with release := { frame := some 1, amend := some 2 } } }
    joined s = true ∧ firmZones s &&& ~~~keepSet s = 0x0030 ∧ inFlight (flying .release false s) .release = true ∧
      (autoRelease (flying .release false s)).slots.release = { frame := some 1, amend := some 0x0032 } ∧
      (autoRelease s).slots.release = { frame := some 0x0031, amend := some 2 } ∧
      joined (flying .release false s) = true := by decide

/-! ### Heads under a touch, an expiry, MUTE and the rejoin -/

set_option maxRecDepth 8000 in
/-- R108: a touch at rest forms its point, ends the segment TOUCHED and flushes nothing. -/
theorem test_witness_Touch_atRest :
    let m := sg .probe .moving
    let s := withQ [{ m with traj := { m.traj with u := 0 } }, sg .position .queued] st
    let t := after (.triggerDeflected 7) s
    Speedless { m with traj := { m.traj with u := 0 } } ∧ m.issuer = .room ∧ (onHead? s).isSome = true ∧
      (t.capture.points.map fun r => r.number) = [0] ∧ (t.motion.queue.map fun x => x.kind) = [.position] ∧
      ((t.slots.notice.map fun n => n.notice) = some (.segmentEnd m.number .touched 0)) := by
  unfold Speedless; decide

set_option maxRecDepth 16000 in
/-- R79: the timer runs out on every kind of head, and on a change that has taken its outcome. -/
theorem test_witness_Permit_heads :
    let due := fun s : State => { s with motion := { s.motion with permitTimer := some 100 } }
    let out := fun s => after (.permitTimerExpiry 100) (due s)
    let m := sg .position .moving
    let q := fun g => withQ [g, sg .position .queued] sv
    let heads := fun s => (out s).motion.queue.map fun x => (x.state, x.outcome, x.flushed)
    sv.motion.permit = .valid ∧ sv.probes.change.active = false ∧ sv.inReset = false ∧
      heads (q m) = [(.stopping, some .lapsed, 1)] ∧
      heads (q { m with state := .stopping, outcome := some .halted }) = [(.stopping, some .halted, 1)] ∧
      heads (q { m with traj := { m.traj with arrived := true } }) = [] ∧
      heads (q { m with traj := { m.traj with u := 0 } }) = [] ∧ (out (q m)).zones.view.get 5 = none ∧
      (out sv).zones.view.get 5 = some (hd 3 .firm) ∧
      heads (taken (travel .moving 5)) = [(.stopping, some .lapsed, 0)] ∧
      (taken (travel .moving 0)).probes.change.result.isSome = true ∧
      ended (out (taken (travel .moving 0))) = some (.failed, 1, .conflict) ∧
      (out (taken (travel .moving 0))).probes.change.active = false := by decide

/-- `s` with the attempt of a NOTICE in flight, past its tag, after 15 failures. -/
def failing (s : State) : State :=
  let f := flying .notice false s
  { f with line := { f.line with failures := 15 } }

set_option maxRecDepth 16000 in
/-- R77, R103, R158: the entry into MUTE on every kind of head, on the claim, the view and the points. -/
theorem test_witness_LostAndFailed_heads :
    let m := sg .position .moving
    let out := fun s => after (.attemptFailed 7 100) (failing s)
    let q := fun g => withQ [g, sg .position .queued] sv
    let heads := fun s => (out s).motion.queue.map fun x => (x.state, x.outcome, x.flushed)
    let w := { sv with zones := { sv.zones with claim := .window 0x0020 7 } }
    (failing sv).inReset = false ∧ (failing sv).probes.change.active = false ∧ 15 ≤ (failing sv).line.failures ∧
      heads (q m) = [(.stopping, some .halted, 1)] ∧
      heads (q { m with state := .stopping, outcome := some .lapsed }) = [(.stopping, some .lapsed, 1)] ∧
      heads (q { m with state := .claiming }) = [] ∧ heads (q { m with traj := { m.traj with arrived := true } }) = [] ∧
      ((out (q { m with state := .waiting })).notices.get 6).detail = some (.segmentEnd m.number .halted 1) ∧
      (out w).zones = w.zones ∧ (out (claimed true)).zones.claim = .none ∧
      heads (taken (travel .moving 5)) = [(.stopping, some .halted, 0)] ∧
      ended (out (taken (travel .moving 0))) = some (.failed, 1, .conflict) := by decide

/-- `s` after the success of its HELLO. -/
def rejoined (s : State) : State := after (.attemptSuccess 100) (onLine .listenAnnouncing (flying .hello false s))

set_option maxRecDepth 16000 in
/-- R103: the success of a HELLO on the view, on its own claim and on a CLAIMING head, which claims afresh where it may. -/
theorem test_witness_Successful_hello :
    let met := viewed [(5, hd 9 .firm)] sw
    (onLine .listenAnnouncing (flying .hello false sv)).line.attempt = some (flight .hello false) ∧
      (rejoined sv).zones.view.get 4 = none ∧ (rejoined sv).zones.view.get 6 = some (hd 9 .tentative) ∧
      (rejoined sv).zones.view.get 7 = some (hd 9 .firm) ∧ (rejoined sw).zones.claim = .queued 0x0020 false ∧
      ((rejoined sw).motion.queue.map fun x => x.state) = [.claiming] ∧ (rejoined met).zones.claim = .none ∧
      ((rejoined met).motion.queue.map fun x => x.state) = [.waiting] := by decide

set_option maxRecDepth 16000 in
/-- R103 (log entry 25): the head that needs a zone so freed, on its way, STOPPING and at rest, and one that needs none. -/
theorem test_witness_Successful_helloHeads :
    let m := sg .position .moving
    let n := needs .position .moving
    let heads := fun g => (rejoined (withQ [g, m] sv)).motion.queue.map fun x => (x.state, x.outcome, x.flushed)
    ZoneSet.has (n.needed.getD 0) 4 = true ∧ heads m = [(.moving, none, 0), (.moving, none, 0)] ∧
      heads n = [(.stopping, some .conflict, 1)] ∧
      heads { n with state := .stopping, outcome := some .halted } = [(.stopping, some .halted, 1)] ∧
      heads { n with traj := { n.traj with u := 0 } } = [] := by decide

end Sys2Proof.Tests
end

