-- ==== Sys2Proof/Proofs/Rounding.lean ====
section
/-! Settles O4, the rounding of R2: the quotient of `roundDiv`, the shift of `filterStep` and the digit-by-digit
square root of `isqrt`. -/

namespace Sys2Proof.Machine

/-! ### The rounded quotient -/

/-- `roundDiv` as a sign times a natural quotient: 0 needs no case of its own, as its magnitude is 0. -/
theorem roundDiv_eq_sign_mul (x : Int) {d : Nat} (hd : 0 < d) :
    roundDiv x d = x.sign * (((2 * x.natAbs + d) / (2 * d) : Nat) : Int) := by
  obtain hneg | rfl | hpos := lt_trichotomy x 0
  · simp [roundDiv, hneg, Int.sign_eq_neg_one_of_neg hneg]
  · have hzero : d / (2 * d) = 0 := Nat.div_eq_of_lt (by omega)
    simp [roundDiv, hzero]
  · simp [roundDiv, hpos.not_gt, Int.sign_eq_one_of_pos hpos]

/-- The exact rational floor of R2 is the natural quotient with numerator and denominator doubled. -/
theorem floor_abs_add_half_div (x : Int) {d : Nat} (hd : 0 < d) :
    ⌊(|(x : ℚ)| + (d : ℚ) / 2) / (d : ℚ)⌋ = (((2 * x.natAbs + d) / (2 * d) : Nat) : Int) := by
  have hd0 : (d : ℚ) ≠ 0 := by exact_mod_cast hd.ne'
  have hdouble : (|(x : ℚ)| + (d : ℚ) / 2) / (d : ℚ) = ((2 * x.natAbs + d : Nat) : ℚ) / ((2 * d : Nat) : ℚ) := by
    push_cast [Nat.cast_natAbs]
    field_simp
  rw [hdouble, Rat.floor_natCast_div_natCast, Int.natCast_div]

theorem roundDiv_eq_sign_mul_floor (x : Int) {d : Nat} (hd : 0 < d) :
    roundDiv x d = x.sign * ⌊(|(x : ℚ)| + (d : ℚ) / 2) / (d : ℚ)⌋ := by
  rw [floor_abs_add_half_div x hd, roundDiv_eq_sign_mul x hd]

/-! ### The filter step -/

theorem filterStep_eq_add_shiftRight (f : Nat) (average sample : Int) :
    filterStep f average sample = average + ((sample - average) >>> f) := by
  rw [filterStep, Int.shiftRight_eq_div_pow]

/-- What the filter adds is the floor of the difference over `2 ^ f`. -/
theorem filterStep_sub_mul_bounds (f : Nat) (average sample : Int) :
    (filterStep f average sample - average) * 2 ^ f ≤ sample - average ∧
      sample - average < (filterStep f average sample - average + 1) * 2 ^ f := by
  have hpow : (0 : Int) < 2 ^ f := by positivity
  have hadded : filterStep f average sample - average = (sample - average) / 2 ^ f := by
    simp [filterStep]
  rw [hadded]
  exact ⟨Int.ediv_mul_le _ hpow.ne', Int.lt_ediv_add_one_mul_self _ hpow⟩

/-! ### The integer square root -/

/-- The search keeps the root between `r` and `r + 2 ^ (k + 1)`: each digit halves the gap, which is 1 at the end. -/
theorem isqrtFrom_bounds (n k r : Nat) (hlow : r * r ≤ n) (hhigh : n < (r + 2 ^ (k + 1)) * (r + 2 ^ (k + 1))) :
    isqrtFrom n k r * isqrtFrom n k r ≤ n ∧ n < (isqrtFrom n k r + 1) * (isqrtFrom n k r + 1) := by
  induction k generalizing r with
  | zero =>
    rw [isqrtFrom]
    split
    next htake => exact ⟨htake, hhigh⟩
    next hskip => exact ⟨hlow, Nat.lt_of_not_le hskip⟩
  | succ k ih =>
    rw [isqrtFrom]
    split
    next htake =>
      have hgap : r + 2 ^ (k + 1) + 2 ^ (k + 1) = r + 2 ^ (k + 1 + 1) := by ring
      exact ih _ htake (hgap ▸ hhigh)
    next hskip => exact ih r hlow (Nat.lt_of_not_le hskip)

/-- The first digit tried is high enough: twice its weight, squared, exceeds `n`. -/
theorem lt_sq_two_pow_half_log2 (n : Nat) : n < 2 ^ (Nat.log2 n / 2 + 1) * 2 ^ (Nat.log2 n / 2 + 1) :=
  calc n < 2 ^ (Nat.log2 n + 1) := Nat.lt_log2_self
    _ ≤ 2 ^ (Nat.log2 n / 2 + 1 + (Nat.log2 n / 2 + 1)) := Nat.pow_le_pow_right (by decide) (by omega)
    _ = 2 ^ (Nat.log2 n / 2 + 1) * 2 ^ (Nat.log2 n / 2 + 1) := pow_add ..

theorem isqrt_bounds (n : Nat) : isqrt n * isqrt n ≤ n ∧ n < (isqrt n + 1) * (isqrt n + 1) :=
  isqrtFrom_bounds n (Nat.log2 n / 2) 0 (Nat.zero_le n) (by
    simpa only [Nat.zero_add] using lt_sq_two_pow_half_log2 n)

/-- Settles O4: the quotient by doubling both sides of the fraction, the filter as a floor, the square root by the
invariant of the digit search. -/
theorem divisionsRoundHalfAwayFromZero : Obligations.DivisionsRoundHalfAwayFromZero :=
  ⟨fun x _ hd => roundDiv_eq_sign_mul_floor x hd,
    fun f average sample =>
      ⟨filterStep_eq_add_shiftRight f average sample, filterStep_sub_mul_bounds f average sample⟩,
    isqrt_bounds⟩

end Sys2Proof.Machine
end

