-- ==== Sys2Proof/Proofs/MapError.lean ====
section
/-! Settles O16, the map error of R44 and R45: why a rounded share of a step stays within the step, how an offset from
the origin splits into its interval and its place there, and what `mapError` answers outside the table and inside it. -/

namespace Sys2Proof.Machine

/-! ### The rounded share of a step -/

theorem roundDiv_natCast (n d : Nat) : roundDiv n d = (((2 * n + d) / (2 * d) : Nat) : Int) := by
  simp [roundDiv]

theorem roundDiv_neg (x : Int) {d : Nat} (hd : 0 < d) : roundDiv (-x) d = -roundDiv x d := by
  rw [roundDiv_eq_sign_mul _ hd, roundDiv_eq_sign_mul _ hd, Int.sign_neg, Int.natAbs_neg, neg_mul]

/-- Rounding a share of a natural number does not exceed it, as the number itself is an integer. -/
theorem roundDiv_natCast_mul_le (n : Nat) {g d : Nat} (hd : 0 < d) (hg : g ≤ d) :
    roundDiv ((n * g : Nat) : Int) d ≤ n := by
  have hshare : n * g ≤ n * d := Nat.mul_le_mul_left n hg
  have hquot : (2 * (n * g) + d) / (2 * d) < n + 1 := Nat.div_lt_of_lt_mul <|
    calc 2 * (n * g) + d < 2 * (n * d) + 2 * d := by omega
      _ = 2 * d * (n + 1) := by ring
  rw [roundDiv_natCast]
  exact_mod_cast Nat.le_of_lt_succ hquot

/-- The rounded share of a signed step lies between 0 and the step. -/
theorem roundDiv_mul_between (p : Int) {g d : Nat} (hd : 0 < d) (hg : g ≤ d) :
    min 0 p ≤ roundDiv (p * g) d ∧ roundDiv (p * g) d ≤ max 0 p := by
  obtain ⟨n, rfl | rfl⟩ := p.eq_nat_or_neg
  all_goals
    have hle := roundDiv_natCast_mul_le n hd hg
    have hnonneg : 0 ≤ roundDiv ((n * g : Nat) : Int) d := by rw [roundDiv_natCast]; positivity
    rw [Nat.cast_mul] at hle hnonneg
  · omega
  · rw [neg_mul, roundDiv_neg _ hd]
    omega

/-! ### The interval of a count and the place in it -/

theorem toNat_shiftRight_eq_div {d : Int} (hd : 0 ≤ d) (k : Nat) : (d >>> k).toNat = d.toNat / 2 ^ k := by
  lift d to Nat using hd
  rw [Int.shiftRight_eq_div_pow]
  norm_cast

/-- What the shift leaves over is a natural number below one interval. -/
theorem exists_place_in_interval {d : Int} (hd : 0 ≤ d) (k : Nat) :
    ∃ g : Nat, g < 2 ^ k ∧ d - ((d >>> k).toNat : Int) * 2 ^ k = g := by
  refine ⟨d.toNat % 2 ^ k, Nat.mod_lt _ (by positivity), ?_⟩
  lift d to Nat using hd
  rw [toNat_shiftRight_eq_div (Int.natCast_nonneg d), Int.toNat_natCast, sub_eq_iff_eq_add]
  exact_mod_cast (Nat.mod_add_div' d (2 ^ k)).symm

/-! ### The map error (R44, R45) -/

theorem mapError_below {c : CompRecord} {x : Int} (hbelow : x - c.origin < 0) :
    mapError c x = (mapNode c 0, true) := by
  simp [mapError, hbelow]

theorem mapError_above {c : CompRecord} {x : Int} (hd : 0 ≤ x - c.origin)
    (habove : 64 ≤ ((x - c.origin) >>> c.shift).toNat) : mapError c x = (mapNode c 64, true) := by
  rw [toNat_shiftRight_eq_div hd] at habove
  simp only [mapError, hd.not_gt, habove, if_true, if_false]

theorem mapError_inside {c : CompRecord} {x : Int} {i : Nat} (hd : 0 ≤ x - c.origin)
    (hi : ((x - c.origin) >>> c.shift).toNat = i) (hinside : i < 64) :
    mapError c x = (mapNode c i +
      roundDiv ((mapNode c (i + 1) - mapNode c i) * (x - c.origin - i * 2 ^ c.shift)) (2 ^ c.shift), false) := by
  rw [toNat_shiftRight_eq_div hd] at hi
  simp only [mapError, hd.not_gt, hi, hinside.not_ge, if_false]
  push_cast
  rfl

/-- Settles O16: outside by the two end-node lemmas; inside, the rounded share of the step from node `i` to node
`i + 1` is within that step, and is 0 at the node. -/
theorem mapErrorInterpolatesBetweenNodes : Obligations.MapErrorInterpolatesBetweenNodes := by
  intro c x d i f n
  refine ⟨mapError_below, mapError_above, fun hd hinside => ?_⟩
  have hpow : 0 < 2 ^ c.shift := by positivity
  have herror : mapError c x = (n i + roundDiv ((n (i + 1) - n i) * f) (2 ^ c.shift), false) :=
    mapError_inside hd rfl hinside
  obtain ⟨g, hg, hplace : f = g⟩ := exists_place_in_interval hd c.shift
  obtain ⟨hlow, hhigh⟩ := roundDiv_mul_between (n (i + 1) - n i) hpow hg.le
  refine ⟨hplace ▸ Int.natCast_nonneg g, by rw [hplace]; exact_mod_cast hg, herror, ?_⟩
  rw [herror, hplace]
  refine ⟨by omega, by omega, fun hzero => ?_⟩
  rw [hzero, mul_zero, roundDiv_eq_sign_mul 0 hpow, Int.sign_zero, zero_mul, add_zero]

end Sys2Proof.Machine
end

