-- ==== Sys2Proof/Proofs/ZoneIntervals.lean ====
section
/-! Settles O27, the zones of a closed interval (R84): how the zone of a position rises with it, and why the zones of
`overlapped`, read off at the interval's start and at its boundaries, are those of all its positions. -/

namespace Sys2Proof.Machine

/-! ### The zone of a position -/

theorem zoneOf_eq_countP (b : Vector Int 15) (x : Int) : zoneOf b x = b.toList.countP fun v => decide (v ≤ x) :=
  List.countP_eq_length_filter.symm

/-- The table entry by entry, in the order of the boundary ids. -/
theorem toList_eq_map_boundaryIds (b : Vector Int 15) : b.toList = boundaryIds.map b.get := by
  refine List.ext_getElem (by simp [boundaryIds]) fun i hi _ => ?_
  have hids : boundaryIds = List.finRange 15 := by decide
  simp [hids, Vector.get]

theorem zoneOf_eq_length_filter_boundaryIds (b : Vector Int 15) (x : Int) :
    zoneOf b x = (boundaryIds.filter fun j => decide (b.get j ≤ x)).length := by
  rw [zoneOf_eq_countP, toList_eq_map_boundaryIds, List.countP_map, List.countP_eq_length_filter]
  rfl

theorem zoneOf_le (b : Vector Int 15) (x : Int) : zoneOf b x ≤ 15 := by
  calc zoneOf b x = b.toList.countP _ := zoneOf_eq_countP b x
    _ ≤ b.toList.length := List.countP_le_length
    _ = 15 := b.length_toList

theorem zoneOf_mono (b : Vector Int 15) {x y : Int} (h : x ≤ y) : zoneOf b x ≤ zoneOf b y := by
  simp only [zoneOf_eq_countP]
  refine List.countP_mono_left fun v _ hv => ?_
  exact decide_eq_true ((of_decide_eq_true hv).trans h)

/-- From one position to the next the zone can change only where a boundary stands. -/
theorem zoneOf_succ_of_notMem (b : Vector Int 15) {x : Int} (h : x + 1 ∉ b.toList) :
    zoneOf b (x + 1) = zoneOf b x := by
  simp only [zoneOf_eq_countP]
  refine List.countP_congr fun v hv => ?_
  have hne : v ≠ x + 1 := fun heq => h (heq ▸ hv)
  simp only [decide_eq_true_eq]
  omega

/-! ### The zones of an interval -/

/-- The zone of a position at or above `lo` is that of `lo`, or of the last boundary passed on the way up from it. The
table need not be in order: the walk meets each boundary at its position. -/
theorem zoneOf_eq_start_or_boundary (b : Vector Int 15) {lo x : Int} (h : lo ≤ x) :
    zoneOf b lo = zoneOf b x ∨ ∃ v ∈ b.toList, lo ≤ v ∧ v ≤ x ∧ zoneOf b v = zoneOf b x := by
  induction x, h using Int.leInduction with
  | base => exact .inl rfl
  | succ x hx ih =>
    by_cases hmem : x + 1 ∈ b.toList
    · exact .inr ⟨x + 1, hmem, by omega, le_rfl, rfl⟩
    · rw [zoneOf_succ_of_notMem b hmem]
      obtain hstart | ⟨v, hv, hlo, hle, hzone⟩ := ih
      · exact .inl hstart
      · exact .inr ⟨v, hv, hlo, by omega, hzone⟩

theorem has_overlapped (b : Vector Int 15) (lo hi : Int) (z : Fin 16) :
    ZoneSet.has (overlapped b lo hi) z = true ↔
      lo ≤ hi ∧ (zoneOf b lo = z.val ∨ ∃ v ∈ b.toList, lo ≤ v ∧ v ≤ hi ∧ zoneOf b v = z.val) := by
  simp only [overlapped, zoneSet_has, Bool.and_eq_true, Bool.or_eq_true, decide_eq_true_eq, List.any_eq_true, and_assoc]

theorem has_overlapped_iff_exists_position (b : Vector Int 15) (lo hi : Int) (z : Fin 16) :
    ZoneSet.has (overlapped b lo hi) z = true ↔ ∃ x, lo ≤ x ∧ x ≤ hi ∧ zoneOf b x = z.val := by
  rw [has_overlapped]
  constructor
  · rintro ⟨hle, hstart | ⟨v, -, hbetween⟩⟩
    · exact ⟨lo, le_rfl, hle, hstart⟩
    · exact ⟨v, hbetween⟩
  · rintro ⟨x, hlo, hhi, hzone⟩
    refine ⟨hlo.trans hhi, ?_⟩
    obtain hstart | ⟨v, hv, hlov, hvx, hv_zone⟩ := zoneOf_eq_start_or_boundary b hlo
    · exact .inl (hstart.trans hzone)
    · exact .inr ⟨v, hv, hlov, hvx.trans hhi, hv_zone.trans hzone⟩

/-- Settles O27: the zone of a position as a count of boundaries, and an interval's zones by the walk up from its
start. -/
theorem overlappedZonesAreThoseOfThePositions : Obligations.OverlappedZonesAreThoseOfThePositions :=
  fun b => ⟨fun x => ⟨zoneOf_eq_length_filter_boundaryIds b x, zoneOf_le b x⟩, fun _ _ => zoneOf_mono b,
    has_overlapped_iff_exists_position b⟩

end Sys2Proof.Machine
end

section
-- One proof at a time: with every proof elaborated beside the others, the threads that wait for the model's evaluated tests
-- outgrow the memory the check allows.
set_option Elab.async false

/-! What the operations on motion, zones and probes keep, each said once: `Moves s t` for an operation that can end,
stop or issue segments but sets none MOVING, and `Calm s t` for one that moreover begins no phase of a probe change.
The three sets of invariants that every step keeps (O57, O58, O59) rest on them. -/

namespace Sys2Proof.Machine

/-! ### The head of the queue -/

theorem mapHead_nil {f : Segment → Segment} {s : State} (h : s.motion.queue = []) : mapHead f s = s := by
  simp [mapHead, h]

theorem mapHead_cons {f : Segment → Segment} {s : State} {seg : Segment} {rest : List Segment}
    (h : s.motion.queue = seg :: rest) : mapHead f s = setQueue (f seg :: rest) s := by
  simp [mapHead, h]

theorem flushBehind_nil {s : State} (h : s.motion.queue = []) : flushBehind s = s := by
  simp [flushBehind, h]

theorem flushBehind_cons {s : State} {seg : Segment} {rest : List Segment} (h : s.motion.queue = seg :: rest) :
    flushBehind s = setQueue [{ seg with flushed := min 7 (seg.flushed + rest.length) }] s := by
  simp [flushBehind, h]

/-- A segment that waits behind the head becomes a head that is WAITING with its needed set (R64). -/
def formedHead (s : State) (seg : Segment) : Segment :=
  if seg.state = .queued then { seg with needed := some (neededSet s seg), state := .waiting } else seg

theorem formHead_nil {s : State} (h : s.motion.queue = []) : formHead s = s := mapHead_nil h

theorem formHead_cons {s : State} {seg : Segment} {rest : List Segment} (h : s.motion.queue = seg :: rest) :
    formHead s = setQueue (formedHead s seg :: rest) s := mapHead_cons h

/-- What `headEndsClaim` leaves of the queue: at most its head's state changes, from CLAIMING to WAITING. -/
def unclaimed (seg : Segment) : Segment := if seg.state = .claiming then { seg with state := .waiting } else seg

theorem unclaimHead_nil {s : State} (h : s.motion.queue = []) : unclaimHead s = s := mapHead_nil h

theorem unclaimHead_cons {s : State} {seg : Segment} {rest : List Segment} (h : s.motion.queue = seg :: rest) :
    unclaimHead s = setQueue (unclaimed seg :: rest) s := mapHead_cons h

/-! ### Moves -/

/-- From `s` to `t` no segment goes MOVING and the queue keeps its shape: what stands behind the head stays QUEUED, a
new head is formed, a head that moves in `t` moved in `s` with the same kind and needed set, and outside SETUP a
moving head keeps the zones it needs. -/
structure Moves (s t : State) : Prop where
  only : MotionOnly s t
  boundaries : t.zones.boundaries = s.zones.boundaries
  loaded : t.zones.loaded = s.zones.loaded
  tail : TailQueued s → TailQueued t
  formed : QueueShaped s → HeadFormed t
  moving : TailQueued s → ∀ seg rest, t.motion.queue = seg :: rest → seg.state = .moving →
    ∃ seg0 rest0, s.motion.queue = seg0 :: rest0 ∧ seg0.state = .moving ∧ seg0.kind = seg.kind ∧
      seg0.needed = seg.needed
  firm : s.station.mode ≠ .setup → TailQueued s → MovingHolds s → MovingHolds t

theorem Moves.refl (s : State) : Moves s s where
  only := .refl s
  boundaries := rfl
  loaded := rfl
  tail := id
  formed h := h.2
  moving _ seg rest hq hm := ⟨seg, rest, hq, hm, rfl, rfl⟩
  firm _ _ h := h

theorem Moves.trans {s t u : State} (h : Moves s t) (k : Moves t u) : Moves s u where
  only := h.only.trans k.only
  boundaries := k.boundaries.trans h.boundaries
  loaded := k.loaded.trans h.loaded
  tail hs := k.tail (h.tail hs)
  formed hs := k.formed ⟨h.tail hs.1, h.formed hs⟩
  moving hs seg rest hq hm := by
    obtain ⟨seg1, rest1, hq1, hm1, hk1, hn1⟩ := k.moving (h.tail hs) seg rest hq hm
    obtain ⟨seg0, rest0, hq0, hm0, hk0, hn0⟩ := h.moving hs seg1 rest1 hq1 hm1
    exact ⟨seg0, rest0, hq0, hm0, hk0.trans hk1, hn0.trans hn1⟩
  firm hm hs hf := k.firm (by rw [h.only.station]; exact hm) (h.tail hs) (h.firm hm hs hf)

theorem firmZones_congr {s t : State} (hv : t.zones.view = s.zones.view) (hn : t.line.number = s.line.number) :
    firmZones t = firmZones s := by
  have hself : firmToSelf t = firmToSelf s := by funext x; cases x <;> simp [firmToSelf, hn]
  simp only [firmZones, viewZones, hv, hself]

/-- With the view kept, a moving head holds what it held. -/
theorem Moves.of_view {s t : State} (only : MotionOnly s t)
    (zones : t.zones = { s.zones with claim := t.zones.claim })
    (tail : TailQueued s → TailQueued t) (formed : QueueShaped s → HeadFormed t)
    (moving : TailQueued s → ∀ seg rest, t.motion.queue = seg :: rest → seg.state = .moving →
      ∃ seg0 rest0, s.motion.queue = seg0 :: rest0 ∧ seg0.state = .moving ∧ seg0.kind = seg.kind ∧
        seg0.needed = seg.needed) : Moves s t where
  only := only
  boundaries := by rw [zones]
  loaded := by rw [zones]
  tail := tail
  formed := formed
  moving := moving
  firm _ hs hf seg rest hq hm := by
    obtain ⟨seg0, rest0, hq0, hm0, -, hn0⟩ := moving hs seg rest hq hm
    rw [firmZones_congr (by rw [zones]) only.number, ← hn0]
    exact hf seg0 rest0 hq0 hm0

/-- An operation that leaves the queue and the view alone. -/
theorem Moves.of_queue {s t : State} (only : MotionOnly s t)
    (zones : t.zones = { s.zones with claim := t.zones.claim })
    (queue : t.motion.queue = s.motion.queue) : Moves s t :=
  .of_view only zones (fun h => by simpa only [TailQueued, queue] using h)
    (fun h => by simpa only [HeadFormed, queue] using h.2)
    (fun _ seg rest hq hm => ⟨seg, rest, queue ▸ hq, hm, rfl, rfl⟩)

/-- A head that is changed without being moved, unformed or given another needed set. -/
theorem Moves.of_head {s : State} {seg seg' : Segment} {rest rest' : List Segment} (hq : s.motion.queue = seg :: rest)
    (hrest : ∀ x ∈ rest', x ∈ rest) (hqueued : seg'.state = .queued → seg.state = .queued)
    (hneeded : seg'.needed = seg.needed) (hkind : seg'.kind = seg.kind)
    (hmoving : seg'.state = .moving → seg.state = .moving) : Moves s (setQueue (seg' :: rest') s) := by
  refine .of_view (motionOnly_setQueue _ s) rfl ?_ ?_ ?_
  · intro h x hx
    exact h x (by rw [hq]; exact hrest x hx)
  · intro h a b hab
    obtain ⟨rfl, -⟩ := List.cons.inj hab
    have hseg := h.2 seg rest hq
    exact ⟨fun hx => hseg.1 (hqueued hx), by rw [hneeded]; exact hseg.2⟩
  · intro _ a b hab hm
    obtain ⟨rfl, -⟩ := List.cons.inj hab
    exact ⟨seg, rest, hq, hmoving hm, hkind.symm, hneeded.symm⟩

theorem moves_latchNotice (n : Notice) (s : State) : Moves s (latchNotice n s) :=
  .of_queue (motionOnly_latchNotice n s) rfl rfl

theorem moves_setClaim (c : Claim) (s : State) : Moves s (setClaim c s) := .of_queue (motionOnly_setClaim c s) rfl rfl

theorem moves_holdWithdrawal (s : State) : Moves s (holdWithdrawal s) := .of_queue (motionOnly_holdWithdrawal s) rfl rfl

theorem moves_mapSlots (f : Slots → Slots) (s : State) : Moves s (mapSlots f s) :=
  .of_queue (motionOnly_mapSlots f s) rfl rfl

theorem moves_setChange (c : Change) (s : State) : Moves s (setChange c s) :=
  .of_queue (motionOnly_setChange c s) rfl rfl

theorem moves_mapChange (f : Change → Change) (s : State) : Moves s (mapChange f s) := moves_setChange _ s

theorem moves_mapProbes (f : ProbeRecord → ProbeRecord) (s : State) : Moves s (mapProbes f s) :=
  .of_queue (motionOnly_mapProbes f s) rfl rfl

theorem moves_setProbe (k : Fin 16) (r : ProbeRecord) (s : State) : Moves s (setProbe k r s) :=
  .of_queue (motionOnly_setProbe k r s) rfl rfl

theorem moves_setLocation (id : Nat) (l : Location) (s : State) : Moves s (setLocation id l s) :=
  .of_queue (motionOnly_setLocation id l s) (by simp) (by simp)

theorem moves_setLid (p : Fin 8) (o : Bool) (s : State) : Moves s (setLid p o s) :=
  .of_queue (motionOnly_setLid p o s) rfl rfl

theorem moves_closeLidsBut (k : Fin 8 → Bool) (s : State) : Moves s (closeLidsBut k s) :=
  .of_queue (motionOnly_closeLidsBut k s) rfl rfl

theorem moves_closeLids (s : State) : Moves s (closeLids s) := moves_closeLidsBut _ s

theorem moves_setLock (u : Bool) (s : State) : Moves s (setLock u s) := .of_queue (motionOnly_setLock u s) rfl rfl

theorem moves_enterPhase (ph : Phase) (t : Option Nat) (s : State) : Moves s (enterPhase ph t s) := moves_mapChange _ s

theorem moves_takeResult (r : ChangeResult) (s : State) : Moves s (takeResult r s) := moves_mapChange _ s

theorem moves_takeDeferredExpiry (s : State) : Moves s (takeDeferredExpiry s) := by
  refine .of_queue (motionOnly_takeDeferredExpiry s) ?_ ?_
  all_goals
    unfold takeDeferredExpiry
    split <;> rfl

theorem moves_setQueue_nil (s : State) : Moves s (setQueue [] s) := by
  refine .of_view (motionOnly_setQueue _ s) rfl ?_ ?_ ?_
  · intro _ x hx
    cases hx
  · intro _ a b hab
    cases hab
  · intro _ a b hab
    cases hab

theorem moves_mapHead {f : Segment → Segment} (s : State)
    (hf : ∀ seg, ((f seg).state = .queued → seg.state = .queued) ∧ (f seg).needed = seg.needed ∧
      (f seg).kind = seg.kind ∧ ((f seg).state = .moving → seg.state = .moving)) : Moves s (mapHead f s) := by
  cases hq : s.motion.queue with
  | nil => rw [mapHead_nil hq]; exact .refl s
  | cons seg rest =>
    obtain ⟨hqueued, hneeded, hkind, hmoving⟩ := hf seg
    rw [mapHead_cons hq]
    exact .of_head hq (fun _ h => h) hqueued hneeded hkind hmoving

theorem moves_unclaimHead (s : State) : Moves s (unclaimHead s) := by
  refine moves_mapHead s fun seg => ?_
  by_cases h : seg.state = .claiming <;> simp [h]

theorem moves_stopMoving (o : SegOutcome) (s : State) : Moves s (mapHead (stopMoving o) s) :=
  moves_mapHead s fun seg => by simp [stopMoving]

theorem moves_flushBehind (s : State) : Moves s (flushBehind s) := by
  cases hq : s.motion.queue with
  | nil => rw [flushBehind_nil hq]; exact .refl s
  | cons seg rest =>
    rw [flushBehind_cons hq]
    exact .of_head hq (by simp) id rfl rfl id

/-- The head leaves and the segment behind it, which was QUEUED, is formed. -/
theorem moves_next {s : State} {seg : Segment} {rest : List Segment} (hq : s.motion.queue = seg :: rest) :
    Moves s (formHead (setQueue rest s)) := by
  cases rest with
  | nil => rw [formHead_nil rfl]; exact moves_setQueue_nil s
  | cons x xs =>
    rw [formHead_cons (s := setQueue (x :: xs) s) rfl]
    have hx (h : TailQueued s) : x.state = .queued := h x (by simp [hq])
    refine .of_view ((motionOnly_setQueue _ s).trans (motionOnly_setQueue _ _)) rfl ?_ ?_ ?_
    · intro h y hy
      exact h y (by rw [hq]; exact List.mem_cons_of_mem _ hy)
    · intro h a b hab
      obtain ⟨rfl, -⟩ := List.cons.inj hab
      simp [formedHead, hx h.1]
    · intro h a b hab hm
      obtain ⟨rfl, -⟩ := List.cons.inj hab
      simp [formedHead, hx h] at hm

/-- The needed set of a segment does not look at the motion sequencer (R64, R86, R87). -/
theorem formedHead_motion (m : Sequencer) (s : State) (seg : Segment) :
    formedHead { s with motion := m } seg = formedHead s seg := rfl

/-- In an empty queue a segment becomes head at once (R64). -/
theorem enqueue_empty {seg : Segment} {s : State} (hq : s.motion.queue = []) :
    enqueue seg s =
      { s with motion := { s.motion with queue := [formedHead s seg], counter := s.motion.counter + 1 } } := by
  unfold enqueue
  rw [formHead_cons (seg := seg) (rest := []) (by simp [hq]), formedHead_motion]
  rfl

/-- Behind a head a segment joins at the tail (R56). -/
theorem enqueue_behind {seg x : Segment} {xs : List Segment} {s : State} (hq : s.motion.queue = x :: xs) :
    enqueue seg s = { s with motion := { s.motion with
      queue := formedHead s x :: (xs ++ [seg]), counter := s.motion.counter + 1 } } := by
  unfold enqueue
  rw [formHead_cons (seg := x) (rest := xs ++ [seg]) (by simp [hq]), formedHead_motion]
  rfl

/-- A segment that joins at the tail is QUEUED, or formed at once in an empty queue (R64). -/
theorem moves_enqueue {seg : Segment} (hseg : seg.state = .queued) (s : State) : Moves s (enqueue seg s) := by
  cases hq : s.motion.queue with
  | nil =>
    refine .of_view (motionOnly_enqueue seg s) (by simp) ?_ ?_ ?_
    all_goals rw [enqueue_empty hq]
    · intro _ x hx
      cases hx
    · intro _ a b hab
      obtain ⟨rfl, -⟩ := List.cons.inj hab
      simp [formedHead, hseg]
    · intro _ a b hab hm
      obtain ⟨rfl, -⟩ := List.cons.inj hab
      simp [formedHead, hseg] at hm
  | cons x xs =>
    refine .of_view (motionOnly_enqueue seg s) (by simp) ?_ ?_ ?_
    all_goals rw [enqueue_behind hq]
    · intro h y hy
      rw [List.tail_cons, List.mem_append, List.mem_singleton] at hy
      rcases hy with hy | rfl
      · exact h y (by rw [hq]; exact hy)
      · exact hseg
    · intro h a b hab
      obtain ⟨rfl, -⟩ := List.cons.inj hab
      have hx := h.2 x xs hq
      simpa [formedHead, hx.1] using hx
    · intro _ a b hab hm
      obtain ⟨rfl, -⟩ := List.cons.inj hab
      by_cases hx : x.state = .queued
      · simp [formedHead, hx] at hm
      · rw [formedHead, if_neg hx] at hm ⊢
        exact ⟨x, xs, hq, hm, rfl, rfl⟩

/-! ### The zone unit -/

theorem moves_withdrawClaim (s : State) : Moves s (withdrawClaim s) := by
  unfold withdrawClaim
  split
  · split
    · exact moves_holdWithdrawal s
    · exact ((moves_mapSlots (fun x => { x with claim := none }) s).trans (moves_setClaim _ _)).trans
        (moves_unclaimHead _)
  · exact .refl s

theorem moves_headEndsClaim (s : State) : Moves s (headEndsClaim s) := by
  rcases headEndsClaim_cases s with h | h | ⟨x, -, -, h⟩ <;> rw [h]
  · exact .refl s
  · exact moves_withdrawClaim s
  · exact (moves_holdWithdrawal s).trans (moves_setClaim _ _)

theorem moves_overlapCheck (s : State) : Moves s (overlapCheck s) := by
  unfold overlapCheck
  split
  · split
    · exact .refl s
    · exact moves_withdrawClaim s
  · exact .refl s

theorem moves_failWindow (s : State) : Moves s (failWindow s) := by
  unfold failWindow
  split
  · exact (moves_setClaim _ s).trans (moves_unclaimHead _)
  · exact .refl s

theorem moves_placeObjection (c : Nat) (x : ZoneSet) (s : State) : Moves s (placeObjection c x s) := by
  refine .of_queue (motionOnly_placeObjection c x s) ?_ ?_
  all_goals
    unfold placeObjection
    split
    · split <;> rfl
    · rfl

/-- The zones FIRM to the station after some of its holds have gone free. -/
theorem has_firmZones_freeHeldBy (x : ZoneSet) (s : State) (z : Fin 16) :
    ZoneSet.has (firmZones (freeHeldBy s.line.number x s)) z =
      (ZoneSet.has (firmZones s) z && !ZoneSet.has x z) := by
  simp only [firmZones, viewZones, freeHeldBy, mapView_zones, zoneSet_has, tab16_get, firmToSelf, mapView_line]
  cases s.zones.view.get z with
  | none => simp
  | some h => by_cases hh : h.holder = s.line.number <;> cases ZoneSet.has x z <;> simp [hh]

theorem ZoneSet.has_and (x y : ZoneSet) (z : Fin 16) :
    ZoneSet.has (x &&& y) z = (ZoneSet.has x z && ZoneSet.has y z) := by simp [ZoneSet.has]

theorem ZoneSet.has_or (x y : ZoneSet) (z : Fin 16) :
    ZoneSet.has (x ||| y) z = (ZoneSet.has x z || ZoneSet.has y z) := by simp [ZoneSet.has]

theorem ZoneSet.has_compl (x : ZoneSet) (z : Fin 16) : ZoneSet.has (~~~x) z = !ZoneSet.has x z := by
  simp [ZoneSet.has]

@[simp] theorem ZoneSet.has_zero (z : Fin 16) : ZoneSet.has 0#16 z = false := by simp [ZoneSet.has]

/-- Outside SETUP the keep set takes in the head's needed set (R81). -/
theorem has_keepSet_of_needed {s : State} {seg : Segment} {rest : List Segment} (hmode : s.station.mode ≠ .setup)
    (hq : s.motion.queue = seg :: rest) {z : Fin 16} (hz : ZoneSet.has (seg.needed.getD 0) z = true) :
    ZoneSet.has (keepSet s) z = true := by
  cases hn : seg.needed with
  | none => simp [hn] at hz
  | some x =>
    rw [hn, Option.getD_some] at hz
    simp [keepSet, hmode, hq, hn, ZoneSet.has_or, hz]

theorem moves_autoRelease (s : State) : Moves s (autoRelease s) := by
  unfold autoRelease releaseZones
  split
  · exact .refl s
  · rename_i hreleases
    have hsame := (motionOnly_releaseZones (firmZones s &&& ~~~keepSet s) s)
    rw [releaseZones, if_neg hreleases] at hsame
    refine ⟨hsame, rfl, rfl, id, fun h => h.2, fun _ a b hab hm => ⟨a, b, hab, hm, rfl, rfl⟩, ?_⟩
    intro hmode _ hholds seg rest hq hm
    have hfirm := hholds seg rest hq hm
    rw [ZoneSet.within_iff] at hfirm ⊢
    intro z hz
    have hkeep := has_keepSet_of_needed hmode hq hz
    change ZoneSet.has (firmZones (freeHeldBy s.line.number (firmZones s &&& ~~~keepSet s) s)) z = true
    simp [has_firmZones_freeHeldBy, ZoneSet.has_and, ZoneSet.has_compl, hfirm z hz, hkeep]

/-! ### The end of the head and of a change -/

theorem headEndsClaim_queue (s : State) {seg : Segment} {rest : List Segment} (hq : s.motion.queue = seg :: rest) :
    ∃ seg', (headEndsClaim s).motion.queue = seg' :: rest := by
  rcases headEndsClaim_cases s with h | h | ⟨x, -, -, h⟩ <;> rw [h]
  · exact ⟨seg, hq⟩
  · unfold withdrawClaim
    split
    · split
      · exact ⟨seg, hq⟩
      · rw [unclaimHead_cons (s := setClaim .none { s with slots := { s.slots with claim := none } }) hq]
        exact ⟨_, rfl⟩
    · exact ⟨seg, hq⟩
  · exact ⟨seg, hq⟩

theorem removeHead_nil {o : SegOutcome} {s : State} (h : s.motion.queue = []) : removeHead o s = s := by
  simp [removeHead, h]

theorem moves_removeHead (o : SegOutcome) (s : State) : Moves s (removeHead o s) := by
  cases hq : s.motion.queue with
  | nil => rw [removeHead_nil hq]; exact .refl s
  | cons seg rest =>
    simp only [removeHead, hq]
    generalize h1 : (if seg.issuer = .room then latchNotice (.segmentEnd seg.number o seg.flushed) s else s) = s1
    have hs1 : Moves s s1 ∧ s1.motion.queue = seg :: rest := by
      rw [← h1]
      split
      · exact ⟨moves_latchNotice _ s, hq⟩
      · exact ⟨.refl s, hq⟩
    obtain ⟨seg', hq'⟩ := headEndsClaim_queue s1 hs1.2
    exact (hs1.1.trans (moves_headEndsClaim s1)).trans (moves_next hq')

theorem moves_settleLocations (p : Bool) (s : State) : Moves s (settleLocations p s) := by
  unfold settleLocations
  dsimp only
  split
  · exact moves_setLocation _ _ s
  · split
    · exact .refl s
    · exact moves_setLocation _ _ s
  · exact moves_setLocation _ _ s
  · exact moves_setLocation _ _ s
  · exact .refl s

theorem moves_endChange (r : ChangeResult) (s : State) : Moves s (endChange r s) :=
  ((moves_setChange _ s).trans (moves_latchNotice _ _)).trans (moves_autoRelease _)

theorem moves_finishChange (s : State) : Moves s (finishChange s) := by
  unfold finishChange
  dsimp only
  split
  · split
    · exact .refl s
    · exact moves_endChange _ s
  · exact .refl s

theorem moves_failTaken (c : ChangeCause) (n : Nat) (s : State) : Moves s (failTaken c n s) := by
  unfold failTaken
  dsimp only
  refine ((moves_settleLocations false s).trans ?_).trans ((moves_takeResult _ _).trans (moves_takeDeferredExpiry _))
  split
  · exact .refl _
  · exact moves_closeLids _

theorem moves_abortTaken (c : ChangeCause) (p : Bool) (s : State) : Moves s (abortTaken c p s) :=
  ((moves_settleLocations p s).trans (moves_closeLids _)).trans (moves_takeResult _ _)

theorem moves_failEnded (c : ChangeCause) (n : Nat) (s : State) : Moves s (failEnded c n s) :=
  (moves_failTaken c n s).trans (moves_finishChange _)

/-! ### The phases -/

theorem moves_issueRack (k : SegKind) (pt : Vector Int 3) (v : Nat) (s : State) : Moves s (issueRack k pt v s) :=
  moves_enqueue rfl s

theorem moves_issueTravel (p : Option (Fin 8)) (s : State) : Moves s (issueTravel p s) := by
  cases p with
  | none => exact .refl s
  | some p => exact moves_issueRack _ _ _ s

theorem moves_issueInsert (p : Option (Fin 8)) (s : State) : Moves s (issueInsert p s) := by
  cases p with
  | none => exact .refl s
  | some p => exact moves_issueRack _ _ _ s

theorem moves_issueBack (p : Option (Fin 8)) (s : State) : Moves s (issueBack p s) := by
  cases p with
  | none => exact .refl s
  | some p => exact moves_issueRack _ _ _ s

theorem moves_commandLid (p : Option (Fin 8)) (o : Bool) (s : State) : Moves s (commandLid p o s) := by
  cases p with
  | none => exact .refl s
  | some p => exact moves_setLid _ _ s

theorem moves_closePickEnded (s : State) : Moves s (closePickEnded s) :=
  (moves_takeResult _ s).trans (moves_finishChange _)

theorem moves_beginClosePick (s : State) : Moves s (beginClosePick s) := by
  have h : Moves s (enterPhase .closePick (some Config.lidTicks) (commandLid s.probes.change.pick false s)) :=
    (moves_commandLid _ _ s).trans (moves_enterPhase _ _ _)
  unfold beginClosePick
  dsimp only
  split
  · exact h.trans (moves_closePickEnded _)
  · exact h

theorem moves_beginWithdraw (s : State) : Moves s (beginWithdraw s) :=
  (moves_enterPhase _ _ s).trans (moves_issueBack _ _)

theorem moves_beginIdentify (s : State) : Moves s (beginIdentify s) := moves_enterPhase _ _ s

theorem moves_stretchEnded (p : Bool) (next : State → State) (hn : ∀ s, Moves s (next s)) (s : State) :
    Moves s (stretchEnded p next s) := by
  unfold stretchEnded
  dsimp only
  split
  · exact (moves_takeDeferredExpiry s).trans (hn _)
  · exact ((moves_abortTaken _ _ s).trans (moves_takeDeferredExpiry _)).trans (moves_finishChange _)

theorem moves_lockEnded (s : State) : Moves s (lockEnded s) := moves_stretchEnded _ _ moves_beginIdentify s

theorem moves_beginLock (s : State) : Moves s (beginLock s) := by
  have h : Moves s (enterPhase .lock (some Config.lockTicks) (setLock false s)) :=
    (moves_setLock _ s).trans (moves_enterPhase _ _ _)
  unfold beginLock
  dsimp only
  split
  · exact h.trans (moves_lockEnded _)
  · exact h

theorem moves_beginEngage (s : State) : Moves s (beginEngage s) :=
  (moves_enterPhase _ _ s).trans (moves_issueInsert _ _)

theorem moves_beginOpenPick (s : State) : Moves s (beginOpenPick s) := by
  have h : Moves s (enterPhase .openPick (some Config.lidTicks) (commandLid s.probes.change.pick true s)) :=
    (moves_commandLid _ _ s).trans (moves_enterPhase _ _ _)
  unfold beginOpenPick
  dsimp only
  split
  · exact h.trans (moves_beginEngage _)
  · exact h

theorem moves_beginTravelPick (s : State) : Moves s (beginTravelPick s) :=
  (moves_enterPhase _ _ s).trans (moves_issueTravel _ _)

theorem moves_beginCloseDrop (s : State) : Moves s (beginCloseDrop s) := by
  have h : Moves s (enterPhase .closeDrop (some Config.lidTicks) (commandLid s.probes.change.drop false s)) :=
    (moves_commandLid _ _ s).trans (moves_enterPhase _ _ _)
  unfold beginCloseDrop
  dsimp only
  split
  · exact h.trans (moves_beginTravelPick _)
  · exact h

theorem moves_beginDetach (s : State) : Moves s (beginDetach s) :=
  (moves_enterPhase _ _ s).trans (moves_issueBack _ _)

theorem moves_beginUnlock (s : State) : Moves s (beginUnlock s) := by
  have h : Moves s (enterPhase .unlock (some Config.lockTicks) (setLock true s)) :=
    (moves_setLock _ s).trans (moves_enterPhase _ _ _)
  unfold beginUnlock
  dsimp only
  split
  · exact h.trans (moves_beginDetach _)
  · exact h

theorem moves_beginInsert (s : State) : Moves s (beginInsert s) :=
  (moves_enterPhase _ _ s).trans (moves_issueInsert _ _)

theorem moves_beginOpenDrop (s : State) : Moves s (beginOpenDrop s) := by
  have h : Moves s (enterPhase .openDrop (some Config.lidTicks) (commandLid s.probes.change.drop true s)) :=
    (moves_commandLid _ _ s).trans (moves_enterPhase _ _ _)
  unfold beginOpenDrop
  dsimp only
  split
  · exact h.trans (moves_beginInsert _)
  · exact h

theorem moves_beginTravelDrop (s : State) : Moves s (beginTravelDrop s) :=
  (moves_enterPhase _ _ s).trans (moves_issueTravel _ _)

theorem moves_rackArrived (s : State) : Moves s (rackArrived s) := by
  unfold rackArrived
  extract_lets s1
  have h : Moves s s1 := moves_mapChange _ s
  refine h.trans ?_
  split
  · exact moves_beginOpenDrop _
  · exact moves_beginUnlock _
  · exact moves_beginOpenPick _
  · exact moves_beginLock _
  · split
    · split
      · exact moves_failEnded _ _ _
      · exact moves_beginClosePick _
    · exact .refl _
  · exact .refl _

theorem moves_afterRackEnd (o : SegOutcome) (s : State) : Moves s (afterRackEnd o s) := by
  unfold afterRackEnd
  split
  · exact moves_finishChange s
  · cases o with
    | arrived => exact moves_rackArrived s
    | unsettled | collision | conflict | motionFault | drivesOff => exact moves_failEnded _ _ s
    | touched | missed | halted | lapsed => exact .refl s

theorem moves_detachCheck (s : State) : Moves s (detachCheck s) := by
  unfold detachCheck
  dsimp only
  split
  · exact moves_failEnded _ _ s
  · split
    · split
      · exact (moves_setLocation _ _ s).trans (moves_stretchEnded _ _ moves_beginCloseDrop _)
      · exact moves_failEnded _ _ s
    · exact .refl s

theorem moves_identifyCheck (s : State) : Moves s (identifyCheck s) := by
  unfold identifyCheck
  dsimp only
  split
  · exact (moves_setLocation _ _ s).trans (moves_beginWithdraw _)
  · split
    · exact moves_failEnded _ _ s
    · exact (moves_setLocation _ _ s).trans (moves_failEnded _ _ _)

theorem moves_identityRead (s : State) : Moves s (identityRead s) := by
  unfold identityRead
  dsimp only
  split
  · split
    · exact moves_detachCheck s
    · exact moves_identifyCheck s
    · exact .refl s
  · exact .refl s

theorem moves_inputsChanged (s : State) : Moves s (inputsChanged s) := by
  unfold inputsChanged
  dsimp only
  split
  · split
    · split
      · exact moves_beginInsert s
      · exact .refl s
    · split
      · exact moves_beginDetach s
      · exact .refl s
    · split
      · exact moves_beginTravelPick s
      · exact .refl s
    · split
      · exact moves_beginEngage s
      · exact .refl s
    · split
      · exact moves_lockEnded s
      · exact .refl s
    · split
      · exact moves_closePickEnded s
      · exact .refl s
    · exact .refl s
  · exact .refl s

theorem moves_acceptChange (n : Nat) (d : Option (Fin 8)) (p : Fin 8) (s : State) : Moves s (acceptChange n d p s) := by
  unfold acceptChange
  dsimp only
  split
  · exact ((moves_setChange _ s).trans (moves_closeLidsBut _ _)).trans (moves_beginTravelDrop _)
  · exact ((((moves_setChange _ s).trans (moves_closeLidsBut _ _)).trans (moves_mapProbes _ _)).trans
      (moves_setLock _ _)).trans (moves_beginTravelPick _)

/-! ### Ends and stops -/

theorem moves_endHead (o : SegOutcome) (s : State) : Moves s (endHead o s) := by
  unfold endHead
  split
  · exact .refl s
  · dsimp only
    refine Moves.trans ?_ (moves_autoRelease _)
    split
    · exact (moves_removeHead o s).trans (moves_afterRackEnd o _)
    · exact moves_removeHead o s

/-- The flush of a controlled stop: none for TOUCHED (R74). -/
theorem moves_flushUnlessTouched (o : SegOutcome) (s : State) :
    Moves s (if o = .touched then s else flushBehind s) := by
  split
  · exact .refl s
  · exact moves_flushBehind s

theorem moves_controlledStop (o : SegOutcome) (s : State) : Moves s (controlledStop o s) := by
  unfold controlledStop
  split
  · exact .refl s
  · dsimp only
    refine (moves_flushUnlessTouched o s).trans ?_
    generalize (if o = .touched then s else flushBehind s) = s1
    split
    · split
      · exact .refl _
      · exact moves_autoRelease _
    · split
      · exact moves_endHead _ _
      · split
        · exact moves_stopMoving _ _
        · exact (moves_stopMoving _ _).trans (moves_autoRelease _)
    all_goals exact moves_endHead _ _

theorem moves_endAtOnce (o : SegOutcome) (s : State) : Moves s (endAtOnce o s) :=
  (moves_flushBehind s).trans (moves_endHead o _)

theorem moves_zonesLost (x : ZoneSet) (s : State) : Moves s (zonesLost x s) := by
  unfold zonesLost
  split
  · exact .refl s
  · split
    · exact moves_controlledStop _ s
    · exact .refl s

theorem moves_failPhase (c : ChangeCause) (n : Nat) (s : State) : Moves s (failPhase c n s) := by
  unfold failPhase
  dsimp only
  refine Moves.trans ((moves_failTaken c n s).trans ?_) (moves_finishChange _)
  split
  · exact moves_controlledStop _ _
  · exact .refl _

theorem moves_changePowerLost (c : ChangeCause) (s : State) : Moves s (changePowerLost c s) := by
  unfold changePowerLost
  dsimp only
  split
  · have h : Moves s
        (setLocation s.probes.change.target .unknown (setLocation s.probes.change.oldId .unknown s)) :=
      (moves_setLocation _ _ s).trans (moves_setLocation _ _ _)
    split
    · exact h
    · exact h.trans ((moves_takeResult _ _).trans (moves_takeDeferredExpiry _))
  · exact .refl s

theorem moves_abortChange (c : ChangeCause) (s : State) : Moves s (abortChange c s) := by
  unfold abortChange
  dsimp only
  split
  · split
    · split
      · exact .refl s
      · exact moves_mapChange _ s
    · exact moves_abortTaken _ _ s
  · exact .refl s

/-- The permit and its timer stand beside the queue. -/
theorem moves_setPermit (p : Permit) (d : Option Nat) (s : State) :
    Moves s { s with motion := { s.motion with permit := p, permitTimer := d } } :=
  .of_queue (by constructor <;> rfl) rfl rfl

theorem moves_permitExpire (h : Bool) (s : State) : Moves s (permitExpire h s) := by
  unfold permitExpire
  dsimp only
  split
  · exact .refl s
  · split
    · exact (moves_setPermit s.motion.permit none s).trans (moves_mapChange _ _)
    · refine Moves.trans ?_ ((moves_controlledStop _ _).trans (moves_finishChange _))
      refine ((moves_setPermit .lapsed none s).trans (moves_latchNotice (.permitLapsed h) _)).trans ?_
      split
      · exact moves_abortTaken _ _ _
      · exact .refl _

theorem moves_permitRenew (s : State) : Moves s (permitRenew s) := by
  unfold permitRenew
  dsimp only
  split
  · exact moves_setPermit _ _ s
  · exact (moves_setPermit _ _ s).trans (moves_mapChange _ _)

theorem moves_haltMotion (c : ChangeCause) (s : State) : Moves s (haltMotion c s) := by
  unfold haltMotion
  split
  · exact moves_abortChange c s
  · exact (((moves_abortChange c s).trans (moves_withdrawClaim _)).trans (moves_controlledStop _ _)).trans
      (moves_finishChange _)

end Sys2Proof.Machine

namespace Sys2Proof.Machine

/-! ### Calm operations -/

/-- From `s` to `t` no segment joins, no change begins or takes up another phase, and no record changes its id or its
home or comes ON HEAD. -/
structure Calm (s t : State) : Prop where
  length : t.motion.queue.length ≤ s.motion.queue.length
  active : t.probes.change.active = true → s.probes.change.active = true
  running : t.probes.change.active = true → t.probes.change.result = none →
    s.probes.change.result = none ∧ t.probes.change.phase = s.probes.change.phase ∧
      t.probes.change.oldId = s.probes.change.oldId ∧ t.probes.change.segArrived = s.probes.change.segArrived ∧
      t.probes.change.readBegun = s.probes.change.readBegun
  ids : ∀ i, (t.probes.table.get i).id = (s.probes.table.get i).id
  homes : ∀ i, (t.probes.table.get i).home = (s.probes.table.get i).home
  onHead : ∀ i, (t.probes.table.get i).location = .onHead → (s.probes.table.get i).location = .onHead

theorem Calm.refl (s : State) : Calm s s :=
  ⟨le_rfl, fun h => h, fun _ h => ⟨h, rfl, rfl, rfl, rfl⟩, fun _ => rfl, fun _ => rfl, fun _ h => h⟩

theorem Calm.trans {s t u : State} (h : Calm s t) (k : Calm t u) : Calm s u where
  length := k.length.trans h.length
  active ha := h.active (k.active ha)
  running ha hr := by
    obtain ⟨hr1, hp1, ho1, hs1, hb1⟩ := k.running ha hr
    obtain ⟨hr0, hp0, ho0, hs0, hb0⟩ := h.running (k.active ha) hr1
    exact ⟨hr0, hp1.trans hp0, ho1.trans ho0, hs1.trans hs0, hb1.trans hb0⟩
  ids i := (k.ids i).trans (h.ids i)
  homes i := (k.homes i).trans (h.homes i)
  onHead i hi := h.onHead i (k.onHead i hi)

/-- An operation that leaves the probe unit alone and lets no segment join. -/
theorem Calm.of_probes {s t : State} (hq : t.motion.queue.length ≤ s.motion.queue.length) (hp : t.probes = s.probes) :
    Calm s t := by
  have h := Calm.refl s
  exact ⟨hq, by rw [hp]; exact h.active, by rw [hp]; exact h.running, by rw [hp]; exact h.ids,
    by rw [hp]; exact h.homes, by rw [hp]; exact h.onHead⟩

/-- An operation that changes the change record and leaves queue and table alone. -/
theorem Calm.of_change {s t : State} (hq : t.motion.queue = s.motion.queue) (ht : t.probes.table = s.probes.table)
    (ha : t.probes.change.active = true → s.probes.change.active = true)
    (hr : t.probes.change.active = true → t.probes.change.result = none →
      s.probes.change.result = none ∧ t.probes.change.phase = s.probes.change.phase ∧
        t.probes.change.oldId = s.probes.change.oldId ∧ t.probes.change.segArrived = s.probes.change.segArrived ∧
        t.probes.change.readBegun = s.probes.change.readBegun) : Calm s t :=
  ⟨by rw [hq], ha, hr, fun i => by rw [ht], fun i => by rw [ht], fun i h => by rwa [ht] at h⟩

theorem workingPhase_congr {c d : Change} (hp : d.phase = c.phase) (hs : d.segArrived = c.segArrived)
    (hb : d.readBegun = c.readBegun) : workingPhase d = workingPhase c := by
  simp only [workingPhase, hp, hs, hb]

theorem Calm.queueBounded {s t : State} (h : Calm s t) (hs : QueueBounded s) : QueueBounded t := by
  obtain ⟨height, hone, hnone⟩ := hs
  refine ⟨h.length.trans height, fun ha => h.length.trans (hone (h.active ha)), fun ha hr hw => ?_⟩
  obtain ⟨hr0, hp, -, hs0, hb⟩ := h.running ha hr
  have hempty := hnone (h.active ha) hr0 ((workingPhase_congr hp hs0 hb).symm.trans hw)
  exact List.length_eq_zero_iff.mp (Nat.le_zero.mp (by simpa [hempty] using h.length))

theorem Calm.tableDistinct {s t : State} (h : Calm s t) (hs : TableDistinct s.probes.table) :
    TableDistinct t.probes.table := by
  intro i j hij
  obtain ⟨hid, hhome, hhead⟩ := hs i j hij
  simp only [h.ids, h.homes]
  exact ⟨hid, hhome, fun hi hj => hhead (h.onHead i hi) (h.onHead j hj)⟩

/-- In the change in progress, if it has taken no outcome, no record is ON HEAD. -/
def HeadEmpty (s : State) : Prop :=
  s.probes.change.active = true → s.probes.change.result = none → ∀ i, (s.probes.table.get i).location ≠ .onHead

/-- In the change in progress, if it has taken no outcome, the record ON HEAD is the old probe's. -/
def HeadHoldsOld (s : State) : Prop :=
  s.probes.change.active = true → s.probes.change.result = none → s.probes.change.oldId ≠ 0 ∧
    ∀ i, (s.probes.table.get i).location = .onHead → (s.probes.table.get i).id = s.probes.change.oldId

theorem Calm.headEmpty {s t : State} (h : Calm s t) (hs : HeadEmpty s) : HeadEmpty t :=
  fun ha hr i hi => hs (h.active ha) (h.running ha hr).1 i (h.onHead i hi)

theorem Calm.headHoldsOld {s t : State} (h : Calm s t) (hs : HeadHoldsOld s) : HeadHoldsOld t := by
  intro ha hr
  obtain ⟨hr0, -, ho, -⟩ := h.running ha hr
  obtain ⟨hne, hids⟩ := hs (h.active ha) hr0
  exact ⟨by rw [ho]; exact hne, fun i hi => by rw [h.ids, ho]; exact hids i (h.onHead i hi)⟩

/-- `TableSafe`, with its two clauses named. -/
theorem tableSafe_iff (s : State) : TableSafe s ↔ TableDistinct s.probes.table ∧
    (headEmptyPhase s.probes.change = true → HeadEmpty s) ∧ (dropPhase s.probes.change = true → HeadHoldsOld s) := by
  unfold TableSafe HeadEmpty HeadHoldsOld
  constructor
  · rintro ⟨hd, he, ho⟩
    exact ⟨hd, fun hp ha hr => he ha hr hp, fun hp ha hr => ho ha hr hp⟩
  · rintro ⟨hd, he, ho⟩
    exact ⟨hd, fun ha hr hp => he hp ha hr, fun ha hr hp => ho hp ha hr⟩

theorem Calm.tableSafe {s t : State} (h : Calm s t) (hs : TableSafe s) : TableSafe t := by
  rw [tableSafe_iff] at hs
  obtain ⟨hd, he, ho⟩ := hs
  refine ⟨h.tableDistinct hd, fun ha hr hp => ?_, fun ha hr hp => ?_⟩
  · have hphase := (h.running ha hr).2.1
    exact h.headEmpty (he (by simpa only [headEmptyPhase, hphase] using hp)) ha hr
  · have hphase := (h.running ha hr).2.1
    exact h.headHoldsOld (ho (by simpa only [dropPhase, hphase] using hp)) ha hr

theorem calm_latchNotice (n : Notice) (s : State) : Calm s (latchNotice n s) := .of_probes le_rfl rfl

theorem calm_closeLidsBut (k : Fin 8 → Bool) (s : State) : Calm s (closeLidsBut k s) :=
  .of_change rfl rfl id fun _ h => ⟨h, rfl, rfl, rfl, rfl⟩

theorem calm_closeLids (s : State) : Calm s (closeLids s) := calm_closeLidsBut _ s

theorem calm_setLid (p : Fin 8) (o : Bool) (s : State) : Calm s (setLid p o s) :=
  .of_change rfl rfl id fun _ h => ⟨h, rfl, rfl, rfl, rfl⟩

theorem calm_commandLid (p : Option (Fin 8)) (o : Bool) (s : State) : Calm s (commandLid p o s) := by
  cases p with
  | none => exact .refl s
  | some p => exact calm_setLid p o s

theorem calm_setLock (u : Bool) (s : State) : Calm s (setLock u s) :=
  .of_change rfl rfl id fun _ h => ⟨h, rfl, rfl, rfl, rfl⟩

theorem calm_takeResult (r : ChangeResult) (s : State) : Calm s (takeResult r s) :=
  .of_change rfl rfl id fun _ h => by cases h

theorem calm_takeDeferredExpiry (s : State) : Calm s (takeDeferredExpiry s) := by
  unfold takeDeferredExpiry
  split
  · exact .refl s
  · exact .of_change rfl rfl id fun _ h => ⟨h, rfl, rfl, rfl, rfl⟩

theorem calm_setPermit (p : Permit) (d : Option Nat) (s : State) :
    Calm s { s with motion := { s.motion with permit := p, permitTimer := d } } := .of_probes le_rfl rfl

theorem calm_autoRelease (s : State) : Calm s (autoRelease s) := by
  unfold autoRelease releaseZones
  split
  · exact .refl s
  · exact .of_probes le_rfl rfl

theorem calm_endChange (r : ChangeResult) (s : State) : Calm s (endChange r s) := by
  have h : Calm s (setChange (Change.idle s.probes.change.last) s) :=
    .of_change rfl rfl (fun h => by cases h) fun h => by cases h
  exact (h.trans (calm_latchNotice _ _)).trans (calm_autoRelease _)

theorem calm_finishChange (s : State) : Calm s (finishChange s) := by
  unfold finishChange
  dsimp only
  split
  · split
    · exact .refl s
    · exact calm_endChange _ s
  · exact .refl s

theorem setLocation_table (id : Nat) (l : Location) (s : State) (i : Fin 16) :
    (setLocation id l s).probes.table.get i =
      if id ≠ 0 ∧ (s.probes.table.get i).id = id then { s.probes.table.get i with location := l }
      else s.probes.table.get i := by
  by_cases h : id = 0 <;> simp [setLocation, h]

@[simp] theorem setLocation_change (id : Nat) (l : Location) (s : State) :
    (setLocation id l s).probes.change = s.probes.change := by
  unfold setLocation
  split <;> rfl

@[simp] theorem setLocation_id (id : Nat) (l : Location) (s : State) (i : Fin 16) :
    ((setLocation id l s).probes.table.get i).id = (s.probes.table.get i).id := by
  rw [setLocation_table]
  split <;> rfl

@[simp] theorem setLocation_home (id : Nat) (l : Location) (s : State) (i : Fin 16) :
    ((setLocation id l s).probes.table.get i).home = (s.probes.table.get i).home := by
  rw [setLocation_table]
  split <;> rfl

/-- A location other than ON HEAD puts no record there. -/
theorem calm_setLocation {l : Location} (hl : l ≠ .onHead) (id : Nat) (s : State) : Calm s (setLocation id l s) := by
  refine ⟨by simp, by simp, by simp, by simp, by simp, fun i hi => ?_⟩
  rw [setLocation_table] at hi
  split at hi
  · exact absurd hi hl
  · exact hi

theorem calm_settleLocations (p : Bool) (s : State) : Calm s (settleLocations p s) := by
  have hl : Location.unknown ≠ .onHead := by decide
  unfold settleLocations
  dsimp only
  split
  · exact calm_setLocation hl _ s
  · split
    · exact .refl s
    · exact calm_setLocation hl _ s
  · exact calm_setLocation hl _ s
  · exact calm_setLocation hl _ s
  · exact .refl s

/-- What stands before the outcome of a failing phase: the locations and the lids (R141). -/
theorem calm_settled_lids (s : State) :
    Calm s (if inCommit s = true then settleLocations false s else closeLids (settleLocations false s)) := by
  split
  · exact calm_settleLocations false s
  · exact (calm_settleLocations false s).trans (calm_closeLids _)

theorem calm_failTaken (c : ChangeCause) (n : Nat) (s : State) : Calm s (failTaken c n s) := by
  unfold failTaken
  dsimp only
  exact (calm_settled_lids s).trans ((calm_takeResult _ _).trans (calm_takeDeferredExpiry _))

theorem calm_abortTaken (c : ChangeCause) (p : Bool) (s : State) : Calm s (abortTaken c p s) :=
  ((calm_settleLocations p s).trans (calm_closeLids _)).trans (calm_takeResult _ _)

theorem calm_failEnded (c : ChangeCause) (n : Nat) (s : State) : Calm s (failEnded c n s) :=
  (calm_failTaken c n s).trans (calm_finishChange _)

theorem calm_closePickEnded (s : State) : Calm s (closePickEnded s) :=
  (calm_takeResult _ s).trans (calm_finishChange _)

theorem calm_mapHead (f : Segment → Segment) (s : State) : Calm s (mapHead f s) := by
  cases hq : s.motion.queue with
  | nil => rw [mapHead_nil hq]; exact .refl s
  | cons seg rest => rw [mapHead_cons hq]; exact .of_probes (by simp [hq]) rfl

theorem calm_flushBehind (s : State) : Calm s (flushBehind s) := by
  cases hq : s.motion.queue with
  | nil => rw [flushBehind_nil hq]; exact .refl s
  | cons seg rest => rw [flushBehind_cons hq]; exact .of_probes (by simp [hq]) rfl

theorem calm_setClaim (c : Claim) (s : State) : Calm s (setClaim c s) := .of_probes le_rfl rfl

theorem calm_mapSlots (f : Slots → Slots) (s : State) : Calm s (mapSlots f s) := .of_probes le_rfl rfl

theorem calm_unclaimHead (s : State) : Calm s (unclaimHead s) := calm_mapHead _ s

theorem calm_withdrawClaim (s : State) : Calm s (withdrawClaim s) := by
  unfold withdrawClaim
  split
  · split
    · exact .of_probes le_rfl rfl
    · exact ((calm_mapSlots (fun x => { x with claim := none }) s).trans (calm_setClaim _ _)).trans
        (calm_unclaimHead _)
  · exact .refl s

theorem calm_headEndsClaim (s : State) : Calm s (headEndsClaim s) := by
  rcases headEndsClaim_cases s with h | h | ⟨x, -, -, h⟩ <;> rw [h]
  · exact .refl s
  · exact calm_withdrawClaim s
  · exact .of_probes le_rfl rfl

theorem calm_overlapCheck (s : State) : Calm s (overlapCheck s) := by
  unfold overlapCheck
  split
  · split
    · exact .refl s
    · exact calm_withdrawClaim s
  · exact .refl s

theorem calm_failWindow (s : State) : Calm s (failWindow s) := by
  unfold failWindow
  split
  · exact (calm_setClaim _ s).trans (calm_unclaimHead _)
  · exact .refl s

theorem withdrawClaim_probes (s : State) : (withdrawClaim s).probes = s.probes := by
  unfold withdrawClaim
  split
  · split <;> simp
  · rfl

theorem headEndsClaim_probes (s : State) : (headEndsClaim s).probes = s.probes := by
  rcases headEndsClaim_cases s with h | h | ⟨x, -, -, h⟩ <;> rw [h]
  · exact withdrawClaim_probes s
  · rfl

@[simp] theorem removeHead_probes (o : SegOutcome) (s : State) : (removeHead o s).probes = s.probes := by
  unfold removeHead
  split
  · rfl
  · simp only [formHead_probes, setQueue_probes, headEndsClaim_probes]
    split <;> rfl

/-- The head leaves and what stood behind it stays (R56). -/
theorem removeHead_length {o : SegOutcome} {s : State} {seg : Segment} {rest : List Segment}
    (hq : s.motion.queue = seg :: rest) : (removeHead o s).motion.queue.length = rest.length := by
  simp only [removeHead, hq]
  cases rest with
  | nil => rw [formHead_nil rfl]; rfl
  | cons x xs =>
    rw [formHead_cons (seg := x) (rest := xs) rfl]
    rfl

theorem calm_removeHead (o : SegOutcome) (s : State) : Calm s (removeHead o s) := by
  cases hq : s.motion.queue with
  | nil => rw [removeHead_nil hq]; exact .refl s
  | cons seg rest => exact .of_probes (by simp [removeHead_length hq, hq]) (removeHead_probes o s)

theorem calm_changePowerLost (c : ChangeCause) (s : State) : Calm s (changePowerLost c s) := by
  have hl : Location.unknown ≠ .onHead := by decide
  unfold changePowerLost
  dsimp only
  split
  · have h : Calm s (setLocation s.probes.change.target .unknown (setLocation s.probes.change.oldId .unknown s)) :=
      (calm_setLocation hl _ s).trans (calm_setLocation hl _ _)
    split
    · exact h
    · exact h.trans ((calm_takeResult _ _).trans (calm_takeDeferredExpiry _))
  · exact .refl s

theorem calm_abortChange (c : ChangeCause) (s : State) : Calm s (abortChange c s) := by
  unfold abortChange
  dsimp only
  split
  · split
    · split
      · exact .refl s
      · exact .of_change rfl rfl id fun _ h => ⟨h, rfl, rfl, rfl, rfl⟩
    · exact calm_abortTaken _ _ s
  · exact .refl s

theorem calm_permitRenew (s : State) : Calm s (permitRenew s) := by
  unfold permitRenew
  dsimp only
  split
  · exact calm_setPermit _ _ s
  · exact .of_change rfl rfl id fun _ h => ⟨h, rfl, rfl, rfl, rfl⟩

theorem calm_placeObjection (c : Nat) (x : ZoneSet) (s : State) : Calm s (placeObjection c x s) := by
  unfold placeObjection
  split
  · split <;> exact .of_probes le_rfl rfl
  · exact .of_probes le_rfl rfl

/-! ### The phases of a change: the queue (R56, R134) -/

/-- There is room for a segment, and during a change no segment is queued. -/
def Vacant (s : State) : Prop :=
  s.motion.queue.length ≤ 7 ∧ (s.probes.change.active = true → s.motion.queue = [])

theorem Vacant.queueBounded {s : State} (h : Vacant s) : QueueBounded s :=
  ⟨h.1.trans (by decide), fun ha => by simp [h.2 ha], fun ha _ _ => h.2 ha⟩

theorem Calm.vacant {s t : State} (h : Calm s t) (hs : Vacant s) : Vacant t :=
  ⟨h.length.trans hs.1, fun ha => List.length_eq_zero_iff.mp
    (Nat.le_zero.mp (by simpa [hs.2 (h.active ha)] using h.length))⟩

theorem vacant_enterPhase {s : State} (ph : Phase) (timer : Option Nat) (h : Vacant s) :
    Vacant (enterPhase ph timer s) := h

theorem enqueue_length (seg : Segment) (s : State) :
    (enqueue seg s).motion.queue.length = s.motion.queue.length + 1 := by
  cases hq : s.motion.queue with
  | nil => rw [enqueue_empty hq]; rfl
  | cons x xs => rw [enqueue_behind hq]; simp

theorem queueBounded_issueRack {s : State} (k : SegKind) (pt : Vector Int 3) (v : Nat) (h : Vacant s)
    (hw : workingPhase s.probes.change = false) : QueueBounded (issueRack k pt v s) := by
  unfold issueRack QueueBounded
  rw [enqueue_length, enqueue_probes, hw]
  exact ⟨Nat.succ_le_succ h.1, fun ha => by simp [h.2 ha], by simp⟩

theorem queueBounded_issueTravel {s : State} (p : Option (Fin 8)) (h : Vacant s)
    (hw : workingPhase s.probes.change = false) : QueueBounded (issueTravel p s) := by
  cases p with
  | none => exact h.queueBounded
  | some p => exact queueBounded_issueRack _ _ _ h hw

theorem queueBounded_issueInsert {s : State} (p : Option (Fin 8)) (h : Vacant s)
    (hw : workingPhase s.probes.change = false) : QueueBounded (issueInsert p s) := by
  cases p with
  | none => exact h.queueBounded
  | some p => exact queueBounded_issueRack _ _ _ h hw

theorem queueBounded_issueBack {s : State} (p : Option (Fin 8)) (h : Vacant s)
    (hw : workingPhase s.probes.change = false) : QueueBounded (issueBack p s) := by
  cases p with
  | none => exact h.queueBounded
  | some p => exact queueBounded_issueRack _ _ _ h hw

theorem queueBounded_beginClosePick {s : State} (h : Vacant s) : QueueBounded (beginClosePick s) := by
  have hv : Vacant (enterPhase .closePick (some Config.lidTicks) (commandLid s.probes.change.pick false s)) :=
    vacant_enterPhase _ _ ((calm_commandLid _ _ s).vacant h)
  unfold beginClosePick
  dsimp only
  split
  · exact (calm_closePickEnded _).queueBounded hv.queueBounded
  · exact hv.queueBounded

theorem queueBounded_beginWithdraw {s : State} (h : Vacant s) : QueueBounded (beginWithdraw s) :=
  queueBounded_issueBack _ (vacant_enterPhase _ _ h) rfl

theorem queueBounded_beginIdentify {s : State} (h : Vacant s) : QueueBounded (beginIdentify s) :=
  (vacant_enterPhase _ _ h).queueBounded

theorem queueBounded_stretchEnded (p : Bool) (next : State → State) (hn : ∀ s, Vacant s → QueueBounded (next s))
    {s : State} (h : Vacant s) : QueueBounded (stretchEnded p next s) := by
  unfold stretchEnded
  dsimp only
  split
  · exact hn _ ((calm_takeDeferredExpiry s).vacant h)
  · exact (((calm_abortTaken _ _ s).trans (calm_takeDeferredExpiry _)).trans (calm_finishChange _)).queueBounded
      h.queueBounded

theorem queueBounded_lockEnded {s : State} (h : Vacant s) : QueueBounded (lockEnded s) :=
  queueBounded_stretchEnded _ _ (fun _ => queueBounded_beginIdentify) h

theorem queueBounded_beginLock {s : State} (h : Vacant s) : QueueBounded (beginLock s) := by
  have hv : Vacant (enterPhase .lock (some Config.lockTicks) (setLock false s)) :=
    vacant_enterPhase _ _ ((calm_setLock _ s).vacant h)
  unfold beginLock
  dsimp only
  split
  · exact queueBounded_lockEnded hv
  · exact hv.queueBounded

theorem queueBounded_beginEngage {s : State} (h : Vacant s) : QueueBounded (beginEngage s) :=
  queueBounded_issueInsert _ (vacant_enterPhase _ _ h) rfl

theorem queueBounded_beginOpenPick {s : State} (h : Vacant s) : QueueBounded (beginOpenPick s) := by
  have hv : Vacant (enterPhase .openPick (some Config.lidTicks) (commandLid s.probes.change.pick true s)) :=
    vacant_enterPhase _ _ ((calm_commandLid _ _ s).vacant h)
  unfold beginOpenPick
  dsimp only
  split
  · exact queueBounded_beginEngage hv
  · exact hv.queueBounded

theorem queueBounded_beginTravelPick {s : State} (h : Vacant s) : QueueBounded (beginTravelPick s) :=
  queueBounded_issueTravel _ (vacant_enterPhase _ _ h) rfl

theorem queueBounded_beginCloseDrop {s : State} (h : Vacant s) : QueueBounded (beginCloseDrop s) := by
  have hv : Vacant (enterPhase .closeDrop (some Config.lidTicks) (commandLid s.probes.change.drop false s)) :=
    vacant_enterPhase _ _ ((calm_commandLid _ _ s).vacant h)
  unfold beginCloseDrop
  dsimp only
  split
  · exact queueBounded_beginTravelPick hv
  · exact hv.queueBounded

theorem queueBounded_beginDetach {s : State} (h : Vacant s) : QueueBounded (beginDetach s) :=
  queueBounded_issueBack _ (vacant_enterPhase _ _ h) rfl

theorem queueBounded_beginUnlock {s : State} (h : Vacant s) : QueueBounded (beginUnlock s) := by
  have hv : Vacant (enterPhase .unlock (some Config.lockTicks) (setLock true s)) :=
    vacant_enterPhase _ _ ((calm_setLock _ s).vacant h)
  unfold beginUnlock
  dsimp only
  split
  · exact queueBounded_beginDetach hv
  · exact hv.queueBounded

theorem queueBounded_beginInsert {s : State} (h : Vacant s) : QueueBounded (beginInsert s) :=
  queueBounded_issueInsert _ (vacant_enterPhase _ _ h) rfl

theorem queueBounded_beginOpenDrop {s : State} (h : Vacant s) : QueueBounded (beginOpenDrop s) := by
  have hv : Vacant (enterPhase .openDrop (some Config.lidTicks) (commandLid s.probes.change.drop true s)) :=
    vacant_enterPhase _ _ ((calm_commandLid _ _ s).vacant h)
  unfold beginOpenDrop
  dsimp only
  split
  · exact queueBounded_beginInsert hv
  · exact hv.queueBounded

theorem queueBounded_beginTravelDrop {s : State} (h : Vacant s) : QueueBounded (beginTravelDrop s) :=
  queueBounded_issueTravel _ (vacant_enterPhase _ _ h) rfl

theorem queueBounded_rackArrived {s : State} (h : Vacant s) : QueueBounded (rackArrived s) := by
  unfold rackArrived
  extract_lets s1
  have hv : Vacant s1 := h
  split
  · exact queueBounded_beginOpenDrop hv
  · exact queueBounded_beginUnlock hv
  · exact queueBounded_beginOpenPick hv
  · exact queueBounded_beginLock hv
  · split
    · split
      · exact (calm_failEnded _ _ _).queueBounded hv.queueBounded
      · exact queueBounded_beginClosePick hv
    · exact hv.queueBounded
  · exact hv.queueBounded

theorem queueBounded_afterRackEnd (o : SegOutcome) {s : State} (h : Vacant s) : QueueBounded (afterRackEnd o s) := by
  unfold afterRackEnd
  split
  · exact (calm_finishChange s).queueBounded h.queueBounded
  · cases o with
    | arrived => exact queueBounded_rackArrived h
    | unsettled | collision | conflict | motionFault | drivesOff =>
      exact (calm_failEnded _ _ s).queueBounded h.queueBounded
    | touched | missed | halted | lapsed => exact h.queueBounded

theorem queueBounded_detachCheck {s : State} (h : Vacant s) : QueueBounded (detachCheck s) := by
  have hl : Location.inPort ≠ .onHead := by decide
  unfold detachCheck
  dsimp only
  split
  · exact (calm_failEnded _ _ s).queueBounded h.queueBounded
  · split
    · split
      · exact queueBounded_stretchEnded _ _ (fun _ => queueBounded_beginCloseDrop) ((calm_setLocation hl _ s).vacant h)
      · exact (calm_failEnded _ _ s).queueBounded h.queueBounded
    · exact h.queueBounded

theorem vacant_setLocation {s : State} (id : Nat) (l : Location) (h : Vacant s) : Vacant (setLocation id l s) := by
  simpa [Vacant] using h

theorem queueBounded_identifyCheck {s : State} (h : Vacant s) : QueueBounded (identifyCheck s) := by
  unfold identifyCheck
  dsimp only
  split
  · exact queueBounded_beginWithdraw (vacant_setLocation _ _ h)
  · split
    · exact (calm_failEnded _ _ s).queueBounded h.queueBounded
    · exact (calm_failEnded _ _ _).queueBounded (vacant_setLocation _ _ h).queueBounded

/-- In a phase that works without a segment there is room for the next. -/
theorem vacant_of_working {s : State} (h : QueueBounded s) (ha : s.probes.change.active = true)
    (hr : s.probes.change.result = none) (hw : workingPhase s.probes.change = true) : Vacant s := by
  have hempty := h.2.2 ha hr hw
  exact ⟨by simp [hempty], fun _ => hempty⟩

/-- The guard of what a phase waits for: the change is in progress and has taken no outcome. -/
theorem running_of_guard {c : Change} (h : (c.active && c.result.isNone) = true) :
    c.active = true ∧ c.result = none := by
  rwa [Bool.and_eq_true, Option.isNone_iff_eq_none] at h

theorem queueBounded_identityRead {s : State} (h : QueueBounded s) : QueueBounded (identityRead s) := by
  unfold identityRead
  dsimp only
  split
  · rename_i hguard
    rw [Bool.and_eq_true] at hguard
    obtain ⟨ha, hr⟩ := running_of_guard hguard.1
    split
    · rename_i hp
      exact queueBounded_detachCheck (vacant_of_working h ha hr (by simp [workingPhase, hp, hguard.2]))
    · rename_i hp
      exact queueBounded_identifyCheck (vacant_of_working h ha hr (by simp [workingPhase, hp]))
    · exact h
  · exact h

theorem queueBounded_inputsChanged {s : State} (h : QueueBounded s) : QueueBounded (inputsChanged s) := by
  unfold inputsChanged
  dsimp only
  split
  · rename_i hguard
    obtain ⟨ha, hr⟩ := running_of_guard hguard
    have hv (hw : workingPhase s.probes.change = true) : Vacant s := vacant_of_working h ha hr hw
    split
    · rename_i hp
      split
      · exact queueBounded_beginInsert (hv (by simp [workingPhase, hp]))
      · exact h
    · rename_i hp
      split
      · exact queueBounded_beginDetach (hv (by simp [workingPhase, hp]))
      · exact h
    · rename_i hp
      split
      · exact queueBounded_beginTravelPick (hv (by simp [workingPhase, hp]))
      · exact h
    · rename_i hp
      split
      · exact queueBounded_beginEngage (hv (by simp [workingPhase, hp]))
      · exact h
    · rename_i hp
      split
      · exact queueBounded_lockEnded (hv (by simp [workingPhase, hp]))
      · exact h
    · split
      · exact (calm_closePickEnded s).queueBounded h
      · exact h
    · exact h
  · exact h

/-- Once the head has left there is room for a segment, and during a change the queue is empty. -/
theorem vacant_removeHead {o : SegOutcome} {s : State} {seg : Segment} {rest : List Segment}
    (hq : s.motion.queue = seg :: rest) (h : QueueBounded s) : Vacant (removeHead o s) := by
  obtain ⟨height, hone, -⟩ := h
  rw [hq, List.length_cons] at height hone
  refine ⟨by rw [removeHead_length hq]; omega, fun ha => ?_⟩
  rw [removeHead_probes] at ha
  have := hone ha
  exact List.length_eq_zero_iff.mp (by rw [removeHead_length hq]; omega)

theorem queueBounded_endHead (o : SegOutcome) {s : State} (h : QueueBounded s) : QueueBounded (endHead o s) := by
  unfold endHead
  split
  · exact h
  · rename_i hq
    have hv := vacant_removeHead (o := o) hq h
    dsimp only
    refine (calm_autoRelease _).queueBounded ?_
    split
    · exact queueBounded_afterRackEnd o hv
    · exact hv.queueBounded

/-! ### The phases of a change: the probe table (R126, R136, R139) -/

theorem TableSafe.distinct {s : State} (h : TableSafe s) : TableDistinct s.probes.table := h.1

theorem tableSafe_of_result {s : State} (hd : TableDistinct s.probes.table) (hr : s.probes.change.result ≠ none) :
    TableSafe s := ⟨hd, fun _ h => absurd h hr, fun _ h => absurd h hr⟩

theorem tableSafe_of_inactive {s : State} (hd : TableDistinct s.probes.table) (ha : s.probes.change.active = false) :
    TableSafe s :=
  ⟨hd, fun h => absurd h (by simp [ha]), fun h => absurd h (by simp [ha])⟩

theorem tableSafe_congr {s t : State} (hp : t.probes = s.probes) (h : TableSafe s) : TableSafe t := by
  simpa only [TableSafe, hp] using h

theorem takeDeferredExpiry_result (s : State) :
    (takeDeferredExpiry s).probes.change.result = s.probes.change.result := by
  unfold takeDeferredExpiry
  split <;> rfl

/-- An outcome taken frees the table of what a running phase asks of it. -/
theorem tableSafe_failTaken (c : ChangeCause) (n : Nat) {s : State} (hd : TableDistinct s.probes.table) :
    TableSafe (failTaken c n s) := by
  refine tableSafe_of_result ((calm_failTaken c n s).tableDistinct hd) ?_
  unfold failTaken
  rw [takeDeferredExpiry_result]
  exact Option.some_ne_none _

theorem tableSafe_failEnded (c : ChangeCause) (n : Nat) {s : State} (hd : TableDistinct s.probes.table) :
    TableSafe (failEnded c n s) := (calm_finishChange _).tableSafe (tableSafe_failTaken c n hd)

theorem tableSafe_abortTaken (c : ChangeCause) (p : Bool) {s : State} (hd : TableDistinct s.probes.table) :
    TableSafe (abortTaken c p s) :=
  tableSafe_of_result ((calm_abortTaken c p s).tableDistinct hd) (Option.some_ne_none _)

/-- The table as the phases from the drop's end check to the identification want it. -/
def PickTable (s : State) : Prop := TableDistinct s.probes.table ∧ HeadEmpty s

/-- The table as the phases of a drop want it. -/
def DropTable (s : State) : Prop := TableDistinct s.probes.table ∧ HeadHoldsOld s

theorem Calm.pickTable {s t : State} (h : Calm s t) (hs : PickTable s) : PickTable t :=
  ⟨h.tableDistinct hs.1, h.headEmpty hs.2⟩

theorem Calm.dropTable {s t : State} (h : Calm s t) (hs : DropTable s) : DropTable t :=
  ⟨h.tableDistinct hs.1, h.headHoldsOld hs.2⟩

theorem pickTable_of_phase {s : State} (h : TableSafe s) (hp : headEmptyPhase s.probes.change = true) : PickTable s :=
  ⟨h.1, ((tableSafe_iff s).mp h).2.1 hp⟩

theorem dropTable_of_phase {s : State} (h : TableSafe s) (hp : dropPhase s.probes.change = true) : DropTable s :=
  ⟨h.1, ((tableSafe_iff s).mp h).2.2 hp⟩

theorem PickTable.tableSafe {s : State} (h : PickTable s) (hp : dropPhase s.probes.change = false) : TableSafe s :=
  (tableSafe_iff s).mpr ⟨h.1, fun _ => h.2, fun hd => absurd hd (by simp [hp])⟩

theorem DropTable.tableSafe {s : State} (h : DropTable s) (hp : headEmptyPhase s.probes.change = false) : TableSafe s :=
  (tableSafe_iff s).mpr ⟨h.1, fun hd => absurd hd (by simp [hp]), fun _ => h.2⟩

theorem tableSafe_of_distinct {s : State} (h : TableDistinct s.probes.table)
    (hp : headEmptyPhase s.probes.change = false) (hd : dropPhase s.probes.change = false) : TableSafe s :=
  (tableSafe_iff s).mpr ⟨h, fun h => absurd h (by simp [hp]), fun h => absurd h (by simp [hd])⟩

theorem pickTable_enterPhase {s : State} (ph : Phase) (timer : Option Nat) (h : PickTable s) :
    PickTable (enterPhase ph timer s) := h

theorem dropTable_enterPhase {s : State} (ph : Phase) (timer : Option Nat) (h : DropTable s) :
    DropTable (enterPhase ph timer s) := h

@[simp] theorem issueTravel_probes (p : Option (Fin 8)) (s : State) : (issueTravel p s).probes = s.probes := by
  cases p with
  | none => rfl
  | some p => exact enqueue_probes _ s

@[simp] theorem issueInsert_probes (p : Option (Fin 8)) (s : State) : (issueInsert p s).probes = s.probes := by
  cases p with
  | none => rfl
  | some p => exact enqueue_probes _ s

@[simp] theorem issueBack_probes (p : Option (Fin 8)) (s : State) : (issueBack p s).probes = s.probes := by
  cases p with
  | none => rfl
  | some p => exact enqueue_probes _ s

theorem tableSafe_beginClosePick {s : State} (h : TableDistinct s.probes.table) : TableSafe (beginClosePick s) := by
  have hs : TableSafe (enterPhase .closePick (some Config.lidTicks) (commandLid s.probes.change.pick false s)) :=
    tableSafe_of_distinct ((calm_commandLid _ _ s).tableDistinct h) rfl rfl
  unfold beginClosePick
  dsimp only
  split
  · exact (calm_closePickEnded _).tableSafe hs
  · exact hs

theorem tableSafe_beginWithdraw {s : State} (h : TableDistinct s.probes.table) : TableSafe (beginWithdraw s) :=
  tableSafe_congr (issueBack_probes _ _) (tableSafe_of_distinct (s := enterPhase .withdraw none s) h rfl rfl)

theorem tableSafe_beginIdentify {s : State} (h : PickTable s) : TableSafe (beginIdentify s) :=
  (pickTable_enterPhase _ _ h).tableSafe rfl

theorem tableSafe_stretchEnded (p : Bool) (next : State → State) (hn : ∀ s, PickTable s → TableSafe (next s))
    {s : State} (h : PickTable s) : TableSafe (stretchEnded p next s) := by
  unfold stretchEnded
  dsimp only
  split
  · exact hn _ ((calm_takeDeferredExpiry s).pickTable h)
  · exact ((calm_takeDeferredExpiry _).trans (calm_finishChange _)).tableSafe (tableSafe_abortTaken _ _ h.1)

theorem tableSafe_lockEnded {s : State} (h : PickTable s) : TableSafe (lockEnded s) :=
  tableSafe_stretchEnded _ _ (fun _ => tableSafe_beginIdentify) h

theorem tableSafe_beginLock {s : State} (h : PickTable s) : TableSafe (beginLock s) := by
  have hs : PickTable (enterPhase .lock (some Config.lockTicks) (setLock false s)) :=
    pickTable_enterPhase _ _ ((calm_setLock _ s).pickTable h)
  unfold beginLock
  dsimp only
  split
  · exact tableSafe_lockEnded hs
  · exact hs.tableSafe rfl

theorem tableSafe_beginEngage {s : State} (h : PickTable s) : TableSafe (beginEngage s) :=
  tableSafe_congr (issueInsert_probes _ _) ((pickTable_enterPhase .engage none h).tableSafe rfl)

theorem tableSafe_beginOpenPick {s : State} (h : PickTable s) : TableSafe (beginOpenPick s) := by
  have hs : PickTable (enterPhase .openPick (some Config.lidTicks) (commandLid s.probes.change.pick true s)) :=
    pickTable_enterPhase _ _ ((calm_commandLid _ _ s).pickTable h)
  unfold beginOpenPick
  dsimp only
  split
  · exact tableSafe_beginEngage hs
  · exact hs.tableSafe rfl

theorem tableSafe_beginTravelPick {s : State} (h : PickTable s) : TableSafe (beginTravelPick s) :=
  tableSafe_congr (issueTravel_probes _ _) ((pickTable_enterPhase .travelPick none h).tableSafe rfl)

theorem tableSafe_beginCloseDrop {s : State} (h : PickTable s) : TableSafe (beginCloseDrop s) := by
  have hs : PickTable (enterPhase .closeDrop (some Config.lidTicks) (commandLid s.probes.change.drop false s)) :=
    pickTable_enterPhase _ _ ((calm_commandLid _ _ s).pickTable h)
  unfold beginCloseDrop
  dsimp only
  split
  · exact tableSafe_beginTravelPick hs
  · exact hs.tableSafe rfl

theorem tableSafe_beginDetach {s : State} (h : DropTable s) : TableSafe (beginDetach s) :=
  tableSafe_congr (issueBack_probes _ _) ((dropTable_enterPhase .detach none h).tableSafe rfl)

theorem tableSafe_beginUnlock {s : State} (h : DropTable s) : TableSafe (beginUnlock s) := by
  have hs : DropTable (enterPhase .unlock (some Config.lockTicks) (setLock true s)) :=
    dropTable_enterPhase _ _ ((calm_setLock _ s).dropTable h)
  unfold beginUnlock
  dsimp only
  split
  · exact tableSafe_beginDetach hs
  · exact hs.tableSafe rfl

theorem tableSafe_beginInsert {s : State} (h : DropTable s) : TableSafe (beginInsert s) :=
  tableSafe_congr (issueInsert_probes _ _) ((dropTable_enterPhase .insert none h).tableSafe rfl)

theorem tableSafe_beginOpenDrop {s : State} (h : DropTable s) : TableSafe (beginOpenDrop s) := by
  have hs : DropTable (enterPhase .openDrop (some Config.lidTicks) (commandLid s.probes.change.drop true s)) :=
    dropTable_enterPhase _ _ ((calm_commandLid _ _ s).dropTable h)
  unfold beginOpenDrop
  dsimp only
  split
  · exact tableSafe_beginInsert hs
  · exact hs.tableSafe rfl

theorem tableSafe_beginTravelDrop {s : State} (h : DropTable s) : TableSafe (beginTravelDrop s) :=
  tableSafe_congr (issueTravel_probes _ _) ((dropTable_enterPhase .travelDrop none h).tableSafe rfl)

theorem tableSafe_rackArrived {s : State} (h : TableSafe s) : TableSafe (rackArrived s) := by
  unfold rackArrived
  extract_lets s1
  have hs : TableSafe s1 := h
  split
  · rename_i hp
    exact tableSafe_beginOpenDrop (dropTable_of_phase hs (by simp [dropPhase, hp]))
  · rename_i hp
    exact tableSafe_beginUnlock (dropTable_of_phase hs (by simp [dropPhase, hp]))
  · rename_i hp
    exact tableSafe_beginOpenPick (pickTable_of_phase hs (by simp [headEmptyPhase, hp]))
  · rename_i hp
    exact tableSafe_beginLock (pickTable_of_phase hs (by simp [headEmptyPhase, hp]))
  · split
    · split
      · exact (calm_failEnded _ _ _).tableSafe hs
      · exact tableSafe_beginClosePick hs.distinct
    · exact hs
  · exact hs

theorem tableSafe_afterRackEnd (o : SegOutcome) {s : State} (h : TableSafe s) : TableSafe (afterRackEnd o s) := by
  unfold afterRackEnd
  split
  · exact (calm_finishChange s).tableSafe h
  · cases o with
    | arrived => exact tableSafe_rackArrived h
    | unsettled | collision | conflict | motionFault | drivesOff => exact (calm_failEnded _ _ s).tableSafe h
    | touched | missed | halted | lapsed => exact h

/-- The old probe dropped into its port: no record is ON HEAD any more (R136). -/
theorem pickTable_dropped {s : State} (h : DropTable s) :
    PickTable (setLocation s.probes.change.oldId .inPort s) := by
  have hl : Location.inPort ≠ .onHead := by decide
  have hcalm := calm_setLocation hl s.probes.change.oldId s
  refine ⟨hcalm.tableDistinct h.1, fun ha hr i hi => ?_⟩
  rw [setLocation_change] at ha hr
  obtain ⟨hne, hold⟩ := h.2 ha hr
  have hid := hold i (hcalm.onHead i hi)
  rw [setLocation_table, if_pos ⟨hne, hid⟩] at hi
  exact hl hi

theorem tableSafe_detachCheck {s : State} (h : DropTable s) (hp : s.probes.change.phase = some .detach) :
    TableSafe (detachCheck s) := by
  unfold detachCheck
  dsimp only
  split
  · exact tableSafe_failEnded _ _ h.1
  · split
    · split
      · exact tableSafe_stretchEnded _ _ (fun _ => tableSafe_beginCloseDrop) (pickTable_dropped h)
      · exact tableSafe_failEnded _ _ h.1
    · exact h.tableSafe (by simp [headEmptyPhase, hp])

end Sys2Proof.Machine

namespace Sys2Proof.Machine

/-! ### The probe table read and the identification (R126, R139) -/

/-- The record found ON HEAD stands there in the table. -/
theorem onHead?_some {s : State} {k : Fin 16} {r : ProbeRecord} (h : onHead? s = some (k, r)) :
    r = s.probes.table.get k ∧ r.location = .onHead := by
  have hmem := List.mem_of_find?_eq_some h
  have hloc := List.find?_some h
  simp only [List.mem_map, mem_ids16, Prod.mk.injEq, true_and, exists_eq_left] at hmem
  exact ⟨hmem.symm, by simpa using hloc⟩

theorem onHead?_none {s : State} (h : onHead? s = none) (i : Fin 16) : (s.probes.table.get i).location ≠ .onHead := by
  have := List.find?_eq_none.mp h (i, s.probes.table.get i) (by simp)
  simpa using this

/-- The one record ON HEAD is the one found (R126). -/
theorem eq_of_onHead? {s : State} {k i : Fin 16} {r : ProbeRecord} (hd : TableDistinct s.probes.table)
    (h : onHead? s = some (k, r)) (hi : (s.probes.table.get i).location = .onHead) : i = k := by
  obtain ⟨hr, hloc⟩ := onHead?_some h
  by_contra hne
  exact (hd i k hne).2.2 hi (hr ▸ hloc)

/-- Where no record is ON HEAD, one may take that location: its id is no other record's (R126, R139). -/
theorem tableDistinct_setLocation_onHead {s : State} (id : Nat) (hd : TableDistinct s.probes.table)
    (hnone : ∀ i, (s.probes.table.get i).location ≠ .onHead) :
    TableDistinct (setLocation id .onHead s).probes.table := by
  have hid (i : Fin 16) (hi : ((setLocation id .onHead s).probes.table.get i).location = .onHead) :
      id ≠ 0 ∧ (s.probes.table.get i).id = id := by
    by_contra hne
    rw [setLocation_table, if_neg hne] at hi
    exact hnone i hi
  intro i j hij
  obtain ⟨hids, hhomes, -⟩ := hd i j hij
  simp only [setLocation_id, setLocation_home]
  refine ⟨hids, hhomes, fun hi hj => ?_⟩
  obtain ⟨hne, hi⟩ := hid i hi
  obtain ⟨-, hj⟩ := hid j hj
  exact hids (by rw [hi]; exact hne) (hi.trans hj.symm)

theorem tableSafe_identifyCheck {s : State} (hd : TableDistinct s.probes.table)
    (hnone : ∀ i, (s.probes.table.get i).location ≠ .onHead) : TableSafe (identifyCheck s) := by
  unfold identifyCheck
  dsimp only
  split
  · exact tableSafe_beginWithdraw (tableDistinct_setLocation_onHead _ hd hnone)
  · split
    · exact tableSafe_failEnded _ _ hd
    · exact tableSafe_failEnded _ _ (tableDistinct_setLocation_onHead _ hd hnone)

theorem tableSafe_identityRead {s : State} (h : TableSafe s) : TableSafe (identityRead s) := by
  unfold identityRead
  dsimp only
  split
  · rename_i hguard
    rw [Bool.and_eq_true] at hguard
    obtain ⟨ha, hr⟩ := running_of_guard hguard.1
    split
    · rename_i hp
      exact tableSafe_detachCheck (dropTable_of_phase h (by simp [dropPhase, hp])) hp
    · rename_i hp
      exact tableSafe_identifyCheck h.distinct
        ((pickTable_of_phase h (by simp [headEmptyPhase, hp])).2 ha hr)
    · exact h
  · exact h

theorem tableSafe_inputsChanged {s : State} (h : TableSafe s) : TableSafe (inputsChanged s) := by
  unfold inputsChanged
  dsimp only
  split
  · split
    · rename_i hp
      split
      · exact tableSafe_beginInsert (dropTable_of_phase h (by simp [dropPhase, hp]))
      · exact h
    · rename_i hp
      split
      · exact tableSafe_beginDetach (dropTable_of_phase h (by simp [dropPhase, hp]))
      · exact h
    · rename_i hp
      split
      · exact tableSafe_beginTravelPick (pickTable_of_phase h (by simp [headEmptyPhase, hp]))
      · exact h
    · rename_i hp
      split
      · exact tableSafe_beginEngage (pickTable_of_phase h (by simp [headEmptyPhase, hp]))
      · exact h
    · rename_i hp
      split
      · exact tableSafe_lockEnded (pickTable_of_phase h (by simp [headEmptyPhase, hp]))
      · exact h
    · split
      · exact (calm_closePickEnded s).tableSafe h
      · exact h
    · exact h
  · exact h

theorem tableSafe_endHead (o : SegOutcome) {s : State} (h : TableSafe s) : TableSafe (endHead o s) := by
  unfold endHead
  split
  · exact h
  · dsimp only
    refine (calm_autoRelease _).tableSafe ?_
    have hr := (calm_removeHead o s).tableSafe h
    split
    · exact tableSafe_afterRackEnd o hr
    · exact hr

/-! ### The acceptance of a change (R132, R133) -/

/-- What the checks of R132 assure of a change that begins: nothing is queued and no change runs, and with an identity
read the record ON HEAD is that of the identity. -/
structure ChangeReady (s : State) : Prop where
  inactive : s.probes.change.active = false
  empty : s.motion.queue = []
  idle : motionState s = .idle
  old : s.probes.identity ≠ 0 → ∃ k r, onHead? s = some (k, r) ∧ r.id = s.probes.identity

theorem checkDrop_accept {s : State} {f g : Fin 8 × Port → Option (ReplyCode × Nat)} {target : Fin 8 × Port}
    {drop : Option (Fin 8)} {pick : Fin 8} (h : checkDrop s f g target = .accept drop pick)
    (hid : s.probes.identity ≠ 0) : ∃ k r, onHead? s = some (k, r) ∧ r.id = s.probes.identity := by
  unfold checkDrop at h
  rw [if_neg hid] at h
  cases hon : onHead? s with
  | none => simp [hon] at h
  | some x =>
    obtain ⟨k, r⟩ := x
    refine ⟨k, r, rfl, ?_⟩
    by_contra hne
    simp [hon, hne] at h

theorem checkChange_accept {s : State} {p : List Byte} {drop : Option (Fin 8)} {pick : Fin 8}
    (h : checkChange s p = .accept drop pick) : ChangeReady s := by
  unfold checkChange at h
  split at h
  · cases h
  · split at h
    · cases h
    · rename_i hfree
      push Not at hfree
      obtain ⟨hactive, hidle, hempty⟩ := hfree
      refine ⟨by simpa using hactive, hempty, hidle, ?_⟩
      split at h
      · cases h
      · split at h
        · cases h
        · split at h
          · cases h
          · split at h
            · cases h
            · split at h
              · cases h
              · split at h
                · cases h
                · exact checkDrop_accept h

/-- No record is left ON HEAD by a change that begins without a drop (R133). -/
theorem calm_clearHead (s : State) :
    Calm s (mapProbes (fun r => if r.location = .onHead then { r with location := .unknown } else r) s) := by
  refine ⟨le_rfl, fun h => h, fun _ h => ⟨h, rfl, rfl, rfl, rfl⟩, fun i => ?_, fun i => ?_, fun i hi => ?_⟩
  · rw [mapProbes_probes, tab16_get]
    split <;> rfl
  · rw [mapProbes_probes, tab16_get]
    split <;> rfl
  · rw [mapProbes_probes, tab16_get] at hi
    split at hi
    · cases hi
    · exact hi

theorem clearHead_location (s : State) (i : Fin 16) :
    ((mapProbes (fun r => if r.location = .onHead then { r with location := .unknown } else r)
      s).probes.table.get i).location ≠ .onHead := by
  rw [mapProbes_probes, tab16_get]
  split
  · simp
  · assumption

theorem queueBounded_acceptChange (n : Nat) (drop : Option (Fin 8)) (pick : Fin 8) {s : State} (h : ChangeReady s) :
    QueueBounded (acceptChange n drop pick s) := by
  unfold acceptChange
  dsimp only
  split
  · exact queueBounded_beginTravelDrop (by simp [Vacant, h.empty])
  · exact queueBounded_beginTravelPick (by simp [Vacant, h.empty])

theorem tableSafe_acceptChange (n : Nat) (drop : Option (Fin 8)) (pick : Fin 8) {s : State} (h : ChangeReady s)
    (hd : TableDistinct s.probes.table) : TableSafe (acceptChange n drop pick s) := by
  unfold acceptChange
  dsimp only
  split
  · rename_i hid
    obtain ⟨k, r, hon, hr⟩ := h.old hid
    refine tableSafe_beginTravelDrop ⟨hd, fun _ _ => ⟨hid, fun i hi => ?_⟩⟩
    obtain ⟨rfl, -⟩ := onHead?_some hon
    rw [show i = k from eq_of_onHead? hd hon hi]
    exact hr
  · refine tableSafe_beginTravelPick ((calm_setLock _ _).pickTable ⟨?_, fun _ _ => clearHead_location _⟩)
    exact (calm_clearHead _).tableDistinct hd

/-! ### Ends that begin no phase -/

theorem calm_afterRackEnd {o : SegOutcome} (ho : o ≠ .arrived) (s : State) : Calm s (afterRackEnd o s) := by
  unfold afterRackEnd
  split
  · exact calm_finishChange s
  · cases o with
    | arrived => exact absurd rfl ho
    | unsettled | collision | conflict | motionFault | drivesOff => exact calm_failEnded _ _ s
    | touched | missed | halted | lapsed => exact .refl s

/-- Only an arrival begins the next phase of a change (R135 to R140). -/
theorem calm_endHead {o : SegOutcome} (ho : o ≠ .arrived) (s : State) : Calm s (endHead o s) := by
  unfold endHead
  split
  · exact .refl s
  · dsimp only
    refine Calm.trans ?_ (calm_autoRelease _)
    split
    · exact (calm_removeHead o s).trans (calm_afterRackEnd ho _)
    · exact calm_removeHead o s

theorem calm_controlledStop {o : SegOutcome} (ho : o ≠ .arrived) (s : State) : Calm s (controlledStop o s) := by
  unfold controlledStop
  split
  · exact .refl s
  · dsimp only
    have hflush : Calm s (if o = .touched then s else flushBehind s) := by
      split
      · exact .refl s
      · exact calm_flushBehind s
    refine hflush.trans ?_
    generalize (if o = .touched then s else flushBehind s) = s1
    split
    · split
      · exact .refl _
      · exact calm_autoRelease _
    · split
      · exact calm_endHead ho _
      · split
        · exact calm_mapHead _ _
        · exact (calm_mapHead _ _).trans (calm_autoRelease _)
    all_goals exact calm_endHead ho _

theorem calm_endAtOnce {o : SegOutcome} (ho : o ≠ .arrived) (s : State) : Calm s (endAtOnce o s) :=
  (calm_flushBehind s).trans (calm_endHead ho _)

theorem calm_zonesLost (x : ZoneSet) (s : State) : Calm s (zonesLost x s) := by
  unfold zonesLost
  split
  · exact .refl s
  · split
    · exact calm_controlledStop (by decide) s
    · exact .refl s

theorem calm_failPhase (c : ChangeCause) (n : Nat) (s : State) : Calm s (failPhase c n s) := by
  unfold failPhase
  dsimp only
  refine Calm.trans ((calm_failTaken c n s).trans ?_) (calm_finishChange _)
  split
  · exact calm_controlledStop (by decide) _
  · exact .refl _

theorem calm_permitExpire (h : Bool) (s : State) : Calm s (permitExpire h s) := by
  unfold permitExpire
  dsimp only
  split
  · exact .refl s
  · split
    · exact (calm_setPermit s.motion.permit none s).trans
        (.of_change rfl rfl (fun h => h) fun _ h => ⟨h, rfl, rfl, rfl, rfl⟩)
    · refine Calm.trans ?_ ((calm_controlledStop (by decide) _).trans (calm_finishChange _))
      refine ((calm_setPermit .lapsed none s).trans (calm_latchNotice (.permitLapsed h) _)).trans ?_
      split
      · exact calm_abortTaken _ _ _
      · exact .refl _

theorem calm_haltMotion (c : ChangeCause) (s : State) : Calm s (haltMotion c s) := by
  unfold haltMotion
  split
  · exact calm_abortChange c s
  · exact (((calm_abortChange c s).trans (calm_withdrawClaim _)).trans
      (calm_controlledStop (by decide) _)).trans (calm_finishChange _)

end Sys2Proof.Machine

namespace Sys2Proof.Machine

/-! ### Heads that do not move -/

/-- The head of the queue, if any, is not MOVING. -/
def NotMoving (s : State) : Prop := ∀ seg rest, s.motion.queue = seg :: rest → seg.state ≠ .moving

theorem Moves.notMoving {s t : State} (h : Moves s t) (ht : TailQueued s) (hs : NotMoving s) : NotMoving t := by
  intro seg rest hq hm
  obtain ⟨seg0, rest0, hq0, hm0, -⟩ := h.moving ht seg rest hq hm
  exact hs seg0 rest0 hq0 hm0

theorem NotMoving.movingHolds {s : State} (h : NotMoving s) : MovingHolds s :=
  fun seg rest hq hm => absurd hm (h seg rest hq)

theorem NotMoving.probing {s : State} (h : NotMoving s) : probing s = false := by
  unfold Machine.probing
  split
  · rename_i seg rest hq
    simp [h seg rest hq]
  · rfl

/-- What stood behind the head that leaves was QUEUED, and is WAITING (R64). -/
theorem notMoving_removeHead (o : SegOutcome) {s : State} (h : TailQueued s) : NotMoving (removeHead o s) := by
  intro a b hab
  cases hq : s.motion.queue with
  | nil => rw [removeHead_nil hq, hq] at hab; cases hab
  | cons seg rest =>
    simp only [removeHead, hq] at hab
    cases rest with
    | nil => rw [formHead_nil rfl] at hab; cases hab
    | cons x xs =>
      have hx : x.state = .queued := h x (by simp [hq])
      rw [formHead_cons (seg := x) (rest := xs) rfl] at hab
      obtain ⟨rfl, -⟩ := List.cons.inj hab
      simp [formedHead, hx]

theorem notMoving_endHead (o : SegOutcome) {s : State} (h : TailQueued s) : NotMoving (endHead o s) := by
  unfold endHead
  split
  · rename_i hq
    intro a b hab
    rw [hq] at hab
    cases hab
  · have hr := (moves_removeHead o s).tail h
    have hn := notMoving_removeHead o h
    dsimp only
    split
    · exact ((moves_afterRackEnd o _).trans (moves_autoRelease _)).notMoving hr hn
    · exact (moves_autoRelease _).notMoving hr hn

theorem mapHead_notMoving {f : Segment → Segment} {s : State} (hf : ∀ seg, (f seg).state ≠ .moving) :
    NotMoving (mapHead f s) := by
  intro a b hab
  cases hq : s.motion.queue with
  | nil => rw [mapHead_nil hq, hq] at hab; cases hab
  | cons seg rest =>
    rw [mapHead_cons hq] at hab
    obtain ⟨rfl, -⟩ := List.cons.inj hab
    exact hf seg

/-- After a controlled stop the head is STOPPING, or another one that waits, or none (R70, R73). -/
theorem notMoving_controlledStop (o : SegOutcome) {s : State} (h : TailQueued s) : NotMoving (controlledStop o s) := by
  unfold controlledStop
  split
  · rename_i hq
    intro a b hab
    rw [hq] at hab
    cases hab
  · rename_i seg rest hq
    dsimp only
    have hflush := moves_flushUnlessTouched o s
    have hstop (hs : seg.state ≠ .moving) : NotMoving (if o = .touched then s else flushBehind s) := by
      refine hflush.notMoving h fun a b hab => ?_
      rw [hq] at hab
      obtain ⟨rfl, -⟩ := List.cons.inj hab
      exact hs
    have ht := hflush.tail h
    generalize (if o = .touched then s else flushBehind s) = s1 at hstop ht
    split
    · rename_i hs
      have hn := hstop (by simp [hs])
      split
      · exact hn
      · exact (moves_autoRelease _).notMoving ht hn
    · split
      · exact notMoving_endHead _ ht
      · have hn : NotMoving (mapHead (stopMoving o) s1) := mapHead_notMoving fun seg => by simp [stopMoving]
        split
        · exact hn
        · exact (moves_autoRelease _).notMoving ((moves_stopMoving o s1).tail ht) hn
    all_goals exact notMoving_endHead _ ht

/-! ### What every step keeps -/

/-- Nothing is queued and no probe change is in progress. -/
def Idle (s : State) : Prop := s.motion.queue = [] ∧ s.probes.change.active = false

theorem Calm.idle {s t : State} (h : Calm s t) (hs : Idle s) : Idle t := by
  obtain ⟨hq, ha⟩ := hs
  refine ⟨List.length_eq_zero_iff.mp (Nat.le_zero.mp (by simpa [hq] using h.length)), ?_⟩
  by_contra hne
  exact absurd (h.active (by simpa using hne)) (by simp [ha])

theorem Idle.notMoving {s : State} (h : Idle s) : NotMoving s := by
  intro seg rest hq
  rw [h.1] at hq
  cases hq

/-- From `s` to `t` every invariant of the station is kept, but for what a head moves on. -/
structure KeepsRest (s t : State) : Prop where
  queue : QueueBounded s → QueueBounded t
  points : PointsBounded s → PointsBounded t
  rings : RingsBounded s → RingsBounded t
  drives : DrivesSafe s → DrivesSafe t
  stopped : StoppedMotionEmpty s → StoppedMotionEmpty t
  shaped : QueueShaped s → QueueShaped t
  table : TableSafe s → TableSafe t
  rise : BoundariesRise s → BoundariesRise t

/-- From `s` to `t` every invariant of the station is kept. -/
structure Keeps (s t : State) : Prop extends KeepsRest s t where
  zones : ZonesSafe s → ZonesSafe t

theorem KeepsRest.trans {s t u : State} (h : KeepsRest s t) (k : KeepsRest t u) : KeepsRest s u where
  queue hs := k.queue (h.queue hs)
  points hs := k.points (h.points hs)
  rings hs := k.rings (h.rings hs)
  drives hs := k.drives (h.drives hs)
  stopped hs := k.stopped (h.stopped hs)
  shaped hs := k.shaped (h.shaped hs)
  table hs := k.table (h.table hs)
  rise hs := k.rise (h.rise hs)

theorem Keeps.refl (s : State) : Keeps s s :=
  ⟨⟨fun h => h, fun h => h, fun h => h, fun h => h, fun h => h, fun h => h, fun h => h, fun h => h⟩, fun h => h⟩

theorem Keeps.trans {s t u : State} (h : Keeps s t) (k : Keeps t u) : Keeps s u :=
  ⟨h.toKeepsRest.trans k.toKeepsRest, fun hs => k.zones (h.zones hs)⟩

/-- What the invariants on queue, zones, probes and capture speak of stands as it was; buffers, rings and counts grow
within their bounds at most. -/
structure Beside (s t : State) : Prop where
  queue : t.motion.queue = s.motion.queue := by rfl
  boundaries : t.zones.boundaries = s.zones.boundaries := by rfl
  loaded : t.zones.loaded = s.zones.loaded := by rfl
  table : t.probes.table = s.probes.table := by rfl
  change : t.probes.change = s.probes.change := by rfl
  points : t.capture.points.length ≤ s.capture.points.length := by exact le_rfl
  requests : s.capture.requests.length ≤ 2 → t.capture.requests.length ≤ 2 := by exact fun h => h
  failures : s.line.failures ≤ 16 → t.line.failures ≤ 16 := by exact fun h => h
  mutes : s.line.mutes ≤ 255 → t.line.mutes ≤ 255 := by exact fun h => h
  ring : ∀ i, (s.axis i).ring.length ≤ 64 → (t.axis i).ring.length ≤ 64 := by exact fun _ h => h

/-- The drives stand as they were, and no amplifier goes off. -/
structure SameDrives (s t : State) : Prop where
  inReset : t.inReset = s.inReset := by rfl
  driveEnable : t.pins.driveEnable = s.pins.driveEnable := by rfl
  axisCount : t.axisCount = s.axisCount := by rfl
  gate : t.gate = s.gate := by rfl
  mode : t.station.mode ≠ .run → s.station.mode ≠ .run := by exact fun h => h
  offline : t.line.state = .offline → s.line.state = .offline := by exact fun h => h
  driveOut : ∀ i, (t.axis i).driveOut = (s.axis i).driveOut := by exact fun _ => rfl

/-- Every zone that the station holds FIRM it still does. -/
def KeepsFirm (s t : State) : Prop := ∀ z, ZoneSet.has (firmZones s) z = true → ZoneSet.has (firmZones t) z = true

theorem SameDrives.ampOn {s t : State} (h : SameDrives s t) (hs : ampOn s = true) : ampOn t = true := by
  simp only [Machine.ampOn, h.inReset, h.driveEnable, h.gate, Bool.and_eq_true, Bool.not_eq_true', beq_iff_eq,
    bne_iff_ne] at hs ⊢
  obtain ⟨⟨⟨⟨hr, hm⟩, he⟩, hg⟩, ho⟩ := hs
  exact ⟨⟨⟨⟨hr, by_contra fun h' => h.mode h' hm⟩, he⟩, hg⟩, fun h' => ho (h.offline h')⟩

theorem SameDrives.drives {s t : State} (h : SameDrives s t) (hs : DrivesSafe s) : DrivesSafe t := by
  obtain ⟨hoff, hinert⟩ := hs
  refine ⟨fun ha i => ?_, fun i hi => ?_⟩
  · rw [h.driveOut]
    exact hoff (by by_contra hne; exact absurd (h.ampOn (by simpa using hne)) (by simp [ha])) i
  · rw [h.driveOut]
    exact hinert i (by simpa only [State.live, h.axisCount] using hi)

theorem Beside.tail {s t : State} (h : Beside s t) (hs : TailQueued s) : TailQueued t := by
  simpa only [TailQueued, h.queue] using hs

theorem Beside.idle {s t : State} (h : Beside s t) (hs : Idle s) : Idle t := by
  simpa only [Idle, h.queue, h.change] using hs

theorem Beside.trans {s t u : State} (h : Beside s t) (k : Beside t u) : Beside s u where
  queue := k.queue.trans h.queue
  boundaries := k.boundaries.trans h.boundaries
  loaded := k.loaded.trans h.loaded
  table := k.table.trans h.table
  change := k.change.trans h.change
  points := k.points.trans h.points
  requests hs := k.requests (h.requests hs)
  failures hs := k.failures (h.failures hs)
  mutes hs := k.mutes (h.mutes hs)
  ring i hs := k.ring i (h.ring i hs)

theorem Beside.queueBounded {s t : State} (h : Beside s t) (hs : QueueBounded s) : QueueBounded t := by
  simpa only [QueueBounded, h.queue, h.change] using hs

theorem Beside.pointsBounded {s t : State} (h : Beside s t) (hs : PointsBounded s) : PointsBounded t := by
  obtain ⟨htail, h16, h15⟩ := hs
  refine ⟨h.tail htail, h.points.trans h16, fun hp => h.points.trans (h15 ?_)⟩
  simpa only [probing, h.queue] using hp

theorem Beside.ringsBounded {s t : State} (h : Beside s t) (hs : RingsBounded s) : RingsBounded t := by
  obtain ⟨hring, hreq, hfail, hmute⟩ := hs
  exact ⟨fun i => h.ring i (hring i), h.requests hreq, h.failures hfail, h.mutes hmute⟩

theorem Beside.queueShaped {s t : State} (h : Beside s t) (hs : QueueShaped s) : QueueShaped t :=
  ⟨h.tail hs.1, by simpa only [HeadFormed, h.queue] using hs.2⟩

theorem Beside.tableSafe {s t : State} (h : Beside s t) (hs : TableSafe s) : TableSafe t := by
  simpa only [TableSafe, h.table, h.change] using hs

theorem Beside.boundariesRise {s t : State} (h : Beside s t) (hs : BoundariesRise s) : BoundariesRise t := by
  simpa only [BoundariesRise, h.boundaries, h.loaded] using hs

theorem Beside.rest {s t : State} (h : Beside s t) (drives : DrivesSafe s → DrivesSafe t)
    (stopped : StoppedMotionEmpty s → StoppedMotionEmpty t) : KeepsRest s t where
  queue := h.queueBounded
  points := h.pointsBounded
  rings := h.ringsBounded
  drives := drives
  stopped := stopped
  shaped := h.queueShaped
  table := h.tableSafe
  rise := h.boundariesRise

theorem Beside.zones {s t : State} (h : Beside s t) (firm : KeepsFirm s t)
    (mode : t.station.mode ≠ .run → s.station.mode ≠ .run) (hs : ZonesSafe s) : ZonesSafe t := by
  obtain ⟨htail, hidle, hmoving⟩ := hs
  refine ⟨h.tail htail, fun hm => h.idle (hidle (mode hm)), fun seg rest hq hm => ?_⟩
  have hneed := hmoving seg rest (h.queue ▸ hq) hm
  rw [ZoneSet.within_iff] at hneed ⊢
  exact fun z hz => firm z (hneed z hz)

theorem Beside.stopped {s t : State} (h : Beside s t) (c : SameDrives s t) (hs : StoppedMotionEmpty s) :
    StoppedMotionEmpty t := by
  simpa only [StoppedMotionEmpty, c.inReset, c.driveEnable, c.gate, h.queue, h.change] using hs

theorem Beside.keepsRest {s t : State} (h : Beside s t) (c : SameDrives s t) : KeepsRest s t :=
  h.rest c.drives (h.stopped c)

/-- What leaves all of that as it was keeps every invariant. -/
theorem Beside.keeps {s t : State} (h : Beside s t) (c : SameDrives s t)
    (firm : KeepsFirm s t := by exact fun _ h => h) : Keeps s t :=
  ⟨h.keepsRest c, h.zones firm c.mode⟩

theorem Moves.rest {s t : State} (h : Moves s t)
    (idle : s.gate ≠ .normal ∨ s.station.mode ≠ .run → Idle s → Idle t) (queue : QueueBounded s → QueueBounded t)
    (table : TableSafe s → TableSafe t) : KeepsRest s t where
  queue := queue
  points hs := by
    obtain ⟨htail, h16, h15⟩ := hs
    refine ⟨h.tail htail, by rwa [h.only.capture], fun hp => ?_⟩
    rw [h.only.capture]
    apply h15
    unfold probing at hp ⊢
    split at hp
    · rename_i seg rest hq
      simp only [Bool.and_eq_true, beq_iff_eq] at hp
      obtain ⟨seg0, rest0, hq0, hm0, hk0, -⟩ := h.moving htail seg rest hq hp.2
      simp [hq0, hm0, hk0, hp.1]
    · cases hp
  rings hs := by
    simpa only [RingsBounded, State.axis, h.only.axes, h.only.capture, h.only.failures, h.only.mutes] using hs
  drives hs := by simpa only [DrivesSafe, h.only.ampOn, State.axis, h.only.axes, State.live, h.only.axisCount] using hs
  stopped hs := by
    intro hr
    obtain ⟨hen, hidle⟩ := hs (h.only.inReset ▸ hr)
    rw [h.only.pins, h.only.gate]
    exact ⟨hen, fun hg => idle (.inl hg) (hidle hg)⟩
  shaped hs := ⟨h.tail hs.1, h.formed hs⟩
  table := table
  rise hs := by simpa only [BoundariesRise, h.boundaries, h.loaded] using hs

theorem Moves.zones {s t : State} (h : Moves s t)
    (idle : s.gate ≠ .normal ∨ s.station.mode ≠ .run → Idle s → Idle t) (hs : ZonesSafe s) : ZonesSafe t := by
  obtain ⟨htail, hidle, hmoving⟩ := hs
  refine ⟨h.tail htail, fun hm => ?_, ?_⟩
  · rw [h.only.station] at hm
    exact idle (.inr hm) (hidle hm)
  · by_cases hset : s.station.mode = .setup
    · have hm : s.station.mode ≠ .run := by simp [hset]
      exact (idle (.inr hm) (hidle hm)).notMoving.movingHolds
    · exact h.firm hset htail hmoving

theorem Moves.keeps {s t : State} (h : Moves s t)
    (idle : s.gate ≠ .normal ∨ s.station.mode ≠ .run → Idle s → Idle t) (queue : QueueBounded s → QueueBounded t)
    (table : TableSafe s → TableSafe t) : Keeps s t :=
  ⟨h.rest idle queue table, h.zones idle⟩

theorem Moves.keeps_calm {s t : State} (h : Moves s t) (c : Calm s t) : Keeps s t :=
  h.keeps (fun _ => c.idle) c.queueBounded c.tableSafe

/-! ### Motion -/

theorem keeps_controlledStop {o : SegOutcome} (ho : o ≠ .arrived) (s : State) : Keeps s (controlledStop o s) :=
  (moves_controlledStop o s).keeps_calm (calm_controlledStop ho s)

theorem keeps_endHead (o : SegOutcome) (s : State) : Keeps s (endHead o s) := by
  refine (moves_endHead o s).keeps (fun _ h => ?_) (queueBounded_endHead o) (tableSafe_endHead o)
  simpa [endHead, h.1] using h

theorem keeps_endAtOnce (o : SegOutcome) (s : State) : Keeps s (endAtOnce o s) :=
  ((moves_flushBehind s).keeps_calm (calm_flushBehind s)).trans (keeps_endHead o _)

theorem keeps_latchNotice (n : Notice) (s : State) : Keeps s (latchNotice n s) :=
  (moves_latchNotice n s).keeps_calm (calm_latchNotice n s)

theorem keeps_autoRelease (s : State) : Keeps s (autoRelease s) := (moves_autoRelease s).keeps_calm (calm_autoRelease s)

theorem keeps_finishChange (s : State) : Keeps s (finishChange s) :=
  (moves_finishChange s).keeps_calm (calm_finishChange s)

theorem keeps_failTaken (c : ChangeCause) (n : Nat) (s : State) : Keeps s (failTaken c n s) :=
  (moves_failTaken c n s).keeps_calm (calm_failTaken c n s)

theorem keeps_failPhase (c : ChangeCause) (n : Nat) (s : State) : Keeps s (failPhase c n s) :=
  (moves_failPhase c n s).keeps_calm (calm_failPhase c n s)

theorem keeps_changePowerLost (c : ChangeCause) (s : State) : Keeps s (changePowerLost c s) :=
  (moves_changePowerLost c s).keeps_calm (calm_changePowerLost c s)

theorem keeps_withdrawClaim (s : State) : Keeps s (withdrawClaim s) :=
  (moves_withdrawClaim s).keeps_calm (calm_withdrawClaim s)

theorem keeps_overlapCheck (s : State) : Keeps s (overlapCheck s) :=
  (moves_overlapCheck s).keeps_calm (calm_overlapCheck s)

theorem keeps_failWindow (s : State) : Keeps s (failWindow s) := (moves_failWindow s).keeps_calm (calm_failWindow s)

theorem keeps_unclaimHead (s : State) : Keeps s (unclaimHead s) :=
  (moves_unclaimHead s).keeps_calm (calm_unclaimHead s)

theorem keeps_placeObjection (c : Nat) (x : ZoneSet) (s : State) : Keeps s (placeObjection c x s) :=
  (moves_placeObjection c x s).keeps_calm (calm_placeObjection c x s)

theorem keeps_permitExpire (h : Bool) (s : State) : Keeps s (permitExpire h s) :=
  (moves_permitExpire h s).keeps_calm (calm_permitExpire h s)

theorem keeps_permitRenew (s : State) : Keeps s (permitRenew s) :=
  (moves_permitRenew s).keeps_calm (calm_permitRenew s)

theorem keeps_haltMotion (c : ChangeCause) (s : State) : Keeps s (haltMotion c s) :=
  (moves_haltMotion c s).keeps_calm (calm_haltMotion c s)

theorem inputsChanged_idle {s : State} (h : s.probes.change.active = false) : inputsChanged s = s := by
  simp [inputsChanged, h]

theorem identityRead_idle {s : State} (h : s.probes.change.active = false) : identityRead s = s := by
  simp [identityRead, h]

theorem keeps_inputsChanged (s : State) : Keeps s (inputsChanged s) :=
  (moves_inputsChanged s).keeps (fun _ h => by rwa [inputsChanged_idle h.2]) queueBounded_inputsChanged
    tableSafe_inputsChanged

theorem keeps_identityRead (s : State) : Keeps s (identityRead s) :=
  (moves_identityRead s).keeps (fun _ h => by rwa [identityRead_idle h.2]) queueBounded_identityRead
    tableSafe_identityRead

/-! ### Zones lost (R73, R97, R103) -/

/-- Zones leave the station's hold, and a head that moves on one of them is stopped: every other head that moves still
holds what it needs. -/
theorem keeps_zonesLost {s u : State} {lost : ZoneSet} (rest : KeepsRest s u)
    (mode : u.station.mode = s.station.mode) (idle : Idle s → Idle u) (tail : TailQueued s → TailQueued u)
    (moving : TailQueued s → ∀ seg x, u.motion.queue = seg :: x → seg.state = .moving →
      ∃ seg0 x0, s.motion.queue = seg0 :: x0 ∧ seg0.state = .moving ∧ seg0.needed = seg.needed)
    (firm : ∀ z, ZoneSet.has (firmZones s) z = true →
      ZoneSet.has lost z = true ∨ ZoneSet.has (firmZones u) z = true) : Keeps s (zonesLost lost u) := by
  have hcalm := (moves_zonesLost lost u).rest (fun _ => (calm_zonesLost lost u).idle)
    (calm_zonesLost lost u).queueBounded (calm_zonesLost lost u).tableSafe
  refine ⟨rest.trans hcalm, fun ⟨htail, hidle, hmoving⟩ => ?_⟩
  refine ⟨(moves_zonesLost lost u).tail (tail htail), fun hm => ?_, ?_⟩
  · rw [(moves_zonesLost lost u).only.station, mode] at hm
    exact (calm_zonesLost lost u).idle (idle (hidle hm))
  · unfold zonesLost
    split
    · rename_i hq
      intro seg x hx
      rw [hq] at hx
      cases hx
    · rename_i seg x hq
      split
      · exact (notMoving_controlledStop _ (tail htail)).movingHolds
      · rename_i hkeep
        intro seg' x' hx' hm
        rw [hq] at hx'
        obtain ⟨rfl, rfl⟩ := List.cons.inj hx'
        have hclear : seg.needed.getD 0 &&& lost = 0 := by
          by_contra hne
          exact hkeep ⟨.inl hm, hne⟩
        obtain ⟨seg0, x0, hq0, hm0, hn0⟩ := moving htail seg x hq hm
        have hneed := hmoving seg0 x0 hq0 hm0
        rw [hn0, ZoneSet.within_iff] at hneed
        rw [ZoneSet.within_iff]
        intro z hz
        refine (firm z (hneed z hz)).resolve_left fun hl => ?_
        have hboth : ZoneSet.has (seg.needed.getD 0 &&& lost) z = true := by rw [ZoneSet.has_and, hz, hl]; rfl
        rw [hclear] at hboth
        simp at hboth

end Sys2Proof.Machine

namespace Sys2Proof.Machine

/-! ### What every step ends with, and time -/

/-- An evaluation that leaves the head where it is, WAITING or CLAIMING (R66). -/
theorem keeps_headWaits {s : State} {seg : Segment} {rest : List Segment} {x : SegState}
    (hq : s.motion.queue = seg :: rest) (hx : x = .waiting ∨ x = .claiming) :
    Keeps s (setQueue ({ seg with state := x } :: rest) s) := by
  have hqueued : x ≠ .queued := by rcases hx with rfl | rfl <;> simp
  have hmoving : x ≠ .moving := by rcases hx with rfl | rfl <;> simp
  refine Moves.keeps_calm ?_ (.of_probes (by simp [hq]) rfl)
  exact .of_head hq (fun _ h => h) (fun h => absurd h hqueued) rfl rfl fun h => absurd h hmoving

theorem calm_makeClaim (x : ZoneSet) (s : State) : Calm s (makeClaim x s) := .of_probes le_rfl rfl

theorem moves_makeClaim (x : ZoneSet) (s : State) : Moves s (makeClaim x s) :=
  .of_queue (motionOnly_makeClaim x s) rfl rfl

/-- A head that goes MOVING has its zones, and as a PROBE room in the point buffer (R65). -/
theorem keeps_startMoving {s : State} {seg : Segment} {rest : List Segment} (hq : s.motion.queue = seg :: rest)
    (hfirm : ZoneSet.within (seg.needed.getD 0) (firmZones s) = true) (hmay : mayMove s seg = true) :
    Keeps s (setQueue (startMoving s seg :: rest) s) := by
  have hcalm : Calm s (setQueue (startMoving s seg :: rest) s) := .of_probes (by simp [hq]) rfl
  have htail (h : TailQueued s) : TailQueued (setQueue (startMoving s seg :: rest) s) := by
    simpa [TailQueued, hq] using h
  refine ⟨⟨hcalm.queueBounded, fun hs => ?_, fun h => h, fun h => h, fun h hr => ?_, fun h => ?_, hcalm.tableSafe,
    fun h => h⟩, fun h => ?_⟩
  · obtain ⟨ht, h16, -⟩ := hs
    refine ⟨htail ht, h16, fun hp => ?_⟩
    have hkind : seg.kind = .probe := by
      simp only [probing, setQueue_motion, startMoving, Bool.and_eq_true, beq_iff_eq] at hp
      exact hp.1
    simp only [mayMove, hkind, Bool.and_eq_true, bne_self_eq_false, Bool.false_or, decide_eq_true_eq] at hmay
    exact hmay.2
  · exact ⟨(h hr).1, fun hg => hcalm.idle ((h hr).2 hg)⟩
  · refine ⟨htail h.1, fun a b hab => ?_⟩
    obtain ⟨rfl, -⟩ := List.cons.inj hab
    exact ⟨by simp [startMoving], (h.2 seg rest hq).2⟩
  · refine ⟨htail h.1, fun hm => hcalm.idle (h.2.1 hm), fun a b hab _ => ?_⟩
    obtain ⟨rfl, -⟩ := List.cons.inj hab
    exact hfirm

theorem keeps_evaluateHead (s : State) : Keeps s (evaluateHead s) := by
  unfold evaluateHead
  split
  · exact .refl s
  · rename_i seg rest hq
    dsimp only
    split
    · split
      · rename_i hfirm
        split
        · rename_i hmay
          exact keeps_startMoving hq hfirm hmay
        · exact keeps_headWaits hq (.inl rfl)
      · split
        · exact keeps_headWaits hq (.inl rfl)
        · split
          · split
            · exact (keeps_headWaits hq (.inr rfl)).trans ((moves_makeClaim _ _).keeps_calm (calm_makeClaim _ _))
            · exact keeps_headWaits hq (.inl rfl)
          · exact .refl s
    · exact .refl s

theorem keeps_loadTouch (s : State) : Keeps s (loadTouch s) := by
  rw [loadTouch_eq]
  exact Beside.keeps {} {}

theorem keeps_loadNotice (s : State) : Keeps s (loadNotice s) := by
  rw [loadNotice_eq]
  exact Beside.keeps {} {}

/-- The record offered in the POINT slot stays in the buffer (R123). -/
theorem loadPoint_points_length (s : State) : (loadPoint s).capture.points.length = s.capture.points.length := by
  unfold loadPoint
  split
  · split
    · rename_i r rest hp
      split
      · simp [hp]
      · rfl
    · rfl
  · rfl

theorem keeps_loadPoint (s : State) : Keeps s (loadPoint s) := by
  have hlen := loadPoint_points_length s
  rw [loadPoint_eq]
  exact Beside.keeps { points := hlen.le } {}

theorem keeps_finish (s : State) : Keeps s (finish s) := by
  unfold finish
  split
  · exact .refl s
  · exact (((keeps_evaluateHead s).trans (keeps_loadTouch _)).trans (keeps_loadPoint _)).trans (keeps_loadNotice _)

theorem keeps_advance (t : Tick) (s : State) : Keeps s (advance t s) :=
  Beside.keeps { failures := by simp, mutes := by simp }
    { offline := Line.progress_state_eq_iff (s.uptime + (t - s.tick).toNat) s.line .offline rfl |>.mp }
    (firm := fun z hz => by rwa [firmZones_congr (t := advance t s) (s := s) (by simp) (by simp)])

theorem keeps_timed {body : State → State} (h : ∀ s, s.inReset = false → Keeps s (body s)) (t : Tick) (s : State) :
    Keeps s (timed t body s) := by
  unfold timed
  dsimp only
  split
  · exact keeps_advance t s
  · rename_i hr
    exact ((keeps_advance t s).trans (h _ (by simpa using hr))).trans (keeps_finish _)

/-- The pins follow in reset too, where nothing is driven and motion is not watched (R183). -/
theorem keeps_pins_inReset {s : State} (h : s.inReset = true) (p : Pins) : Keeps s { s with pins := p } := by
  have hoff : ampOn s = false := by simp [ampOn, h]
  refine ⟨Beside.rest {} (fun hs => ⟨fun _ i => hs.1 hoff i, hs.2⟩) fun _ hr => ?_,
    Beside.zones {} (fun _ h => h) fun h => h⟩
  exact absurd (h.symm.trans hr) (by decide)

theorem keeps_input {pins : Pins → Pins} {body : State → State → State}
    (h : ∀ s, s.inReset = false → pins s.pins ≠ s.pins → Keeps s (body s { s with pins := pins s.pins }))
    (t : Tick) (s : State) : Keeps s (input t pins body s) := by
  unfold input
  dsimp only
  split
  · split
    · exact keeps_advance t s
    · exact (keeps_advance t s).trans (keeps_finish _)
  · rename_i hpins
    split
    · rename_i hr
      exact (keeps_advance t s).trans (keeps_pins_inReset hr _)
    · rename_i hr
      exact ((keeps_advance t s).trans (h _ (by simpa using hr) hpins)).trans (keeps_finish _)

/-- Pins other than drive-enable change nothing that the invariants speak of. -/
theorem keeps_pins {s : State} {p : Pins} (h : p.driveEnable = s.pins.driveEnable) : Keeps s { s with pins := p } :=
  Beside.keeps {} { driveEnable := h }

/-- An input other than drive-enable, with what its change does. -/
theorem keeps_otherInput {pins : Pins → Pins} {body : State → State → State}
    (h : ∀ before s, Keeps s (body before s)) (t : Tick) (s : State)
    (hp : ∀ p, (pins p).driveEnable = p.driveEnable) : Keeps s (input t pins body s) :=
  keeps_input (fun u _ _ => (keeps_pins (hp u.pins)).trans (h u _)) t s

/-! ### Drives off (R9, R12, R19, R22) -/

theorem dropDrives_driveOut (s : State) (i : Fin 4) :
    ((dropDrives s).axis i).driveOut = if s.live i then 0 else (s.axis i).driveOut := by
  simp only [dropDrives, State.axis_mapAxes]
  split <;> rfl

theorem dropDrives_ring (s : State) (i : Fin 4) : ((dropDrives s).axis i).ring = (s.axis i).ring := by
  simp only [dropDrives, State.axis_mapAxes]
  split <;> rfl

/-- With every live drive demand at 0 the amplifiers may be on or off. -/
theorem drivesSafe_dropDrives {s t : State} (ht : t.axes = (dropDrives s).axes)
    (h : ∀ i, s.live i = false → (s.axis i).driveOut = 0) : DrivesSafe t := by
  have hout (i : Fin 4) : (t.axis i).driveOut = 0 := by
    rw [show t.axis i = (dropDrives s).axis i by simp [State.axis, ht], dropDrives_driveOut]
    split
    · rfl
    · rename_i hi
      exact h i (by simpa using hi)
  exact ⟨fun _ i => hout i, fun i _ => hout i⟩

theorem endAtOnce_empty {o : SegOutcome} (ho : o ≠ .arrived) (s : State) : (endAtOnce o s).motion.queue = [] := by
  unfold endAtOnce
  cases hq : s.motion.queue with
  | nil => rw [flushBehind_nil hq]; simp [endHead, hq]
  | cons seg rest =>
    rw [flushBehind_cons hq]
    generalize hs1 : setQueue [{ seg with flushed := min 7 (seg.flushed + rest.length) }] s = s1
    have hq1 : s1.motion.queue = [{ seg with flushed := min 7 (seg.flushed + rest.length) }] := by rw [← hs1]; rfl
    have hc : Calm (removeHead o s1) (endHead o s1) := by
      unfold endHead
      simp only [hq1]
      refine Calm.trans ?_ (calm_autoRelease _)
      split
      · exact calm_afterRackEnd ho _
      · exact .refl _
    have hlen := hc.length
    rw [removeHead_length hq1, List.length_nil, Nat.le_zero] at hlen
    exact List.length_eq_zero_iff.mp hlen

/-- Auto-release changes the view and the RELEASE slot only (R81, R100). -/
theorem autoRelease_eq (s : State) : autoRelease s = { s with
    zones := { s.zones with view := (autoRelease s).zones.view }
    slots := { s.slots with release := (autoRelease s).slots.release } } := by
  unfold autoRelease releaseZones
  split <;> rfl

@[simp] theorem autoRelease_probes (s : State) : (autoRelease s).probes = s.probes := by rw [autoRelease_eq]
@[simp] theorem autoRelease_motion (s : State) : (autoRelease s).motion = s.motion := by rw [autoRelease_eq]
@[simp] theorem autoRelease_notices (s : State) : (autoRelease s).notices = s.notices := by rw [autoRelease_eq]
@[simp] theorem autoRelease_claim (s : State) : (autoRelease s).zones.claim = s.zones.claim := by rw [autoRelease_eq]

/-- The change has ended (R146). -/
theorem endChange_change (r : ChangeResult) (s : State) :
    (endChange r s).probes.change = Change.idle s.probes.change.last := by
  simp [endChange]

theorem finishChange_of_result {s : State} {r : ChangeResult} (ha : s.probes.change.active = true)
    (hr : s.probes.change.result = some r) :
    finishChange s = if rackSegment s then s else endChange r s := by
  simp only [finishChange, ha, hr]

theorem finishChange_of_inactive {s : State} (ha : s.probes.change.active = false) : finishChange s = s := by
  simp [finishChange, ha]

theorem finishChange_of_running {s : State} (hr : s.probes.change.result = none) : finishChange s = s := by
  simp [finishChange, hr]

/-- A change that has taken its outcome, with no segment left, has ended (R146). -/
theorem finishChange_inactive {s : State} (hq : s.motion.queue = [])
    (hr : s.probes.change.active = true → s.probes.change.result ≠ none) :
    (finishChange s).probes.change.active = false := by
  cases ha : s.probes.change.active with
  | false => rwa [finishChange_of_inactive ha]
  | true =>
    obtain ⟨r, hr⟩ := Option.ne_none_iff_exists'.mp (hr ha)
    have hrack : rackSegment s = false := by simp [rackSegment, hq]
    rw [finishChange_of_result ha hr, if_neg (by simp [hrack]), endChange_change]
    rfl

theorem changePowerLost_result (c : ChangeCause) (s : State) :
    (changePowerLost c s).probes.change.active = true → (changePowerLost c s).probes.change.result ≠ none := by
  unfold changePowerLost
  dsimp only
  split
  · split
    · rename_i hr
      intro _
      simpa using Option.isSome_iff_ne_none.mp hr
    · intro _
      rw [takeDeferredExpiry_result]
      simp
  · rename_i ha
    intro h
    exact absurd h ha

end Sys2Proof.Machine

namespace Sys2Proof.Machine

/-! ### Motion faults and drives off (R9, R19, R22) -/

/-- What a motion fault and a loss of the drives have in common: the drives are dropped, a change in progress is lost
with `c`, and the head ends with `o` (R9, R19, R144). -/
def powerCut (o : SegOutcome) (c : ChangeCause) (s : State) : State :=
  finishChange (endAtOnce o (changePowerLost c (dropDrives s)))

theorem drivesOff_eq (s : State) : drivesOff s = powerCut .drivesOff .drivesOff { s with gate := .disabled } := rfl

theorem motionFault_eq (i : Fin 4) (c : FaultCause) (s : State) :
    motionFault i c s = latchNotice (.motionFault i c) (powerCut .motionFault .motionFault
      { s with faultPending := true, gate := if s.pins.driveEnable then .faulted else s.gate }) := rfl

theorem moves_powerCut (o : SegOutcome) (c : ChangeCause) (s : State) : Moves (dropDrives s) (powerCut o c s) :=
  ((moves_changePowerLost c _).trans (moves_endAtOnce o _)).trans (moves_finishChange _)

theorem calm_powerCut {o : SegOutcome} (ho : o ≠ .arrived) (c : ChangeCause) (s : State) :
    Calm (dropDrives s) (powerCut o c s) :=
  ((calm_changePowerLost c _).trans (calm_endAtOnce ho _)).trans (calm_finishChange _)

/-- Nothing is queued and no change runs once the power is lost (R19, R144, R146). -/
theorem idle_powerCut {o : SegOutcome} (ho : o ≠ .arrived) (c : ChangeCause) (s : State) : Idle (powerCut o c s) := by
  unfold powerCut
  have hq := endAtOnce_empty ho (changePowerLost c (dropDrives s))
  have hc := calm_endAtOnce ho (changePowerLost c (dropDrives s))
  constructor
  · have hlen := (calm_finishChange (endAtOnce o (changePowerLost c (dropDrives s)))).length
    rw [hq, List.length_nil, Nat.le_zero] at hlen
    exact List.length_eq_zero_iff.mp hlen
  · refine finishChange_inactive hq fun ha hr => ?_
    exact changePowerLost_result c _ (hc.active ha) (hc.running ha hr).1

theorem dropDrives_beside (s : State) : Beside s (dropDrives s) :=
  { ring := fun i h => by rwa [dropDrives_ring] }

/-- Power lost from a state `s1` that differs from `s` in what rules the drives. -/
theorem keeps_powerCut {s s1 : State} {o : SegOutcome} (ho : o ≠ .arrived) (c : ChangeCause) (h1 : Beside s s1)
    (axes : s1.axes = s.axes) (axisCount : s1.axisCount = s.axisCount)
    (gate : StoppedMotionEmpty s → s1.inReset = false → s1.pins.driveEnable = false → s1.gate ≠ .normal) :
    Keeps s (powerCut o c s1) := by
  have hm := moves_powerCut o c s1
  have hidle := idle_powerCut ho c s1
  have hcalm := calm_powerCut ho c s1
  have hb := h1.trans (dropDrives_beside s1)
  have hrest := hm.rest (fun _ => hcalm.idle) hcalm.queueBounded hcalm.tableSafe
  have hinert (h : DrivesSafe s) (i : Fin 4) (hi : s1.live i = false) : (s1.axis i).driveOut = 0 := by
    simp only [State.axis, axes]
    exact h.2 i (by simpa only [State.live, axisCount] using hi)
  refine ⟨?_, fun h => ⟨hm.tail (hb.tail h.1), fun _ => hidle, hidle.notMoving.movingHolds⟩⟩
  exact
    { queue := fun h => hrest.queue (hb.queueBounded h)
      points := fun h => hrest.points (hb.pointsBounded h)
      rings := fun h => hrest.rings (hb.ringsBounded h)
      drives := fun h => drivesSafe_dropDrives hm.only.axes (hinert h)
      stopped := fun h hr =>
        ⟨fun he => by rw [hm.only.gate]; exact gate h (hm.only.inReset ▸ hr) (hm.only.pins ▸ he), fun _ => hidle⟩
      shaped := fun h => hrest.shaped (hb.queueShaped h)
      table := fun h => hrest.table (hb.tableSafe h)
      rise := fun h => hrest.rise (hb.boundariesRise h) }

end Sys2Proof.Machine

namespace Sys2Proof.Machine

/-! ### Axis events -/

theorem keeps_mapAxes {f : Fin 4 → Axis → Axis} (s : State)
    (ring : ∀ i a, a.ring.length ≤ 64 → (f i a).ring.length ≤ 64)
    (driveOut : ∀ i a, (f i a).driveOut = a.driveOut) : Keeps s (s.mapAxes f) :=
  Beside.keeps { ring := fun i h => by rw [State.axis_mapAxes]; exact ring i _ h }
    { driveOut := fun i => by rw [State.axis_mapAxes]; exact driveOut i _ }

theorem keeps_setAxis {i : Fin 4} {a : Axis} {s : State}
    (ring : (s.axis i).ring.length ≤ 64 → a.ring.length ≤ 64) (driveOut : a.driveOut = (s.axis i).driveOut) :
    Keeps s (s.setAxis i a) := by
  refine Beside.keeps { ring := fun j h => ?_ } { driveOut := fun j => ?_ }
  · rw [State.axis_setAxis]
    split
    · rename_i hj
      exact ring (hj ▸ h)
    · exact h
  · rw [State.axis_setAxis]
    split
    · rename_i hj
      rw [hj, driveOut]
    · rfl

theorem keeps_motionFault (i : Fin 4) (c : FaultCause) (s : State) : Keeps s (motionFault i c s) := by
  rw [motionFault_eq]
  have hcut : Keeps s (powerCut .motionFault .motionFault
      { s with faultPending := true, gate := if s.pins.driveEnable then .faulted else s.gate }) :=
    keeps_powerCut (by decide) _ {} rfl rfl fun h hr he => by
      have hen : s.pins.driveEnable = false := he
      simpa [hen] using (h hr).1 hen
  exact hcut.trans (keeps_latchNotice _ _)

theorem keeps_encoderFault (i : Fin 4) (c : FaultCause) (s : State) : Keeps s (encoderFault i c s) :=
  (keeps_setAxis (a := { s.axis i with referenced := false }) (fun h => h) rfl).trans (keeps_motionFault i c _)

theorem keeps_count (i : Fin 4) (up : Bool) (s : State) : Keeps s (count i up s) := by
  unfold count
  dsimp only
  generalize (if up = true then (s.axis i).position + 1 else (s.axis i).position - 1) = x
  split
  · exact keeps_setAxis (fun h => h) rfl
  · exact keeps_encoderFault i _ s

theorem keeps_transition (i : Fin 4) (old : ChannelPins) (a b : Bool) (s : State) :
    Keeps s (transition i old a b s) := by
  unfold transition
  split
  · exact .refl s
  · split
    · exact keeps_encoderFault i _ s
    · exact keeps_count i _ s

theorem appendSample_ring_length (t : Tick) {a : Axis} (h : a.ring.length ≤ 64) :
    (appendSample t a).ring.length ≤ 64 := by
  simp only [appendSample]
  split <;> simp_all

theorem keeps_sampleRings (s : State) : Keeps s (sampleRings s) := by
  refine keeps_mapAxes s (fun i a h => ?_) fun i a => ?_
  · split
    · exact appendSample_ring_length _ h
    · exact h
  · split <;> rfl

theorem keeps_placeAnswer (x : CompanionFrame) (s : State) : Keeps s (placeAnswer x s) := by
  unfold placeAnswer
  split
  · exact Beside.keeps {} {}
  · exact .refl s

theorem keeps_dropRequests (p : Request → Bool) (s : State) :
    Keeps s (mapCapture (fun c => { c with requests := c.requests.filter p }) s) :=
  Beside.keeps { requests := fun h => (List.length_filter_le _ _).trans h } {}

theorem keeps_settlePending (q : Request) (s : State) : Keeps s (settlePending q s) := by
  unfold settlePending
  split
  · exact .refl s
  · exact (keeps_dropRequests _ s).trans (keeps_placeAnswer _ _)

theorem keeps_foldl {α : Type} {f : State → α → State} (h : ∀ s a, Keeps s (f s a)) (l : List α) (s : State) :
    Keeps s (l.foldl f s) := by
  induction l generalizing s with
  | nil => exact .refl s
  | cons a l ih => exact (h s a).trans (ih _)

theorem keeps_settleAll (s : State) : Keeps s (settleAll s) := keeps_foldl (fun s q => keeps_settlePending q s) _ s

theorem stepSegment_same (s : State) (seg : Segment) :
    (stepSegment s seg).state = seg.state ∧ (stepSegment s seg).needed = seg.needed ∧
      (stepSegment s seg).kind = seg.kind := by
  unfold stepSegment
  dsimp only
  split
  · exact ⟨rfl, rfl, rfl⟩
  · split
    · exact ⟨rfl, rfl, rfl⟩
    · split
      · split
        · split <;> exact ⟨rfl, rfl, rfl⟩
        · exact ⟨rfl, rfl, rfl⟩
      · split <;> exact ⟨rfl, rfl, rfl⟩
  · exact ⟨rfl, rfl, rfl⟩

/-- The head takes other fields than those the invariants speak of. -/
theorem keeps_mapHead {f : Segment → Segment} (s : State)
    (hf : ∀ seg, (f seg).state = seg.state ∧ (f seg).needed = seg.needed ∧ (f seg).kind = seg.kind) :
    Keeps s (mapHead f s) := by
  refine (moves_mapHead s fun seg => ?_).keeps_calm (calm_mapHead f s)
  obtain ⟨hstate, hneeded, hkind⟩ := hf seg
  exact ⟨fun h => hstate ▸ h, hneeded, hkind, fun h => hstate ▸ h⟩

theorem keeps_takeDemands (s : State) : Keeps s (takeDemands s) := by
  unfold takeDemands
  split
  · split
    · exact .refl s
    · rename_i seg rest hq
      dsimp only
      split
      · have h := keeps_mapHead s (stepSegment_same s)
        rw [mapHead_cons hq] at h
        refine h.trans (keeps_mapAxes _ (fun i a ha => ?_) fun i a => ?_)
        · split
          · exact ha
          · exact ha
        · split <;> rfl
      · exact .refl s
  · refine keeps_mapAxes s (fun i a ha => ?_) fun i a => ?_
    · split
      · exact ha
      · exact ha
    · split <;> rfl

theorem keeps_raiseFaults (fs : List (Fin 4 × FaultCause)) (s : State) : Keeps s (raiseFaults fs s) :=
  keeps_foldl (α := Fin 4 × FaultCause) (fun s f => keeps_motionFault f.1 f.2 s) fs s

/-- The drive demand of a channel after step 5 of a sample (R12, R13). -/
theorem sendDrives_driveOut (previous : Vector Int 4) (s : State) (i : Fin 4) :
    ((sendDrives previous s).axis i).driveOut =
      if s.live i = false then (s.axis i).driveOut
      else if ampOn s then driveDemand (previous.get i) (s.axis i) else 0 := by
  simp only [sendDrives, State.axis_mapAxes]
  cases s.live i
  · simp
  · cases ampOn s <;> simp

theorem keeps_sendDrives (previous : Vector Int 4) (s : State) : Keeps s (sendDrives previous s) := by
  have hb : Beside s (sendDrives previous s) :=
    { ring := fun i h => by
        simp only [sendDrives, State.axis_mapAxes]
        split
        · exact h
        · split
          · exact h
          · exact h }
  have hdrives (h : DrivesSafe s) : DrivesSafe (sendDrives previous s) := by
    refine ⟨fun (ha : ampOn s = false) i => ?_, fun i (hi : s.live i = false) => ?_⟩
    · rw [sendDrives_driveOut]
      split
      · rename_i hi
        exact h.2 i hi
      · rw [if_neg (by simp [ha])]
    · rw [sendDrives_driveOut, if_pos hi]
      exact h.2 i hi
  exact ⟨hb.rest hdrives fun h => h, hb.zones (fun _ h => h) fun h => h⟩

theorem keeps_endOfPeriod (s : State) : Keeps s (endOfPeriod s) := by
  unfold endOfPeriod
  split
  · exact .refl s
  · split
    · split
      · exact keeps_endHead _ s
      · exact .refl s
    · split
      · split
        · exact keeps_endAtOnce _ s
        · split
          · exact keeps_endHead _ s
          · exact .refl s
      · exact .refl s
    · exact .refl s

theorem keeps_servo (s : State) : Keeps s (servo s) := by
  unfold servo
  dsimp only
  exact (((((keeps_sampleRings s).trans (keeps_settleAll _)).trans (keeps_takeDemands _)).trans
    (keeps_raiseFaults _ _)).trans (keeps_sendDrives _ _)).trans (keeps_endOfPeriod _)

theorem keeps_settleExpire (s : State) : Keeps s (settleExpire s) := by
  unfold settleExpire
  split
  · exact .refl s
  · split
    · exact keeps_endHead _ s
    · exact .refl s

theorem keeps_referenceMark (i : Fin 4) (s : State) : Keeps s (referenceMark i s) := by
  unfold referenceMark
  split
  · exact .refl s
  · split
    · dsimp only
      generalize (s.axis i).record.refValue - (s.axis i).position = d
      have hset : Keeps s (s.setAxis i (offsetAxis s.freeIx d (s.axis i))) :=
        keeps_setAxis (fun h => by simpa [offsetAxis] using h) rfl
      exact hset.trans (keeps_mapHead (f := markSegment i d) _ fun seg => ⟨rfl, rfl, rfl⟩)
    · exact .refl s

theorem keeps_driveEnableFall (s : State) (p : Pins) :
    Keeps s (latchNotice (.driveChange false) (drivesOff { s with pins := p })) := by
  rw [drivesOff_eq]
  have hcut : Keeps s (powerCut .drivesOff .drivesOff { s with pins := p, gate := .disabled }) :=
    keeps_powerCut (by decide) _ {} rfl rfl fun _ _ _ => by simp
  exact hcut.trans (keeps_latchNotice _ _)

theorem keeps_holdAtPositions (s : State) : Keeps s (holdAtPositions s) := by
  unfold holdAtPositions
  split
  · refine keeps_mapAxes s (fun i a h => ?_) fun i a => ?_
    · split
      · exact h
      · exact h
    · split <;> rfl
  · exact .refl s

/-- With drive-enable low nothing is queued, so the fault that is still pending is let stand (R19, R20). -/
theorem keeps_driveEnableRise (s : State) (p : Pins) (hr : s.inReset = false) (hs : s.pins.driveEnable = false)
    (hp : p.driveEnable = true) :
    Keeps s (latchNotice (.driveChange true) (enableRise { s with pins := p })) := by
  have hoff : ampOn s = false := by simp [ampOn, hs]
  have hfirst : Keeps s { s with pins := p, gate := if s.faultPending then .faulted else .normal } := by
    refine ⟨Beside.rest {} (fun h => ⟨fun _ i => h.1 hoff i, h.2⟩) fun h _ => ?_,
      Beside.zones {} (fun _ h => h) fun h => h⟩
    obtain ⟨hlow, hidle⟩ := h hr
    exact ⟨fun he => absurd (hp.symm.trans he) (by decide), fun _ => hidle (hlow hs)⟩
  exact (hfirst.trans (keeps_holdAtPositions _)).trans (keeps_latchNotice _ _)

/-! ### The capture unit -/

/-- Fields of a probe record other than id, home and location. -/
theorem keeps_setProbe {k : Fin 16} {r : ProbeRecord} {s : State} (hid : r.id = (s.probes.table.get k).id)
    (hhome : r.home = (s.probes.table.get k).home) (hloc : r.location = (s.probes.table.get k).location) :
    Keeps s (setProbe k r s) := by
  have hget (i : Fin 16) : ((setProbe k r s).probes.table.get i) = if i = k then r else s.probes.table.get i :=
    vector_get_set _ _ _ _
  refine (moves_setProbe k r s).keeps_calm ⟨le_rfl, fun h => h, fun _ h => ⟨h, rfl, rfl, rfl, rfl⟩, fun i => ?_,
    fun i => ?_, fun i hi => ?_⟩
  · rw [hget]
    split
    · rename_i hi
      rw [hi, hid]
    · rfl
  · rw [hget]
    split
    · rename_i hi
      rw [hi, hhome]
    · rfl
  · rw [hget] at hi
    split at hi
    · rename_i hk
      rw [hk, ← hloc]
      exact hi
    · exact hi

theorem keeps_disqualify (s : State) : Keeps s (disqualify s) := by
  unfold disqualify
  split
  · rename_i k r hon
    obtain ⟨rfl, -⟩ := onHead?_some hon
    exact keeps_setProbe rfl rfl rfl
  · exact .refl s

theorem keeps_latchCollision (seg : Segment) (s : State) : Keeps s (latchCollision seg s) := keeps_latchNotice _ s

theorem keeps_collide (seg : Segment) (s : State) : Keeps s (collide seg s) :=
  ((keeps_latchCollision seg s).trans (keeps_disqualify _)).trans (keeps_controlledStop (by decide) _)

/-- A point is formed only while there is room for it, and its segment moves no more (R65, R113, R114). -/
theorem keeps_formPoint {s : State} {seg : Segment} {rest : List Segment} (hq : s.motion.queue = seg :: rest)
    (hprobe : seg.kind = .probe) (hmoving : seg.state = .moving) {k : Fin 16} {r : ProbeRecord}
    (hon : onHead? s = some (k, r)) (cap : Capture) : Keeps s (formPoint seg k r cap s) := by
  obtain ⟨rfl, -⟩ := onHead?_some hon
  unfold formPoint
  dsimp only
  generalize hp : pointOf s seg (s.probes.table.get k) cap = point
  generalize h1 : mapCapture (fun c => { c with points := c.points ++ [point], counter := c.counter + 1 }) s = s1
  have hset : Keeps s1 (setProbe k { s.probes.table.get k with
      touches := min 4294967295 ((s.probes.table.get k).touches + 1) } s1) := by
    rw [← h1]
    exact keeps_setProbe rfl rfl rfl
  generalize h2 : setProbe k { s.probes.table.get k with
      touches := min 4294967295 ((s.probes.table.get k).touches + 1) } s1 = s2 at hset
  have hstop := keeps_controlledStop (o := .touched) (by decide) s2
  have hcapture : (controlledStop .touched s2).capture.points = s.capture.points ++ [point] := by
    rw [(moves_controlledStop .touched s2).only.capture, ← h2, ← h1]
    rfl
  have hpoints (h : PointsBounded s) : PointsBounded (controlledStop .touched s2) := by
    obtain ⟨htail, -, h15⟩ := h
    have hroom := h15 (by simp [probing, hq, hprobe, hmoving])
    have htail2 : TailQueued s2 := by rw [← h2, ← h1]; exact htail
    refine ⟨(moves_controlledStop _ _).tail htail2, ?_, fun hp => ?_⟩
    · rw [hcapture]
      simp
      omega
    · rw [(notMoving_controlledStop _ htail2).probing] at hp
      cases hp
  refine ⟨⟨fun h => hstop.queue (hset.queue ?_), hpoints, fun h => hstop.rings (hset.rings ?_),
    fun h => hstop.drives (hset.drives ?_), fun h => hstop.stopped (hset.stopped ?_),
    fun h => hstop.shaped (hset.shaped ?_), fun h => hstop.table (hset.table ?_), fun h => hstop.rise (hset.rise ?_)⟩,
    fun h => hstop.zones (hset.zones ?_)⟩
  all_goals
    rw [← h1]
    exact h

theorem keeps_classifyTouch {k : Fin 16} {r : ProbeRecord} {s : State} (hon : onHead? s = some (k, r)) (cap : Capture) :
    Keeps s (classifyTouch k r cap s) := by
  unfold classifyTouch
  split
  · exact .refl s
  · rename_i seg rest hq
    split
    · rename_i hk hm
      exact keeps_formPoint hq hk hm hon cap
    · exact keeps_collide seg s
    · exact keeps_collide seg s
    · exact keeps_collide seg s
    · exact keeps_collide seg s
    · exact .refl s

theorem keeps_rackTouch (s : State) : Keeps s (rackTouch s) := by
  unfold rackTouch
  split
  · exact .refl s
  · rename_i seg rest hq
    split
    · dsimp only
      refine ((keeps_latchCollision seg s).trans (keeps_disqualify _)).trans (Keeps.trans ?_
        ((keeps_controlledStop (by decide) _).trans (keeps_finishChange _)))
      split
      · exact .refl _
      · exact keeps_failTaken _ _ _
    · exact .refl s

theorem keeps_eligibleEdge (cap : Capture) (s : State) : Keeps s (eligibleEdge cap s) := by
  unfold eligibleEdge
  split
  · exact keeps_rackTouch s
  · split
    · split
      · rename_i hon
        exact keeps_classifyTouch hon cap
      · exact .refl s
    · exact .refl s

theorem keeps_deflect (s : State) : Keeps s (deflect s) := by
  unfold deflect
  dsimp only
  have h : Keeps s (mapCapture (fun c => { c with reseat := .spent, reseatTimer := none }) (loadLatch s)) :=
    Beside.keeps {} {}
  split
  · exact h.trans (keeps_eligibleEdge _ _)
  · exact h

theorem keeps_reseatExpire (s : State) : Keeps s (reseatExpire s) := by
  unfold reseatExpire
  split
  · exact Beside.keeps {} {}
  · exact .refl s

theorem keeps_holdWithdrawal (s : State) : Keeps s (holdWithdrawal s) := Beside.keeps {} {}

theorem keeps_withdrawTouch (n : BitVec 16) (s : State) : Keeps s (withdrawTouch n s) := by
  unfold withdrawTouch
  split
  · split
    · split
      · exact keeps_holdWithdrawal s
      · exact Beside.keeps {} {}
    · exact .refl s
  · exact .refl s

theorem keeps_mapPoints {f : List PointRecord → List PointRecord} (hf : ∀ ps, (f ps).length ≤ ps.length) (s : State) :
    Keeps s (mapPoints f s) :=
  Beside.keeps { points := hf _ } {}

theorem keeps_companionExpire (n : BitVec 16) (s : State) : Keeps s (companionExpire n s) := by
  unfold companionExpire
  dsimp only
  split
  · exact (keeps_mapPoints (fun ps => by simp) s).trans (keeps_withdrawTouch n _)
  · exact .refl s

theorem keeps_mergeCompanion (a : Nat) (n : BitVec 16) (v : Int) (x : Nat) (s : State) :
    Keeps s (mergeCompanion a n v x s) := keeps_mapPoints (fun ps => by simp) s

theorem keeps_waitRequest (q : Request) (s : State) : Keeps s (waitRequest q s) := by
  unfold waitRequest
  dsimp only
  split
  · exact Beside.keeps { requests := fun h => by simpa [mapCapture] using h } {}
  · split
    · rename_i hlt
      exact Beside.keeps { requests := fun _ => by simp [mapCapture]; omega } {}
    · exact .refl s

theorem keeps_takeRequest (q : Request) (s : State) : Keeps s (takeRequest q s) := by
  unfold takeRequest
  split
  · exact keeps_waitRequest q s
  · exact (keeps_dropRequests _ s).trans (keeps_placeAnswer _ _)

/-! ### The temperature unit -/

theorem keeps_applySlot (read : SensorRead) (s : State) : Keeps s (applySlot read s) := by
  unfold applySlot
  dsimp only
  split
  · split
    · exact Keeps.trans (Beside.keeps {} {}) (keeps_latchNotice _ _)
    · exact Beside.keeps {} {}
  · exact .refl s

theorem keeps_roundEnd (s : State) : Keeps s (roundEnd s) := by
  unfold roundEnd
  split
  · exact Beside.keeps {} {}
  · exact .refl s

theorem keeps_endSlot (read : SensorRead) (s : State) : Keeps s (endSlot read s) := by
  unfold endSlot
  dsimp only
  have hround : Keeps s (if s.thermal.slot = 15 then roundEnd (applySlot read s) else applySlot read s) := by
    split
    · exact (keeps_applySlot read s).trans (keeps_roundEnd _)
    · exact keeps_applySlot read s
  exact hround.trans (Beside.keeps {} {})

theorem keeps_peerExpire (s : State) : Keeps s (peerExpire s) := by
  unfold peerExpire
  split
  · exact Beside.keeps {} {}
  · exact .refl s

end Sys2Proof.Machine

namespace Sys2Proof.Machine

/-! ### The zone view -/

/-- A change of the view that leaves every hold of the station FIRM. -/
theorem keeps_mapView {f : Fin 16 → Option Hold → Option Hold} {s : State}
    (hf : ∀ z x, firmToSelf s (some x) = true → firmToSelf s (f z (some x)) = true) : Keeps s (mapView f s) := by
  refine Beside.keeps {} {} fun z hz => ?_
  simp only [firmZones, viewZones, zoneSet_has] at hz ⊢
  rw [mapView_zones, tab16_get]
  cases hv : s.zones.view.get z with
  | none => rw [hv] at hz; cases hz
  | some x => rw [hv] at hz; exact hf z x hz

theorem firmToSelf_some (s : State) (x : Hold) :
    firmToSelf s (some x) = true ↔ x.holder = s.line.number ∧ x.standing = .firm := by
  simp [firmToSelf]

/-- Holds of another station go free (R101, R102). -/
theorem keeps_freeHeldBy {c : Nat} {s : State} (hc : c ≠ s.line.number) (x : ZoneSet) : Keeps s (freeHeldBy c x s) := by
  refine keeps_mapView fun z h hfirm => ?_
  rw [firmToSelf_some] at hfirm
  simpa [hfirm.1, hc.symm, firmToSelf_some] using hfirm.2

theorem keeps_hearClaim (c : Nat) (x : ZoneSet) (s : State) : Keeps s (hearClaim c x s) := by
  have hview : Keeps s (mapView (fun z h => if ZoneSet.has x z then claimedEntry c s.uptime h else h) s) := by
    refine keeps_mapView fun z h hfirm => ?_
    split
    · rw [firmToSelf_some] at hfirm
      simpa [claimedEntry, hfirm.2, firmToSelf_some] using hfirm.1
    · exact hfirm
  unfold hearClaim
  dsimp only
  split
  · exact hview
  · exact hview.trans (keeps_placeObjection _ _ _)

theorem keeps_ripen (s : State) : Keeps s (mapView (fun _ h => ripen s.line.number s.uptime h) s) := by
  refine keeps_mapView fun z h hfirm => ?_
  rw [firmToSelf_some] at hfirm
  simpa [ripen, hfirm.2, firmToSelf_some] using hfirm.1

theorem keeps_setClaim (c : Claim) (s : State) : Keeps s (setClaim c s) := Beside.keeps {} {}

theorem keeps_firmClaim (s : State) : Keeps s (firmClaim s) := by
  refine Keeps.trans (Keeps.trans (keeps_mapView fun z h hfirm => ?_) (keeps_setClaim _ _)) (keeps_unclaimHead _)
  rw [firmToSelf_some] at hfirm
  simp [hfirm.1, firmToSelf_some]

theorem keeps_windowExpire (s : State) : Keeps s (windowExpire s) := by
  unfold windowExpire
  split
  · split
    · exact (keeps_firmClaim s).trans (keeps_autoRelease _)
    · exact .refl s
  · exact .refl s

theorem keeps_claimSent (s : State) : Keeps s (claimSent s) := by
  unfold claimSent
  split
  · refine Keeps.trans (keeps_mapView fun z h hfirm => ?_) (keeps_setClaim _ _)
    simpa using hfirm
  · exact .refl s

/-- A zone that the station holds FIRM it holds FIRM after its own objection (R94). -/
theorem keeps_applyOwnObject (x : ObjectFrame) (s : State) : Keeps s (applyOwnObject x s) := by
  refine keeps_mapView fun z h hfirm => ?_
  rw [firmToSelf_some] at hfirm
  cases hz : ZoneSet.has x.zones z <;> simp [ownObjectEntry, hfirm.1, hfirm.2, firmToSelf_some]

/-- What becomes of a zone that the station holds FIRM when an objection is heard: it stays, or the objection names it
against the station itself (R95). -/
theorem hearObject_firm {o c : Nat} {x : ZoneSet} {s : State} {z : Fin 16} (hz : ZoneSet.has (firmZones s) z = true)
    (h : c = s.line.number → ZoneSet.has x z = false) : ZoneSet.has (firmZones (hearObject o c x s)) z = true := by
  simp only [firmZones, viewZones, zoneSet_has, hearObject, mapView_zones, tab16_get] at hz ⊢
  cases hv : s.zones.view.get z with
  | none => rw [hv] at hz; cases hz
  | some y =>
    rw [hv, firmToSelf_some] at hz
    rw [show firmToSelf (mapView _ s) = firmToSelf s from rfl]
    by_cases hc : c = s.line.number
    · simp [objectedEntry, hz.2, h hc, firmToSelf_some, hz.1]
    · have hne : s.line.number ≠ c := fun e => hc e.symm
      cases hx : ZoneSet.has x z <;> simp [objectedEntry, hz.1, hz.2, hne, firmToSelf_some]

theorem beside_hearObject (o c : Nat) (x : ZoneSet) (s : State) : Beside s (hearObject o c x s) := {}

theorem keeps_hearObject {o c : Nat} {x : ZoneSet} {s : State}
    (h : c = s.line.number → ∀ z, ZoneSet.has (firmZones s) z = true → ZoneSet.has x z = false) :
    Keeps s (hearObject o c x s) :=
  (beside_hearObject o c x s).keeps {} fun z hz => hearObject_firm hz fun hc => h hc z hz

theorem ZoneSet.has_of_ne_zero {x : ZoneSet} (h : x = 0) (z : Fin 16) : ZoneSet.has x z = false := by
  rw [h]; exact ZoneSet.has_zero z

/-- An objection against the station itself: what it takes is no longer moved on (R96, R97). -/
theorem keeps_objectedSelf (o c : Nat) (x : ZoneSet) (s : State) :
    Keeps s (objectedSelf o (firmAmong x s) (hearObject o c x s)) := by
  unfold objectedSelf
  dsimp only
  split
  · rename_i hlost
    refine (keeps_hearObject fun _ z hz => ?_).trans (keeps_failWindow _)
    have hnone := ZoneSet.has_of_ne_zero hlost z
    rw [firmAmong, ZoneSet.has_and, hz, Bool.and_true] at hnone
    exact hnone
  · have hb := beside_hearObject o c x s
    have hm := (moves_failWindow (hearObject o c x s)).trans
      (moves_latchNotice (.zoneConflict o (firmAmong x s) true) _)
    have hc := (calm_failWindow (hearObject o c x s)).trans
      (calm_latchNotice (.zoneConflict o (firmAmong x s) true) _)
    refine keeps_zonesLost ((hb.keepsRest {}).trans (hm.keeps_calm hc).toKeepsRest)
      (by rw [hm.only.station]; rfl) (fun h => hc.idle (hb.idle h)) (fun h => hm.tail (hb.tail h)) ?_ ?_
    · intro ht seg y hq hmv
      obtain ⟨seg0, y0, hq0, hm0, -, hn0⟩ := hm.moving ht seg y hq hmv
      exact ⟨seg0, y0, hq0, hm0, hn0⟩
    · intro z hz
      cases hx : ZoneSet.has x z with
      | true => exact .inl (by rw [firmAmong, ZoneSet.has_and, hx, hz]; rfl)
      | false =>
        refine .inr ?_
        have hsame : (latchNotice (.zoneConflict o (firmAmong x s) true)
            (failWindow (hearObject o c x s))).zones.view = (hearObject o c x s).zones.view := by
          rw [latchNotice_zones]
          unfold failWindow
          split <;> simp
        rw [firmZones_congr hsame hm.only.number]
        exact hearObject_firm hz fun _ => hx

theorem keeps_takeObject (o c : Nat) (x : ZoneSet) (s : State) : Keeps s (takeObject o c x s) := by
  unfold takeObject
  dsimp only
  split
  · exact .refl s
  · split
    · exact keeps_objectedSelf o c x s
    · rename_i hc
      exact keeps_hearObject fun h => absurd h hc

/-! ### The slots' owners -/

theorem keeps_mapSlots (f : Slots → Slots) (s : State) : Keeps s (mapSlots f s) := Beside.keeps {} {}

theorem keeps_objectSent (i : Fin 3) (s : State) : Keeps s (objectSent i s) := by
  unfold objectSent
  split
  · dsimp only
    have h := (keeps_mapSlots (fun y => { y with
      objects := y.objects.set i.val (y.objects.get i).afterSuccess }) s)
    split
    · exact h.trans (keeps_applyOwnObject _ _)
    · exact (h.trans (keeps_applyOwnObject _ _)).trans (keeps_autoRelease _)
  · exact .refl s

theorem keeps_touchSent (s : State) : Keeps s (touchSent s) := by
  unfold touchSent
  split
  · exact (keeps_mapPoints (fun ps => by simp) s).trans (keeps_mapSlots _ _)
  · exact .refl s

theorem keeps_pointSent (s : State) : Keeps s (pointSent s) := by
  refine Keeps.trans (keeps_mapPoints (fun ps => ?_) s) (keeps_mapSlots _ _)
  cases ps with
  | nil => simp
  | cons r rest =>
    dsimp only
    split <;> simp

/-- A full reset begins with every drive demand 0 (R183). -/
theorem keeps_beginReset (p : Bool) (s : State) : Keeps s (beginReset p s) := by
  have hout (i : Fin 4) : ((beginReset p s).axis i).driveOut = 0 := by simp [beginReset, State.axis]
  have hb : Beside s (beginReset p s) := { ring := fun i h => by simpa [beginReset, State.axis] using h }
  exact ⟨hb.rest (fun _ => ⟨fun _ i => hout i, fun i _ => hout i⟩) fun _ hr => absurd hr (by simp [beginReset]),
    hb.zones (fun _ h => h) fun h => h⟩

theorem keeps_restartNow (s : State) : Keeps s (restartNow s) := by
  unfold restartNow
  split
  · exact keeps_beginReset _ s
  · exact .refl s

theorem keeps_replySent (i : Fin 2) (s : State) : Keeps s (replySent i s) := by
  unfold replySent
  dsimp only
  split
  · split
    · exact (keeps_mapSlots _ s).trans (keeps_restartNow _)
    · exact keeps_mapSlots _ s
  · exact keeps_mapSlots _ s

theorem keeps_statusSent (s : State) : Keeps s (statusSent s) := by
  unfold statusSent
  dsimp only
  split
  · split
    · exact Beside.keeps {} {}
    · exact keeps_mapSlots _ s
  · exact keeps_mapSlots _ s

/-- What a HELLO sent does before the zones lost are looked at (R103): the own holdings go free, a claim in its window
fails, and LINE REJOINED may be latched. -/
theorem helloSent_eq (s : State) : ∃ w,
    (w = failWindow (freeHeldBy s.line.number allZones (mapSlots (fun x => { x with hello := false }) s)) ∨
      ∃ n, w = latchNotice n
        (failWindow (freeHeldBy s.line.number allZones (mapSlots (fun x => { x with hello := false }) s)))) ∧
    helloSent s = zonesLost (ownZones s) (mapLine (fun l => { l with mutes := 0, muteStart := none }) w) := by
  unfold helloSent
  dsimp only
  split
  · exact ⟨_, .inl rfl, rfl⟩
  · exact ⟨_, .inr ⟨_, rfl⟩, rfl⟩

theorem ownZones_of_firm {s : State} {z : Fin 16} (h : ZoneSet.has (firmZones s) z = true) :
    ZoneSet.has (ownZones s) z = true := by
  simp only [firmZones, ownZones, viewZones, zoneSet_has] at h ⊢
  cases hx : s.zones.view.get z with
  | none => rw [hx] at h; cases h
  | some x =>
    rw [hx, firmToSelf_some] at h
    simp [heldBySelf, h.1]

/-- The station's holdings in its own view go free, and it moves on none of them (R103). -/
theorem keeps_helloSent (s : State) : Keeps s (helloSent s) := by
  obtain ⟨w, hw, heq⟩ := helloSent_eq s
  rw [heq]
  generalize hv : freeHeldBy s.line.number allZones (mapSlots (fun x => { x with hello := false }) s) = v at hw
  have hb : Beside s v := by rw [← hv]; exact {}
  have hd : SameDrives s v := by rw [← hv]; exact {}
  have hmode : v.station.mode = s.station.mode := by rw [← hv]; rfl
  obtain ⟨hm, hc⟩ : Moves v w ∧ Calm v w := by
    rcases hw with rfl | ⟨n, rfl⟩
    · exact ⟨moves_failWindow v, calm_failWindow v⟩
    · exact ⟨(moves_failWindow v).trans (moves_latchNotice n _), (calm_failWindow v).trans (calm_latchNotice n _)⟩
  have hline : Keeps w (mapLine (fun l => { l with mutes := 0, muteStart := none }) w) :=
    Beside.keeps { mutes := fun _ => Nat.zero_le _ } {}
  refine keeps_zonesLost (((hb.keepsRest hd).trans (hm.keeps_calm hc).toKeepsRest).trans hline.toKeepsRest)
    ?_ (fun h => hc.idle (hb.idle h)) (fun h => hm.tail (hb.tail h)) ?_ fun z hz => .inl (ownZones_of_firm hz)
  · rw [mapLine_station, hm.only.station, hmode]
  · intro ht seg y hq hmv
    obtain ⟨seg0, y0, hq0, hm0, -, hn0⟩ := hm.moving (hb.tail ht) seg y hq hmv
    exact ⟨seg0, y0, hb.queue ▸ hq0, hm0, hn0⟩

theorem keeps_slotSent (id : SlotId) (s : State) : Keeps s (slotSent id s) := by
  cases id with
  | touch => exact keeps_touchSent s
  | object i => exact keeps_objectSent i s
  | hello => exact keeps_helloSent s
  | claim => exact (keeps_mapSlots _ s).trans (keeps_claimSent _)
  | point => exact keeps_pointSent s
  | reply i => exact keeps_replySent i s
  | status => exact keeps_statusSent s
  | release => exact keeps_mapSlots (fun x => { x with release := x.release.afterSuccess }) s
  | companion i => exact keeps_mapSlots (fun x => { x with companions := x.companions.set i.val Slot.empty }) s
  | temp => exact keeps_mapSlots (fun x => { x with temp := x.temp.afterSuccess }) s
  | notice => exact keeps_mapSlots (fun x => { x with notice := none }) s

end Sys2Proof.Machine

namespace Sys2Proof.Machine

/-! ### Taking a frame -/

theorem takenState_offline (l : LineState) (h : takenState l = .offline) : l = .offline := by
  cases l <;> simp_all [takenState]

theorem keeps_frameTaken (f : RxFrame) (s : State) : Keeps s (frameTaken f s) := by
  unfold frameTaken
  dsimp only
  have h : Keeps s (mapLine (fun l => { l with
      lastSof := f.sof, quiet := f.quiet, acked := acknowledges s, state := takenState l.state
      idleAt := some (idleAfter s 4) }) s) :=
    Beside.keeps {} { offline := takenState_offline _ }
  split
  · exact h.trans (keeps_mapSlots _ _)
  · exact h

theorem keeps_returnNotice (s : State) : Keeps s (returnNotice s) := by
  unfold returnNotice
  split
  · exact .refl s
  · exact Beside.keeps {} {}

theorem keeps_dropQueuedClaim (s : State) : Keeps s (dropQueuedClaim s) := by
  unfold dropQueuedClaim
  split
  · exact (keeps_setClaim _ s).trans (keeps_unclaimHead _)
  · exact .refl s

theorem keeps_emptySlots (s : State) : Keeps s (emptySlots s) := by
  have h (u : State) : Keeps u { u with
      slots := Slots.empty
      line := { u.line with attempt := none }
      capture := { u.capture with points := u.capture.points.map PointRecord.unoffer, requests := [] } } :=
    Beside.keeps { points := by simp, requests := fun _ => Nat.zero_le _ } {}
  exact ((keeps_returnNotice s).trans (h _)).trans (keeps_dropQueuedClaim _)

theorem keeps_enterMute (s : State) : Keeps s (enterMute s) := by
  unfold enterMute
  dsimp only
  have h : Keeps s { s with line := { s.line with
      state := .mute
      mutes := min 255 (s.line.mutes + 1)
      muteStart := if s.line.mutes = 0 then some s.uptime else s.line.muteStart
      muteTimer := some (s.uptime + Config.muteTicks) } } :=
    Beside.keeps { mutes := fun _ => Nat.min_le_left _ _ } { offline := fun h => by cases h }
  exact ((h.trans (keeps_emptySlots _)).trans (keeps_haltMotion _ _)).trans (keeps_restartNow _)

theorem returnNotice_with (l : Line) (x : Station) (s : State) :
    returnNotice { s with line := l, station := x } = { returnNotice s with line := l, station := x } := by
  simp only [returnNotice]
  cases s.slots.notice <;> rfl

theorem unclaimHead_with (l : Line) (x : Station) (s : State) :
    unclaimHead { s with line := l, station := x } = { unclaimHead s with line := l, station := x } := by
  simp only [unclaimHead, mapHead]
  cases s.motion.queue <;> rfl

theorem dropQueuedClaim_with (l : Line) (x : Station) (s : State) :
    dropQueuedClaim { s with line := l, station := x } = { dropQueuedClaim s with line := l, station := x } := by
  simp only [dropQueuedClaim]
  cases s.zones.claim with
  | queued z o => exact unclaimHead_with l x (setClaim .none s)
  | none | window z b => rfl

/-- The slots are emptied alike whatever the line state and the mode. -/
theorem emptySlots_with (l : Line) (x : Station) (s : State) :
    emptySlots { s with line := l, station := x } =
      { emptySlots s with line := { l with attempt := none }, station := x } := by
  unfold emptySlots
  rw [returnNotice_with]
  exact dropQueuedClaim_with { l with attempt := none } x { returnNotice s with
    slots := Slots.empty
    line := { (returnNotice s).line with attempt := none }
    capture := { (returnNotice s).capture with
      points := (returnNotice s).capture.points.map PointRecord.unoffer, requests := [] } }

@[simp] theorem returnNotice_line (s : State) : (returnNotice s).line = s.line := by
  unfold returnNotice
  split <;> rfl

@[simp] theorem dropQueuedClaim_line (s : State) : (dropQueuedClaim s).line = s.line := by
  unfold dropQueuedClaim
  split <;> simp

@[simp] theorem emptySlots_line (s : State) : (emptySlots s).line = { s.line with attempt := none } := by
  simp [emptySlots]

theorem keeps_enterOffline (s : State) : Keeps s (enterOffline s) := by
  unfold enterOffline
  dsimp only
  rw [emptySlots_with, drivesOff_eq]
  refine (keeps_emptySlots s).trans (Keeps.trans ?_ (keeps_restartNow _))
  exact keeps_powerCut (by decide) _
    { failures := fun h => by simpa using h, mutes := fun h => by simpa using h } rfl rfl fun _ _ _ => by simp

theorem keeps_duplicateFound (sof : Tick) (s : State) : Keeps s (duplicateFound sof s) :=
  Keeps.trans (Beside.keeps {} {}) (keeps_enterOffline _)

theorem keeps_receive {kind : Nat} {f : RxFrame} {body : State → State}
    (h : ∀ s, s.inReset = false → f.sender.toNat ≠ s.line.number → Keeps s (body s)) (s : State) :
    Keeps s (receive kind f body s) := by
  refine keeps_timed (fun s hr => ?_) f.tick s
  split
  · split
    · exact keeps_duplicateFound _ s
    · rename_i hn
      split
      · have hself : (frameTaken f s).line.number = s.line.number := by
          unfold frameTaken
          dsimp only
          split <;> rfl
        have hreset : (frameTaken f s).inReset = s.inReset := by
          unfold frameTaken
          dsimp only
          split <;> rfl
        exact ((keeps_frameTaken f s).trans (h _ (hreset.trans hr) (by rwa [hself]))).trans (keeps_overlapCheck _)
      · exact keeps_frameTaken f s
  · exact .refl s

theorem keeps_sized {len : Nat} {f : RxFrame} {body : State → State} {s : State} (h : Keeps s (body s)) :
    Keeps s (sized len f body s) := by
  unfold sized
  split
  · exact h
  · exact .refl s

theorem keeps_placeReply (r : ReplyFrame) (s : State) : Keeps s (placeReply r s) := by
  unfold placeReply
  split
  · exact Beside.keeps {} {}
  · exact Beside.keeps {} {}

theorem keeps_setOverrun (s : State) : Keeps s (setOverrun s) := Beside.keeps {} {}

theorem keeps_command {kind : Nat} {access : State → Nat → Option ReplyCode} {run : RxFrame → State → Answer}
    {f : RxFrame} (h : ∀ s, access s f.sender.toNat = none → Keeps s (run f s).after) (s : State) :
    Keeps s (command kind access run f s) := by
  refine keeps_receive (fun s _ _ => ?_) s
  split
  · exact .refl s
  · split
    · exact .refl s
    · split
      · exact keeps_setOverrun s
      · unfold answer
        dsimp only
        refine Keeps.trans ?_ (keeps_placeReply _ _)
        cases ha : access s f.sender.toNat with
        | some code => exact .refl s
        | none => exact h s ha

/-! ### Motion commands -/

theorem runAccess_none {s : State} {sender : Nat} (h : runAccess s sender = none) : s.station.mode = .run := by
  by_contra hne
  simp [runAccess, hne] at h

/-- A segment joins a queue that has room, in RUN, with motion normal and no change in progress (R56, R58). -/
theorem keeps_enqueue {seg : Segment} {s : State} (hseg : seg.state = .queued) (hmode : s.station.mode = .run)
    (hgate : s.gate = .normal) (hchange : s.probes.change.active = false) (hroom : s.motion.queue.length < 8) :
    Keeps s (enqueue seg s) := by
  refine (moves_enqueue hseg s).keeps (fun h => absurd h (by simp [hmode, hgate])) (fun _ => ?_) fun h =>
    tableSafe_congr (enqueue_probes seg s) h
  refine ⟨?_, fun h => absurd h (by simp [hchange]), fun h => absurd h (by simp [hchange])⟩
  cases hq : s.motion.queue with
  | nil => rw [enqueue_empty hq]; simp
  | cons x xs =>
    rw [hq, List.length_cons] at hroom
    rw [enqueue_behind hq]
    simp
    omega

theorem moveBlocked_none {s : State} {l : List (Fin 4)} (h : moveBlocked s l = none) :
    s.probes.change.active = false ∧ s.gate = .normal ∧ s.motion.queue.length < 8 := by
  unfold moveBlocked at h
  split at h
  · cases h
  · rename_i hfree
    push Not at hfree
    split at h
    · cases h
    · rename_i hlen
      exact ⟨by simpa using hfree.1, hfree.2, by omega⟩

theorem keeps_runPosition {s : State} (hmode : s.station.mode = .run) (p : List Byte) :
    Keeps s (runPosition p s).after := by
  unfold runPosition
  dsimp only
  split
  · exact .refl s
  · split
    · exact .refl s
    · rename_i hfree
      obtain ⟨hchange, hgate, hroom⟩ := moveBlocked_none hfree
      split
      · exact .refl s
      · split
        · exact .refl s
        · exact keeps_enqueue rfl hmode hgate hchange hroom

theorem keeps_runProbe {s : State} (hmode : s.station.mode = .run) (p : List Byte) :
    Keeps s (runProbe p s).after := by
  unfold runProbe
  dsimp only
  split
  · exact .refl s
  · split
    · exact .refl s
    · rename_i hfree
      obtain ⟨hchange, hgate, hroom⟩ := moveBlocked_none hfree
      split
      · exact .refl s
      · split
        · exact .refl s
        · split
          · exact .refl s
          · exact keeps_enqueue rfl hmode hgate hchange hroom

theorem keeps_runMove {s : State} (hmode : s.station.mode = .run) (f : RxFrame) : Keeps s (runMove f s).after := by
  unfold runMove
  split
  · exact keeps_runPosition hmode _
  · exact keeps_runProbe hmode _
  · exact .refl s

theorem keeps_runReference {s : State} (hmode : s.station.mode = .run) (f : RxFrame) :
    Keeps s (runReference f s).after := by
  unfold runReference
  split
  · exact .refl s
  · split
    · exact .refl s
    · rename_i hfree
      push Not at hfree
      split
      · exact .refl s
      · rename_i hroom
        split
        · exact .refl s
        · dsimp only
          split
          · exact .refl s
          · split
            · exact .refl s
            · exact keeps_enqueue rfl hmode hfree.2 (by simpa using hfree.1) (by omega)

theorem keeps_runClear (f : RxFrame) (s : State) : Keeps s (runClear f s).after := by
  unfold runClear
  split
  · exact .refl s
  · split
    · exact .refl s
    · rename_i hlow
      have hen : s.pins.driveEnable = true := by simpa using hlow
      split
      · rename_i hgate
        have hoff : ampOn s = false := by simp [ampOn, hgate]
        have hnormal : Keeps s { s with faultPending := false, gate := .normal } := by
          refine ⟨Beside.rest {} (fun h => ⟨fun _ i => h.1 hoff i, h.2⟩) fun _ _ => ?_,
            Beside.zones {} (fun _ h => h) fun h => h⟩
          exact ⟨fun h => absurd (hen.symm.trans h) (by decide), fun h => absurd rfl h⟩
        exact hnormal.trans (keeps_holdAtPositions _)
      · exact Beside.keeps {} {}

/-! ### Probe commands -/

theorem keeps_runProbeChange {s : State} (hmode : s.station.mode = .run) (f : RxFrame) :
    Keeps s (runProbeChange f s).after := by
  unfold runProbeChange
  split
  · exact .refl s
  · rename_i drop pick hcheck
    have hready := checkChange_accept hcheck
    have hgate : s.gate = .normal := by
      have hidle := hready.idle
      unfold motionState at hidle
      cases hg : s.gate <;> simp_all
    exact (moves_acceptChange _ drop pick s).keeps (fun h => absurd h (by simp [hmode, hgate]))
      (fun _ => queueBounded_acceptChange _ drop pick hready)
      fun h => tableSafe_acceptChange _ drop pick hready h.distinct

theorem otherRecord_false {s : State} {k i : Fin 16} {p : ProbeRecord → Bool} (h : otherRecord s k p = false)
    (hi : i ≠ k) (hid : (s.probes.table.get i).id ≠ 0) : p (s.probes.table.get i) = false := by
  simp only [otherRecord, List.any_eq_false] at h
  simpa [hi, hid] using h i (by simp)

/-- A record joins a table that keeps its promises: its id and its home are no other record's, and where it is ON HEAD
no other is (R126, R127, R128). -/
theorem tableDistinct_set {t : Vector ProbeRecord 16} {k : Fin 16} {r : ProbeRecord} (h : TableDistinct t)
    (hid : r.id ≠ 0 → ∀ i, i ≠ k → (t.get i).id ≠ r.id)
    (hhome : r.id ≠ 0 → r.home ≠ none → ∀ i, i ≠ k → (t.get i).id ≠ 0 → (t.get i).home ≠ r.home)
    (hloc : r.location = .onHead → ∀ i, i ≠ k → (t.get i).location ≠ .onHead) :
    TableDistinct (t.set k.val r) := by
  intro i j hij
  simp only [vector_get_set]
  by_cases hi : i = k
  · have hj : j ≠ k := fun e => hij (hi.trans e.symm)
    rw [if_pos hi, if_neg hj]
    exact ⟨fun h0 => (hid h0 j hj).symm, fun h0 hj0 hh => (hhome h0 hh j hj hj0).symm, fun hl => hloc hl j hj⟩
  · rw [if_neg hi]
    by_cases hj : j = k
    · rw [if_pos hj]
      refine ⟨fun h0 he => ?_, fun h0 hj0 hh he => ?_, fun hl hr => hloc hr i hi hl⟩
      · exact hid (he ▸ h0) i hi he
      · exact hhome hj0 (he ▸ hh) i hi h0 he
    · rw [if_neg hj]
      exact h i j hij

theorem tableDistinct_writeProbe {s : State} {k : Fin 16} {p : List Byte} (h : TableDistinct s.probes.table)
    (hid : byteAt p 2 ≠ 0 → otherRecord s k (fun r => r.id == byteAt p 2) = false)
    (hhome : byteAt p 2 ≠ 0 → (choice 8 (byteAt p 3)).value ≠ none →
      otherRecord s k (fun r => r.home == (choice 8 (byteAt p 3)).value) = false) :
    TableDistinct (writeProbe k p s).probes.table := by
  unfold writeProbe
  dsimp only
  split
  · exact tableDistinct_set h (fun h0 => absurd rfl h0) (fun h0 => absurd rfl h0) fun hl => by cases hl
  · rename_i h0
    have hne (i : Fin 16) (hi : i ≠ k) : (s.probes.table.get i).id ≠ byteAt p 2 := fun he => by
      have hother := otherRecord_false (hid h0) hi (by rw [he]; exact h0)
      simp [he] at hother
    have hhne (hv : (choice 8 (byteAt p 3)).value ≠ none) (i : Fin 16) (hi : i ≠ k)
        (hi0 : (s.probes.table.get i).id ≠ 0) : (s.probes.table.get i).home ≠ (choice 8 (byteAt p 3)).value :=
        fun he => by
      have hother := otherRecord_false (hhome h0 hv) hi hi0
      simp [he] at hother
    split
    · have hc := calm_clearHead s
      exact tableDistinct_set (hc.tableDistinct h) (fun _ i hi => by rw [hc.ids]; exact hne i hi)
        (fun _ hv i hi hi0 => by rw [hc.homes]; exact hhne hv i hi (by rwa [hc.ids] at hi0))
        fun _ i _ => clearHead_location s i
    · rename_i hloc
      exact tableDistinct_set h (fun _ i hi => hne i hi) (fun _ hv i hi hi0 => hhne hv i hi hi0)
        fun hl => absurd hl hloc

theorem moves_writeProbe (k : Fin 16) (p : List Byte) (s : State) : Moves s (writeProbe k p s) := by
  unfold writeProbe
  dsimp only
  split
  · exact moves_setProbe _ _ _
  · split
    · exact (moves_mapProbes _ s).trans (moves_setProbe _ _ _)
    · exact moves_setProbe _ _ _

@[simp] theorem writeProbe_change (k : Fin 16) (p : List Byte) (s : State) :
    (writeProbe k p s).probes.change = s.probes.change := by
  unfold writeProbe
  dsimp only
  split
  · rfl
  · split <;> rfl

@[simp] theorem writeProbe_motion (k : Fin 16) (p : List Byte) (s : State) :
    (writeProbe k p s).motion = s.motion := by
  unfold writeProbe
  dsimp only
  split
  · rfl
  · split <;> rfl

theorem keeps_runProbeSet (f : RxFrame) (s : State) : Keeps s (runProbeSet f s).after := by
  unfold runProbeSet
  dsimp only
  split
  · exact .refl s
  · rename_i k hk
    split
    · exact .refl s
    · split
      · exact .refl s
      · rename_i hactive
        have ha : s.probes.change.active = false := by simpa using hactive
        split
        · exact .refl s
        · split
          · exact .refl s
          · rename_i hid
            split
            · exact .refl s
            · rename_i hhome
              refine (moves_writeProbe k f.payload s).keeps (fun _ h => ?_) (fun h => ?_) fun h => ?_
              · simpa [doneAnswer, Idle] using h
              · simpa [doneAnswer, QueueBounded] using h
              · refine tableSafe_of_inactive (tableDistinct_writeProbe h.distinct ?_ ?_) (by simpa using ha)
                · intro h0
                  by_contra hne
                  exact hid ⟨h0, by simpa using hne⟩
                · intro h0 hv
                  by_contra hne
                  exact hhome ⟨h0, hv, by simpa using hne⟩

/-! ### Station commands -/

theorem keeps_writeDatums (p : List Byte) (s : State) : Keeps s (writeDatums p s) := by
  unfold writeDatums
  dsimp only
  refine keeps_mapAxes s (fun i a h => ?_) fun i a => ?_
  · split
    · exact h
    · exact h
  · split <;> rfl

theorem keeps_runDatum (f : RxFrame) (s : State) : Keeps s (runDatum f s).after := by
  unfold runDatum
  dsimp only
  split
  · exact .refl s
  · exact keeps_writeDatums _ s

theorem keeps_runArm (f : RxFrame) (s : State) : Keeps s (runArm f s).after := by
  unfold runArm
  split
  · exact .refl s
  · split
    · refine Keeps.trans (Beside.keeps {} { mode := fun h => absurd rfl h }) (keeps_holdAtPositions _)
    · exact .refl s

theorem cutDrives_driveOut (s : State) (i : Fin 4) :
    ((cutDrives s).axis i).driveOut = if s.live i then 0 else (s.axis i).driveOut := by
  simp only [cutDrives, State.axis_mapAxes]
  split <;> rfl

theorem keepsRest_releaseZones (x : ZoneSet) (s : State) : KeepsRest s (releaseZones x s) := by
  unfold releaseZones
  split
  · exact (Keeps.refl s).toKeepsRest
  · exact Beside.keepsRest {} {}

theorem releaseZones_eq (x : ZoneSet) (s : State) : releaseZones x s = { s with
    zones := { s.zones with view := (releaseZones x s).zones.view }
    slots := { s.slots with release := (releaseZones x s).slots.release } } := by
  unfold releaseZones
  split <;> rfl

theorem withdrawClaim_idle {s : State} (h : Idle s) : Idle (withdrawClaim s) := (calm_withdrawClaim s).idle h

/-- DISARM finds nothing queued and no change in progress, and leaves nothing driven (R195). -/
theorem keeps_disarm {s : State} (h : Idle s) : Keeps s (disarm s) := by
  unfold disarm
  dsimp only
  generalize hs1 : releaseZones (firmZones s) (withdrawClaim s) = s1
  have hrest : KeepsRest s s1 := by
    rw [← hs1]
    exact (keeps_withdrawClaim s).toKeepsRest.trans (keepsRest_releaseZones _ _)
  have hidle : Idle s1 := by
    rw [← hs1, releaseZones_eq]
    exact (calm_withdrawClaim s).idle h
  have hdrives (hd : DrivesSafe s1) (t : State) (ht : t.axes = (cutDrives s1).axes) : DrivesSafe t := by
    have hout (i : Fin 4) : (t.axis i).driveOut = 0 := by
      rw [show t.axis i = (cutDrives s1).axis i by simp [State.axis, ht], cutDrives_driveOut]
      split
      · rfl
      · rename_i hi
        exact hd.2 i (by simpa using hi)
    exact ⟨fun _ i => hout i, fun i _ => hout i⟩
  refine ⟨hrest.trans (Beside.rest { ring := fun i hr => ?_ } (fun hd => hdrives hd _ rfl) fun h => h), fun _ => ?_⟩
  · simp only [cutDrives, State.axis_mapAxes]
    split
    · exact hr
    · exact hr
  · have hq : (cutDrives { s1 with
        station := { s1.station with mode := .setup, controller := 0 }
        motion := { s1.motion with permit := .none, permitTimer := none } }).motion.queue = [] := hidle.1
    refine ⟨fun seg hseg => ?_, fun _ => hidle, fun seg rest hqs => ?_⟩
    · rw [hq] at hseg
      cases hseg
    · rw [hq] at hqs
      cases hqs

theorem keeps_runDisarm (f : RxFrame) (s : State) : Keeps s (runDisarm f s).after := by
  unfold runDisarm
  split
  · exact .refl s
  · split
    · exact .refl s
    · rename_i hfree
      push Not at hfree
      exact keeps_disarm ⟨hfree.2.1, by simpa using hfree.1⟩

theorem keeps_runRestart (f : RxFrame) (s : State) : Keeps s (runRestart f s).after := by
  unfold runRestart
  dsimp only
  split
  · exact .refl s
  · split
    · exact .refl s
    · have h : Keeps s { s with station := { s.station with restartPending := true } } := Beside.keeps {} {}
      unfold doneAnswer
      dsimp only
      split
      · exact h.trans (keeps_restartNow _)
      · exact h

end Sys2Proof.Machine

namespace Sys2Proof.Machine

/-! ### Setup frames -/

theorem keeps_runSetupStation (f : RxFrame) (s : State) : Keeps s (runSetupStation f s).after := by
  unfold runSetupStation
  split
  · exact Beside.keeps {} {}
  · exact .refl s

theorem keeps_runSetupAxis (f : RxFrame) (s : State) : Keeps s (runSetupAxis f s).after := by
  unfold runSetupAxis
  dsimp only
  split
  · split
    · exact keeps_setAxis (fun h => h) rfl
    · exact .refl s
  · exact .refl s

theorem keeps_runSetupScale (f : RxFrame) (s : State) : Keeps s (runSetupScale f s).after := by
  unfold runSetupScale
  split
  · split
    · exact keeps_setAxis (fun h => h) rfl
    · exact .refl s
  · exact .refl s

theorem keeps_runSetupMap (f : RxFrame) (s : State) : Keeps s (runSetupMap f s).after := by
  unfold runSetupMap
  split
  · split
    · exact keeps_setAxis (fun h => h) rfl
    · exact .refl s
  · exact .refl s

/-- The boundaries are written only where those loaded still rise (R83). -/
theorem keeps_runSetupZones (f : RxFrame) (s : State) : Keeps s (runSetupZones f s).after := by
  unfold runSetupZones
  split
  · rename_i hform
    have hrise : BoundariesRise (writeZones f.payload s) := by
      unfold zonesForm at hform
      rw [Bool.and_eq_true] at hform
      exact hform.2
    exact ⟨⟨fun h => h, fun h => h, fun h => h, fun h => h, fun h => h, fun h => h, fun h => h, fun _ => hrise⟩,
      fun h => h⟩
  · exact .refl s

theorem keeps_runSetupThermal (f : RxFrame) (s : State) : Keeps s (runSetupThermal f s).after := by
  unfold runSetupThermal
  split
  · exact Beside.keeps {} {}
  · exact .refl s

theorem keeps_runSetupLinks (f : RxFrame) (s : State) : Keeps s (runSetupLinks f s).after := by
  unfold runSetupLinks
  split
  · exact Beside.keeps {} {}
  · exact .refl s

theorem keeps_runSetupRack (f : RxFrame) (s : State) : Keeps s (runSetupRack f s).after := by
  unfold runSetupRack
  split
  · split
    · exact Beside.keeps {} {}
    · exact .refl s
  · exact .refl s

/-! ### Queries -/

theorem keeps_refuseQuery (n : Nat) (s : State) : Keeps s (refuseQuery n s) := by
  unfold refuseQuery
  split
  · exact keeps_setOverrun s
  · exact keeps_placeReply _ s

theorem keeps_buildStatus (n a b : Nat) (c : List Byte) (s : State) : Keeps s (buildStatus n a b c s) := by
  unfold buildStatus
  split
  · exact keeps_setOverrun s
  · dsimp only
    split
    · exact Beside.keeps {} {}
    · exact keeps_mapSlots _ s

theorem keeps_answerQuery (f : RxFrame) (s : State) : Keeps s (answerQuery f s) := by
  unfold answerQuery
  dsimp only
  split
  · exact keeps_refuseQuery _ s
  · split
    · exact keeps_buildStatus _ _ _ _ s
    · exact keeps_refuseQuery _ s

theorem keeps_query (f : RxFrame) (s : State) : Keeps s (query f s) := by
  refine keeps_receive (fun s _ _ => ?_) s
  split
  · exact .refl s
  · split
    · exact .refl s
    · exact keeps_answerQuery f s

/-! ### Frames that are not commands -/

theorem keeps_hearHello {o : Nat} {s : State} (ho : o ≠ s.line.number) : Keeps s (hearHello o s) := by
  unfold hearHello
  dsimp only
  have hfree := keeps_freeHeldBy ho allZones
  have hpeer : Keeps s (if o = s.thermal.peerStation then
      { freeHeldBy o allZones s with thermal := { (freeHeldBy o allZones s).thermal with
        peer := { (freeHeldBy o allZones s).thermal.peer with standing := .gone, timer := none } } }
      else freeHeldBy o allZones s) := by
    split
    · exact hfree.trans (Beside.keeps {} {})
    · exact hfree
  split
  · exact hpeer.trans (keeps_permitExpire _ _)
  · exact hpeer

theorem keeps_hearTouch (f : RxFrame) (s : State) : Keeps s (hearTouch f s) := by
  unfold hearTouch
  split
  · exact keeps_takeRequest _ s
  · exact .refl s

theorem keeps_hearCompanion (f : RxFrame) (s : State) : Keeps s (hearCompanion f s) := by
  unfold hearCompanion
  split
  · exact keeps_mergeCompanion _ _ _ _ s
  · exact .refl s

theorem keeps_hearPermit (o : Nat) (s : State) : Keeps s (hearPermit o s) := by
  unfold hearPermit
  split
  · exact keeps_permitRenew s
  · exact .refl s

theorem keeps_hearTemp (f : RxFrame) (s : State) : Keeps s (hearTemp f s) := by
  unfold hearTemp
  dsimp only
  split
  · split
    · split
      · exact Beside.keeps {} {}
      · exact .refl s
    · exact .refl s
  · exact .refl s

theorem keeps_hearHalt (f : RxFrame) (s : State) :
    Keeps s (if addressed s (byteAt f.payload 0) then haltMotion .halted s else s) := by
  split
  · exact keeps_haltMotion _ s
  · exact .refl s

/-! ### The line controller -/

theorem keeps_muteExpire (s : State) : Keeps s (muteExpire s) := by
  unfold muteExpire
  split
  · exact Beside.keeps { failures := fun _ => Nat.zero_le _ } { offline := fun h => by cases h }
  · exact .refl s

theorem keeps_listenQuiet (s : State) : Keeps s (listenQuiet s) := by
  unfold listenQuiet
  split
  · exact Keeps.trans (Beside.keeps {} { offline := fun h => by cases h }) (keeps_mapSlots _ _)
  · exact .refl s

theorem keeps_beginAttempt (s : State) : Keeps s (beginAttempt s) := by
  unfold beginAttempt
  split
  · refine Beside.keeps {} { offline := fun h => ?_ }
    rw [mapLine_line] at h
    dsimp only at h
    split at h <;> cases h
  · exact .refl s

theorem keeps_attemptOver (d : Option Nat) (s : State) : Keeps s (attemptOver d s) := by
  refine Beside.keeps {} { offline := fun h => ?_ }
  simp only [attemptOver, mapLine_line] at h
  split at h <;> cases h

theorem keeps_applyAmendment (id : SlotId) (s : State) : Keeps s (applyAmendment id s) := by
  unfold applyAmendment
  split
  · exact keeps_mapSlots _ s
  · exact keeps_mapSlots _ s
  · exact keeps_mapSlots _ s
  · exact keeps_mapSlots _ s
  · exact .refl s

theorem keeps_dropTouch (a : Attempt) (s : State) : Keeps s (dropTouch a s) := by
  unfold dropTouch
  split
  · exact keeps_mapSlots _ s
  · exact .refl s

theorem keeps_dropClaim (a : Attempt) (s : State) : Keeps s (dropClaim a s) := by
  unfold dropClaim
  split
  · exact keeps_withdrawClaim s
  · exact .refl s

theorem keeps_loseAttempt (a : Attempt) (s : State) : Keeps s (loseAttempt a s) := by
  have hquiet (u : State) : Keeps u (mapLine (fun l => { l with quiet := 0 }) u) := Beside.keeps {} {}
  exact (((((keeps_attemptOver none s).trans (hquiet _)).trans (keeps_applyAmendment _ _)).trans
    (keeps_dropTouch a _)).trans (keeps_dropClaim a _))

theorem keeps_failAttempt (a : Attempt) (quiet : Nat) (s : State) : Keeps s (failAttempt a quiet s) := by
  unfold failAttempt
  dsimp only
  have hcount (u : State) :
      Keeps u (mapLine (fun l => { l with failures := min 16 (l.failures + 1), quiet := quiet }) u) :=
    Beside.keeps { failures := fun _ => Nat.min_le_left _ _ } {}
  have h := ((keeps_attemptOver (some (idleAfter s (max 10 (11 - quiet)))) s).trans
    (keeps_applyAmendment a.slot _)).trans (hcount _)
  split
  · exact h.trans (keeps_enterMute _)
  · exact h

theorem keeps_succeedAttempt (a : Attempt) (s : State) : Keeps s (succeedAttempt a s) :=
  Keeps.trans (Beside.keeps { failures := fun _ => Nat.zero_le _ } { offline := fun h => by cases h })
    (keeps_slotSent _ _)

theorem keeps_withAttempt {won : Bool} {act : Attempt → State → State} (h : ∀ a s, Keeps s (act a s)) (s : State) :
    Keeps s (withAttempt won act s) := by
  unfold withAttempt
  split
  · split
    · exact h _ s
    · exact .refl s
  · exact .refl s

theorem keeps_quietRestart (bits : List Bool) (s : State) : Keeps s (quietRestart bits s) := by
  refine Beside.keeps {} { offline := fun h => ?_ }
  simp only [quietRestart, mapLine_line] at h
  split at h
  · cases h
  · exact h

theorem keeps_frameErred (bits : List Bool) (e : RxError) (sof : Tick) (s : State) :
    Keeps s (frameErred bits e sof s) :=
  Keeps.trans (Beside.keeps {} {}) (keeps_quietRestart bits _)

theorem keeps_frameBits (bits : List Bool) (sof : Tick) (s : State) : Keeps s (frameBits bits sof s) := by
  unfold frameBits
  split
  · exact .refl s
  · exact .refl s
  · split
    · exact keeps_duplicateFound sof s
    · exact keeps_frameErred _ _ _ s

theorem keeps_strayBits (bits : List Bool) (s : State) : Keeps s (strayBits bits s) := by
  unfold strayBits
  split
  · exact .refl s
  · exact keeps_quietRestart bits s

theorem keeps_bitsRead (bits : List Bool) (sof : Tick) (s : State) :
    Keeps s (if !followsFrames s then s else if startsFrame sof s then frameBits bits sof s else strayBits bits s) := by
  split
  · exact .refl s
  · split
    · exact keeps_frameBits bits sof s
    · exact keeps_strayBits bits s

/-! ### The head and the rack -/

theorem keeps_lidChanged (p : Fin 8) (before s : State) : Keeps s (lidChanged p before s) := by
  unfold lidChanged
  dsimp only
  split
  · exact keeps_failPhase _ _ s
  · exact keeps_inputsChanged s

theorem awaitsRead_cases {c : Change} (h : awaitsRead c = true) :
    c.result = none ∧ workingPhase c = true := by
  unfold awaitsRead at h
  rw [Bool.and_eq_true, Bool.and_eq_true] at h
  obtain ⟨⟨-, hr⟩, hp⟩ := h
  refine ⟨by simpa using hr, ?_⟩
  unfold workingPhase
  split at hp
  · rename_i hphase
    simp [hphase, hp]
  · rename_i hphase
    simp [hphase]
  · cases hp

/-- A read is marked begun only where the phase waits for one, with no segment queued (R136, R139). -/
theorem keeps_readStart (s : State) : Keeps s (readStart s) := by
  unfold readStart
  dsimp only
  split
  · exact .refl s
  · have hread : Keeps s (mapUnit (fun u => { u with reading := true }) s) := Beside.keeps {} {}
    split
    · rename_i hwait
      refine hread.trans ?_
      generalize mapUnit (fun u => { u with reading := true }) s = u at hwait
      obtain ⟨hr, hwork⟩ := awaitsRead_cases hwait
      exact (moves_mapChange _ u).keeps (fun _ h => h) (fun h => ⟨h.1, h.2.1, fun ha _ _ => h.2.2 ha hr hwork⟩)
        fun h => h
    · exact hread

theorem keeps_readComplete (v : Byte) (s : State) : Keeps s (readComplete v s) := by
  unfold readComplete
  split
  · exact Keeps.trans (Beside.keeps {} {}) (keeps_identityRead _)
  · exact .refl s

theorem keeps_phaseExpire (w : State → Phase → Option ChangeCause) (s : State) : Keeps s (phaseExpire w s) := by
  unfold phaseExpire
  dsimp only
  split
  · split
    · split
      · exact keeps_failPhase _ _ s
      · exact .refl s
    · exact .refl s
  · exact .refl s

theorem keeps_permitTimer (s : State) :
    Keeps s (if s.due s.motion.permitTimer then permitExpire false s else s) := by
  split
  · exact keeps_permitExpire _ s
  · exact .refl s

theorem keeps_attemptStart (s : State) : Keeps s (if lineIdle s then beginAttempt s else s) := by
  split
  · exact keeps_beginAttempt s
  · exact .refl s

theorem keeps_duplicateNumber (sof : Tick) (s : State) :
    Keeps s (if followsFrames s then duplicateFound sof s else s) := by
  split
  · exact keeps_duplicateFound sof s
  · exact .refl s

theorem keeps_travelEnd (i : Fin 4) (e : TravelEnd) (active : Bool) (s : State) :
    Keeps s (if active && s.live i then motionFault i (endCause e) s else s) := by
  split
  · exact keeps_motionFault _ _ s
  · exact .refl s

/-! ### The end of a full reset -/

/-- Every invariant of the station. -/
structure Invariants (s : State) : Prop where
  queue : QueueBounded s
  points : PointsBounded s
  rings : RingsBounded s
  drives : DrivesSafe s
  stopped : StoppedMotionEmpty s
  shaped : QueueShaped s
  zones : ZonesSafe s
  table : TableSafe s
  rise : BoundariesRise s

theorem Invariants.keeps {s t : State} (h : Invariants t) : Keeps s t :=
  ⟨⟨fun _ => h.queue, fun _ => h.points, fun _ => h.rings, fun _ => h.drives, fun _ => h.stopped, fun _ => h.shaped,
    fun _ => h.table, fun _ => h.rise⟩, fun _ => h.zones⟩

/-- The units that the invariants speak of, with the values of their tables. -/
theorem invariants_of_tables {s : State} {unlock : Bool} (axes : s.axes = Vector.replicate 4 Axis.afterReset)
    (motion : s.motion = Sequencer.afterReset) (zones : s.zones = ZoneUnit.afterReset)
    (probes : s.probes = ProbeUnit.afterReset unlock) (points : s.capture.points = [])
    (requests : s.capture.requests = []) (failures : s.line.failures = 0) (mutes : s.line.mutes = 0)
    (gate : s.pins.driveEnable = false → s.gate ≠ .normal) : Invariants s := by
  have hq : s.motion.queue = [] := by rw [motion]; rfl
  have ha : s.probes.change.active = false := by rw [probes]; rfl
  have hidle : Idle s := ⟨hq, ha⟩
  have htail : TailQueued s := by simp [TailQueued, hq]
  have haxis (i : Fin 4) : s.axis i = Axis.afterReset := by
    rw [State.axis, axes]
    fin_cases i <;> rfl
  have hrecord (i : Fin 16) : s.probes.table.get i = ProbeRecord.empty := by
    rw [probes]
    fin_cases i <;> rfl
  exact
    { queue := ⟨by simp [hq], fun _ => by simp [hq], fun _ _ _ => hq⟩
      points := ⟨htail, by simp [points], fun _ => by simp [points]⟩
      rings := ⟨fun i => by simp [haxis, Axis.afterReset], by simp [requests], by simp [failures], by simp [mutes]⟩
      drives := ⟨fun _ i => by simp [haxis, Axis.afterReset], fun i _ => by simp [haxis, Axis.afterReset]⟩
      stopped := fun _ => ⟨gate, fun _ => hidle⟩
      shaped := ⟨htail, fun seg rest h => by rw [hq] at h; cases h⟩
      zones := ⟨htail, fun _ => hidle, hidle.notMoving.movingHolds⟩
      table := tableSafe_of_inactive (fun i j _ => by simp [hrecord, ProbeRecord.empty]) ha
      rise := by
        rw [BoundariesRise, zones]
        rfl }

theorem invariants_afterReset (x : Straps) (s : State) : Invariants (afterReset x s) := by
  refine invariants_of_tables rfl rfl rfl rfl rfl rfl rfl rfl fun he => ?_
  have hlow : s.pins.driveEnable = false := he
  simp [afterReset, hlow]

theorem invariants_reset : Invariants State.reset :=
  invariants_of_tables (unlock := false) rfl rfl rfl rfl rfl rfl rfl rfl fun he => by cases he

/-! ### Every step -/

theorem keeps_execResetEnd (x : Straps) (s : State) : Keeps s (afterReset x s) := (invariants_afterReset x s).keeps

theorem keeps_next {s u t : State} (hu : Keeps s u) (h : (.next u : Host.Outcome State Fault Refusal) = .next t) :
    Keeps s t := by
  injection h with h
  exact h ▸ hu

/-- A command carried out keeps every invariant. -/
theorem keeps_exec (c : Instr) {s t : State} (h : exec c s = .next t) : Keeps s t := by
  cases c with
  | fullReset cause tick => exact keeps_next ((keeps_advance tick s).trans (keeps_beginReset _ _)) h
  | resetEnd straps => exact keeps_next (keeps_execResetEnd straps s) h
  | scaleTransition axis a b tick =>
    refine keeps_next ?_ h
    exact keeps_otherInput (fun _ s => keeps_transition _ _ _ _ s) tick s fun _ => rfl
  | endOfTravelInput axis e active tick =>
    refine keeps_next ?_ h
    exact keeps_otherInput (fun _ s => keeps_travelEnd _ _ _ s) tick s fun _ => rfl
  | servoSample tick => exact keeps_next (keeps_timed (fun s _ => keeps_servo s) tick s) h
  | settleTimeout tick => exact keeps_next (keeps_timed (fun s _ => keeps_settleExpire s) tick s) h
  | referenceMark axis tick => exact keeps_next (keeps_timed (fun s _ => keeps_referenceMark axis s) tick s) h
  | driveEnableFall tick => exact keeps_next (keeps_input (fun s _ _ => keeps_driveEnableFall s _) tick s) h
  | driveEnableRise tick =>
    refine keeps_next (keeps_input (fun s hr hp => keeps_driveEnableRise s _ hr ?_ rfl) tick s) h
    by_contra hne
    rw [Bool.not_eq_false] at hne
    exact hp (by rw [← hne])
  | triggerDeflected tick =>
    refine keeps_next ?_ h
    exact keeps_otherInput (fun _ s => keeps_deflect s) tick s fun _ => rfl
  | triggerSeated tick =>
    refine keeps_next ?_ h
    exact keeps_otherInput (fun _ s => Beside.keeps {} {}) tick s fun _ => rfl
  | reseatTimerExpiry tick => exact keeps_next (keeps_timed (fun s _ => keeps_reseatExpire s) tick s) h
  | sensorSlotEnd read tick => exact keeps_next (keeps_timed (fun s _ => keeps_endSlot read s) tick s) h
  | peerTimerExpiry tick => exact keeps_next (keeps_timed (fun s _ => keeps_peerExpire s) tick s) h
  | permitTimerExpiry tick => exact keeps_next (keeps_timed (fun s _ => keeps_permitTimer s) tick s) h
  | companionTimerExpiry point tick =>
    exact keeps_next (keeps_timed (fun s _ => keeps_companionExpire point s) tick s) h
  | claimWindowExpiry tick => exact keeps_next (keeps_timed (fun s _ => keeps_windowExpire s) tick s) h
  | tentativeHoldExpiry tick => exact keeps_next (keeps_timed (fun s _ => keeps_ripen s) tick s) h
  | lockStateInput locked unlocked tick =>
    refine keeps_next ?_ h
    exact keeps_otherInput (fun _ s => keeps_inputsChanged s) tick s fun _ => rfl
  | lidStateInput port o c tick =>
    refine keeps_next ?_ h
    exact keeps_otherInput (fun _ s => keeps_lidChanged _ _ s) tick s fun _ => rfl
  | presenceInput port active tick =>
    refine keeps_next ?_ h
    exact keeps_otherInput (fun _ s => .refl s) tick s fun _ => rfl
  | identityReadStart tick => exact keeps_next (keeps_timed (fun s _ => keeps_readStart s) tick s) h
  | identityReadComplete value tick => exact keeps_next (keeps_timed (fun s _ => keeps_readComplete value s) tick s) h
  | lidTimerExpiry tick | lockTimerExpiry tick | identifyTimerExpiry tick =>
    exact keeps_next (keeps_timed (fun s _ => keeps_phaseExpire _ s) tick s) h
  | muteTimerExpiry tick => exact keeps_next (keeps_timed (fun s _ => keeps_muteExpire s) tick s) h
  | listenQuietCount tick => exact keeps_next (keeps_timed (fun s _ => keeps_listenQuiet s) tick s) h
  | attemptStart tick => exact keeps_next (keeps_timed (fun s _ => keeps_attemptStart s) tick s) h
  | arbitrationLost tick =>
    exact keeps_next (keeps_timed (fun s _ => keeps_withAttempt keeps_loseAttempt s) tick s) h
  | attemptSuccess tick =>
    exact keeps_next (keeps_timed (fun s _ => keeps_withAttempt keeps_succeedAttempt s) tick s) h
  | attemptFailed quiet tick =>
    exact keeps_next (keeps_timed (fun s _ => keeps_withAttempt (fun a => keeps_failAttempt a quiet) s) tick s) h
  | frameReceiveError bits sof tick => exact keeps_next (keeps_timed (fun s _ => keeps_bitsRead bits sof s) tick s) h
  | duplicateNumber sof tick => exact keeps_next (keeps_timed (fun s _ => keeps_duplicateNumber sof s) tick s) h
  | halt f => exact keeps_next (keeps_receive (fun s _ _ => keeps_sized (keeps_hearHalt f s)) s) h
  | touchReceived f => exact keeps_next (keeps_receive (fun s _ _ => keeps_sized (keeps_hearTouch f s)) s) h
  | zoneObjectReceived f =>
    exact keeps_next (keeps_receive (fun s _ _ => keeps_sized (keeps_takeObject _ _ _ s)) s) h
  | helloReceived f => exact keeps_next (keeps_receive (fun s _ hn => keeps_sized (keeps_hearHello hn)) s) h
  | zoneReleaseReceived f => exact keeps_next (keeps_receive (fun s _ hn => keeps_sized (keeps_freeHeldBy hn _)) s) h
  | zoneClaimReceived f => exact keeps_next (keeps_receive (fun s _ _ => keeps_sized (keeps_hearClaim _ _ s)) s) h
  | companionReceived f => exact keeps_next (keeps_receive (fun s _ _ => keeps_sized (keeps_hearCompanion f s)) s) h
  | permit f => exact keeps_next (keeps_receive (fun s _ _ => keeps_sized (keeps_hearPermit _ s)) s) h
  | tempReceived f => exact keeps_next (keeps_receive (fun s _ _ => keeps_sized (keeps_hearTemp f s)) s) h
  | pointReceived f | replyReceived f | statusReceived f | noticeReceived f | unusedKindFrame f =>
    exact keeps_next (keeps_receive (fun s _ _ => .refl s) s) h
  | movePosition f | moveProbe f =>
    exact keeps_next (keeps_command (fun s ha => keeps_runMove (runAccess_none ha) f) s) h
  | reference f => exact keeps_next (keeps_command (fun s ha => keeps_runReference (runAccess_none ha) f) s) h
  | clear f => exact keeps_next (keeps_command (fun s _ => keeps_runClear f s) s) h
  | probeChange f => exact keeps_next (keeps_command (fun s ha => keeps_runProbeChange (runAccess_none ha) f) s) h
  | probeSet f => exact keeps_next (keeps_command (fun s _ => keeps_runProbeSet f s) s) h
  | datum f => exact keeps_next (keeps_command (fun s _ => keeps_runDatum f s) s) h
  | arm f => exact keeps_next (keeps_command (fun s _ => keeps_runArm f s) s) h
  | disarm f => exact keeps_next (keeps_command (fun s _ => keeps_runDisarm f s) s) h
  | restart f => exact keeps_next (keeps_command (fun s _ => keeps_runRestart f s) s) h
  | queryStation f | queryAxis f | queryZones f | queryChannel f | queryProbe f | queryPort f | queryPoints f =>
    exact keeps_next (keeps_query f s) h
  | setupStation f => exact keeps_next (keeps_command (fun s _ => keeps_runSetupStation f s) s) h
  | setupAxis f => exact keeps_next (keeps_command (fun s _ => keeps_runSetupAxis f s) s) h
  | setupScale f => exact keeps_next (keeps_command (fun s _ => keeps_runSetupScale f s) s) h
  | setupMap f => exact keeps_next (keeps_command (fun s _ => keeps_runSetupMap f s) s) h
  | setupZones f => exact keeps_next (keeps_command (fun s _ => keeps_runSetupZones f s) s) h
  | setupThermal f => exact keeps_next (keeps_command (fun s _ => keeps_runSetupThermal f s) s) h
  | setupLinks f => exact keeps_next (keeps_command (fun s _ => keeps_runSetupLinks f s) s) h
  | setupRack f => exact keeps_next (keeps_command (fun s _ => keeps_runSetupRack f s) s) h

theorem keeps_step {s t : State} (h : step s = .next t) : Keeps s t := by
  unfold step at h
  split at h
  · injection h with h
    exact h ▸ .refl s
  · exact Keeps.trans (Beside.keeps {} {}) (keeps_exec _ h)

/-- Settles O57: each bound is one of the invariants that every operation of a step keeps. -/
theorem everyStepKeepsTheBuffersBounded : Obligations.EveryStepKeepsTheBuffersBounded :=
  ⟨fun _ _ hs h => (keeps_step h).queue hs, fun _ _ hs h => (keeps_step h).points hs,
    fun _ _ hs h => (keeps_step h).rings hs⟩

/-- Settles O58: the drives, the gate, the queue's shape and the zones moved on, each kept by every operation of a
step. -/
theorem everyStepKeepsTheDrivesAndZonesSafe : Obligations.EveryStepKeepsTheDrivesAndZonesSafe :=
  ⟨fun _ _ hs h => (keeps_step h).drives hs, fun _ _ hs h => (keeps_step h).stopped hs,
    fun _ _ hs h => (keeps_step h).shaped hs, fun _ _ hs h => (keeps_step h).zones hs⟩

/-- Settles O59: the probe table and the boundaries, kept by every operation of a step. -/
theorem everyStepKeepsTheProbeTableAndBoundaries : Obligations.EveryStepKeepsTheProbeTableAndBoundaries :=
  ⟨fun _ _ hs h => (keeps_step h).table hs, fun _ _ hs h => (keeps_step h).rise hs⟩

/-- Settles O60: after a reset every unit has the values of its table, of which each invariant holds. -/
theorem invariantsHoldAfterEveryReset : Obligations.InvariantsHoldAfterEveryReset := by
  have hall {s : State} (h : Invariants s) : QueueBounded s ∧ PointsBounded s ∧ RingsBounded s ∧ DrivesSafe s ∧
      StoppedMotionEmpty s ∧ QueueShaped s ∧ ZonesSafe s ∧ TableSafe s ∧ BoundariesRise s :=
    ⟨h.queue, h.points, h.rings, h.drives, h.stopped, h.shaped, h.zones, h.table, h.rise⟩
  exact ⟨hall invariants_reset, fun x s => hall (invariants_afterReset x s)⟩

end Sys2Proof.Machine

/-! What a state is like once a frame has been heard, and what a command or an input comes to, field by field. -/

namespace Sys2Proof.Machine

/-! ### The state once a frame has been heard -/

@[simp] theorem heard_inReset (f : RxFrame) (s : State) : (heard f s).inReset = s.inReset := by simp [heard]
@[simp] theorem heard_pins (f : RxFrame) (s : State) : (heard f s).pins = s.pins := by simp [heard]
@[simp] theorem heard_axisCount (f : RxFrame) (s : State) : (heard f s).axisCount = s.axisCount := by simp [heard]
@[simp] theorem heard_axes (f : RxFrame) (s : State) : (heard f s).axes = s.axes := by simp [heard]
@[simp] theorem heard_latch (f : RxFrame) (s : State) : (heard f s).latch = s.latch := by simp [heard]
@[simp] theorem heard_faultPending (f : RxFrame) (s : State) : (heard f s).faultPending = s.faultPending := by
  simp [heard]
@[simp] theorem heard_gate (f : RxFrame) (s : State) : (heard f s).gate = s.gate := by simp [heard]
@[simp] theorem heard_thermal (f : RxFrame) (s : State) : (heard f s).thermal = s.thermal := by simp [heard]
@[simp] theorem heard_motion (f : RxFrame) (s : State) : (heard f s).motion = s.motion := by simp [heard]
@[simp] theorem heard_zones (f : RxFrame) (s : State) : (heard f s).zones = s.zones := by simp [heard]
@[simp] theorem heard_capture (f : RxFrame) (s : State) : (heard f s).capture = s.capture := by simp [heard]
@[simp] theorem heard_probes (f : RxFrame) (s : State) : (heard f s).probes = s.probes := by simp [heard]
@[simp] theorem heard_notices (f : RxFrame) (s : State) : (heard f s).notices = s.notices := by simp [heard]
@[simp] theorem heard_overrun (f : RxFrame) (s : State) : (heard f s).overrun = s.overrun := by simp [heard]
@[simp] theorem heard_station (f : RxFrame) (s : State) : (heard f s).station = s.station := by simp [heard]
@[simp] theorem heard_pending (f : RxFrame) (s : State) : (heard f s).pending = s.pending := by simp [heard]

@[simp] theorem frameTaken_line_number (f : RxFrame) (s : State) : (frameTaken f s).line.number = s.line.number := by
  unfold frameTaken
  dsimp only
  split <;> rfl

@[simp] theorem frameTaken_line_attempt (f : RxFrame) (s : State) : (frameTaken f s).line.attempt = s.line.attempt := by
  unfold frameTaken
  dsimp only
  split <;> rfl

@[simp] theorem frameTaken_line_state (f : RxFrame) (s : State) :
    (frameTaken f s).line.state = takenState s.line.state := by
  unfold frameTaken
  dsimp only
  split <;> rfl

@[simp] theorem takenState_eq_offline (l : LineState) : takenState l = .offline ↔ l = .offline := by
  cases l <;> decide

@[simp] theorem takenState_joined (l : LineState) : (takenState l).joined = l.joined := by cases l <;> rfl

@[simp] theorem heard_line_number (f : RxFrame) (s : State) : (heard f s).line.number = s.line.number := by
  simp [heard]

@[simp] theorem heard_line_attempt (f : RxFrame) (s : State) : (heard f s).line.attempt = s.line.attempt := by
  simp [heard]

@[simp] theorem heard_joined (f : RxFrame) (s : State) : joined (heard f s) = joined s := by
  simp [heard, joined, Line.progress_joined]

theorem advance_offline (t : Tick) (s : State) : (advance t s).line.state = .offline ↔ s.line.state = .offline := by
  rw [advance_line]
  exact Line.progress_state_eq_iff _ _ _ rfl

@[simp] theorem heard_offline (f : RxFrame) (s : State) :
    (heard f s).line.state = .offline ↔ s.line.state = .offline := by
  rw [heard, frameTaken_line_state, takenState_eq_offline, advance_offline]

@[simp] theorem heard_ampOn (f : RxFrame) (s : State) : ampOn (heard f s) = ampOn s := by
  simp only [ampOn, heard_inReset, heard_station, heard_pins, heard_gate, LineState.bne_offline (heard_offline f s)]

@[simp] theorem heard_axis (f : RxFrame) (s : State) (i : Fin 4) : (heard f s).axis i = s.axis i := by
  simp [State.axis]

@[simp] theorem heard_live (f : RxFrame) (s : State) (i : Fin 4) : (heard f s).live i = s.live i := by
  simp [State.live]

@[simp] theorem heard_liveAxis? (f : RxFrame) (s : State) (n : Nat) : (heard f s).liveAxis? n = s.liveAxis? n := by
  simp [State.liveAxis?]

@[simp] theorem heard_firmZones (f : RxFrame) (s : State) : firmZones (heard f s) = firmZones s :=
  firmZones_congr (by simp) (by simp)

/-- Of the slots a frame heard can place the HELLO alone (R162). -/
theorem heard_slots (f : RxFrame) (s : State) :
    (heard f s).slots = { s.slots with hello := (heard f s).slots.hello } := by
  unfold heard frameTaken
  dsimp only
  split <;> simp

@[simp] theorem heard_slots_touch (f : RxFrame) (s : State) : (heard f s).slots.touch = s.slots.touch := by
  rw [heard_slots]
@[simp] theorem heard_slots_objects (f : RxFrame) (s : State) : (heard f s).slots.objects = s.slots.objects := by
  rw [heard_slots]
@[simp] theorem heard_slots_release (f : RxFrame) (s : State) : (heard f s).slots.release = s.slots.release := by
  rw [heard_slots]
@[simp] theorem heard_slots_claim (f : RxFrame) (s : State) : (heard f s).slots.claim = s.slots.claim := by
  rw [heard_slots]
@[simp] theorem heard_slots_companions (f : RxFrame) (s : State) : (heard f s).slots.companions = s.slots.companions := by
  rw [heard_slots]
@[simp] theorem heard_slots_point (f : RxFrame) (s : State) : (heard f s).slots.point = s.slots.point := by
  rw [heard_slots]
@[simp] theorem heard_slots_replies (f : RxFrame) (s : State) : (heard f s).slots.replies = s.slots.replies := by
  rw [heard_slots]
@[simp] theorem heard_slots_temp (f : RxFrame) (s : State) : (heard f s).slots.temp = s.slots.temp := by
  rw [heard_slots]
@[simp] theorem heard_slots_status (f : RxFrame) (s : State) : (heard f s).slots.status = s.slots.status := by
  rw [heard_slots]
@[simp] theorem heard_slots_notice (f : RxFrame) (s : State) : (heard f s).slots.notice = s.slots.notice := by
  rw [heard_slots]

/-! ### Inputs -/

/-- A change of pins out of reset is an edge (log entry 5). -/
theorem input_edge {pins : Pins → Pins} {body : State → State → State} {t : Tick} {s : State} (h : s.inReset = false)
    (hp : pins s.pins ≠ s.pins) :
    input t pins body s = finish (body (advance t s) { advance t s with pins := pins s.pins }) := by
  unfold input
  simp [hp, h]

/-- Pins that do not change let time pass (log entry 5). -/
theorem input_same {pins : Pins → Pins} {body : State → State → State} {t : Tick} {s : State} (h : s.inReset = false)
    (hp : pins s.pins = s.pins) : input t pins body s = finish (advance t s) := by
  unfold input
  simp [hp, h]

/-- A command whose meaning is a body in time comes to that body's result and the end of the step. -/
theorem next_timed {t : Tick} {body : State → State} {s u : State} (h : s.inReset = false)
    (hu : body (advance t s) = u) :
    (.next (timed t body s) : Host.Outcome State Fault Refusal) = .next (finish u) := by
  rw [timed_awake h, hu]

theorem next_input_edge {pins : Pins → Pins} {body : State → State → State} {t : Tick} {s u : State}
    (h : s.inReset = false) (hp : pins s.pins ≠ s.pins)
    (hu : body (advance t s) { advance t s with pins := pins s.pins } = u) :
    (.next (input t pins body s) : Host.Outcome State Fault Refusal) = .next (finish u) := by
  rw [input_edge h hp, hu]

theorem next_input_same {pins : Pins → Pins} {body : State → State → State} {t : Tick} {s : State}
    (h : s.inReset = false) (hp : pins s.pins = s.pins) :
    (.next (input t pins body s) : Host.Outcome State Fault Refusal) = .next (finish (advance t s)) := by
  rw [input_same h hp]

/-! ### Access (R188) -/

theorem runAccess_run {s : State} {n : Nat} (hm : s.station.mode = .run) (hc : n = s.station.controller) :
    runAccess s n = none := by simp [runAccess, hm, hc]

theorem setupAccess_setup {s : State} {n : Nat} (hm : s.station.mode ≠ .run) : setupAccess s n = none := by
  simp [setupAccess, hm]

theorem anyAccess_none {s : State} {n : Nat} (h : s.station.mode = .run → n = s.station.controller) :
    anyAccess s n = none := by
  simp only [anyAccess, ite_eq_right_iff, reduceCtorEq, imp_false, not_and, not_not]
  exact h

/-- A setup frame past its mode check comes to what its meaning answers. -/
theorem setup_run {kind : Nat} {run : RxFrame → State → Answer} {f : RxFrame} {s : State} (h : Commands kind f s)
    (hm : s.station.mode ≠ .run) :
    command kind setupAccess run f s =
      answered kind f (run f (heard f s)).code (run f (heard f s)).detail (run f (heard f s)).after :=
  command_run h (setupAccess_setup (by simpa using hm))

/-- A command of the controlling station in RUN comes to what its meaning answers. -/
theorem run_run {kind : Nat} {run : RxFrame → State → Answer} {f : RxFrame} {s : State} (h : Commands kind f s)
    (hm : s.station.mode = .run) (hc : f.sender.toNat = s.station.controller) :
    command kind runAccess run f s =
      answered kind f (run f (heard f s)).code (run f (heard f s)).detail (run f (heard f s)).after :=
  command_run h (runAccess_run (by simpa using hm) (by simpa using hc))

/-- A command that SETUP allows too comes to what its meaning answers. -/
theorem any_run {kind : Nat} {run : RxFrame → State → Answer} {f : RxFrame} {s : State} (h : Commands kind f s)
    (hc : s.station.mode = .run → f.sender.toNat = s.station.controller) :
    command kind anyAccess run f s =
      answered kind f (run f (heard f s)).code (run f (heard f s)).detail (run f (heard f s)).after :=
  command_run h (anyAccess_none (by simpa using hc))

/-! ### Operands -/

@[simp] theorem finOf_eq_some {k n : Nat} {i : Fin k} : finOf k n = some i ↔ n = i.val := by
  unfold finOf
  split
  · rename_i h
    rw [Option.some_inj, Fin.ext_iff]
  · rename_i h
    constructor
    · intro he
      cases he
    · intro he
      exact absurd (he ▸ i.isLt) h

@[simp] theorem finOf_eq_none {k n : Nat} : finOf k n = none ↔ k ≤ n := by
  unfold finOf
  split
  · rename_i h
    simp [h]
  · rename_i h
    simpa using h

/-- A byte is a good choice when it is below `k` or 255. -/
theorem choice_good {k n : Nat} : (choice k n).isBad = false ↔ n < k ∨ n = 255 := by
  unfold choice
  split
  · rename_i h
    simp [Choice.isBad, h]
  · rename_i h
    cases hf : finOf k n with
    | some i =>
      rw [finOf_eq_some] at hf
      simp only [Choice.isBad, true_iff]
      exact .inl (hf ▸ i.isLt)
    | none =>
      rw [finOf_eq_none] at hf
      simp only [Choice.isBad, Bool.true_eq_false, false_iff]
      omega

theorem choice_value {k n : Nat} (hk : k ≤ 255) : (choice k n).value = finOf k n := by
  unfold choice
  split
  · rename_i h
    rw [h, eq_comm]
    exact finOf_eq_none.mpr hk
  · cases finOf k n <;> rfl

theorem liveAxis?_some {s : State} {n : Nat} {i : Fin 4} (hn : n = i.val) (hi : s.live i = true) :
    s.liveAxis? n = some i := by
  simp [State.liveAxis?, finOf_eq_some.mpr hn, hi]

theorem liveAxis?_none {s : State} {n : Nat} (h : ¬ (n < s.axisCount ∧ n < 4)) : s.liveAxis? n = none := by
  unfold State.liveAxis?
  cases hf : finOf 4 n with
  | none => rfl
  | some i =>
    rw [finOf_eq_some] at hf
    have hi := i.isLt
    have hlive : s.live i = false := by
      simp only [State.live, decide_eq_false_iff_not]
      omega
    simp [hlive]

theorem liveAxis?_some_iff {s : State} {n : Nat} {i : Fin 4} :
    s.liveAxis? n = some i ↔ n = i.val ∧ s.live i = true := by
  constructor
  · intro h
    unfold State.liveAxis? at h
    split at h
    · rename_i j hj
      split at h
      · rename_i hl
        cases h
        exact ⟨finOf_eq_some.mp hj, hl⟩
      · cases h
    · cases h
  · rintro ⟨hn, hi⟩
    exact liveAxis?_some hn hi

theorem within_iff {lo hi x : Int} : within lo hi x = true ↔ lo ≤ x ∧ x ≤ hi := by simp [within]

@[simp] theorem mem_maskAxes {mask : Nat} {i : Fin 4} : i ∈ maskAxes mask ↔ mask.testBit i.val = true := by
  simp [maskAxes]

end Sys2Proof.Machine

/-! Time, the front of the queue, the axis inputs, the sensor slot, and the setup frames of one axis. -/

namespace Sys2Proof.Machine

/-! ### Steps and time -/

theorem exec_next (c : Instr) (s : State) : ∃ t, exec c s = .next t := by
  cases c <;> exact ⟨_, rfl⟩

/-- Settles O1: a step unfolds to the meaning of the front command, and every meaning answers a next state. -/
theorem stepTakesTheFrontCommand : Obligations.StepTakesTheFrontCommand :=
  ⟨⟨fun _ _ _ => rfl, fun s h => by simp [step, h]⟩, exec_next⟩

/-- Settles O2: the cases of the line's own progress with time. -/
theorem commandTimePasses : Obligations.CommandTimePasses := by
  intro t s
  have hlt := (t - s.tick).isLt
  have hup : (advance t s).uptime = s.uptime + (t - s.tick).toNat := advance_uptime t s
  have hline : (advance t s).line = s.line.progress (advance t s).uptime := rfl
  refine ⟨advance_tick t s, by omega, by omega, ?_, fun hne => ?_, fun x hx => ?_, fun d hx hd => ?_, fun hx hd => ?_⟩
  · change { s with uptime := _, freeIx := _, line := s.line.progress _ } = _
    rw [Line.progress_eq]
    rfl
  · have hjoined : s.line.state.joined = true := by
      by_contra h
      exact hne (Line.progress_state_of_not_joined _ _ (by simpa using h))
    exact ⟨hjoined, (Line.progress_joined _ _).trans hjoined⟩
  all_goals rw [hline]
  · simp only [Line.progress, hx]
    split <;> rfl
  · simp only [Line.progress, hx, hd, and_comm]
    split <;> rfl
  · simp only [Line.progress, hx, hd]

/-- Settles O3: differences of 32-bit ticks, and the durations as computed. -/
theorem ticksCompareModulo : Obligations.TicksCompareModulo := by
  refine ⟨fun _ => rfl, fun a b => ⟨?_, ?_, ?_⟩, by decide⟩
  · constructor
    · intro h
      bv_omega
    · rintro rfl
      simp
  · simp only [Tick.later, Bool.and_eq_true, decide_eq_true_eq]
    omega
  · simp [Tick.earlier]

/-! ### Scale and end of travel (R7, R8, R10) -/

/-- One phase changed by itself counts up when A leads B (R7; log entry 28). -/
theorem phase_leads {a b x y : Bool} (h : a ≠ x ↔ b = y) :
    (phaseIndex a b == phaseIndex x y + 1) = if a ≠ x then x == y else x != y := by
  revert h
  cases a <;> cases b <;> cases x <;> cases y <;> decide

theorem mapChannelPins_ne {i : Fin 4} {f : ChannelPins → ChannelPins} {p : Pins}
    (h : f (p.channels.get i) ≠ p.channels.get i) : mapChannelPins i f p ≠ p := by
  intro he
  have hc := congrArg (fun q : Pins => q.channels.get i) he
  simp only [mapChannelPins, vector_get_set, if_true] at hc
  exact h hc

theorem mapChannelPins_same {i : Fin 4} {f : ChannelPins → ChannelPins} {p : Pins}
    (h : f (p.channels.get i) = p.channels.get i) : mapChannelPins i f p = p := by
  have hset : p.channels.set i.val (p.channels.get i) = p.channels := Vector.set_getElem_self _
  simp only [mapChannelPins, h, hset]

/-- Settles O5: the branches of a transition, once the pins have changed. -/
theorem scaleTransitionCountsOrFaults : Obligations.ScaleTransitionCountsOrFaults := by
  intro i a b t s hr old u up x
  have hedge (h : a ≠ old.phaseA ∨ b ≠ old.phaseB) :
      exec (.scaleTransition i a b t) s = .next (finish (transition i old a b u)) := by
    refine next_input_edge hr (mapChannelPins_ne fun he => ?_) rfl
    rw [ChannelPins.mk.injEq] at he
    rcases h with h | h
    · exact h he.1
    · exact h he.2.1
  have hone (hone : a ≠ old.phaseA ↔ b = old.phaseB) : a ≠ old.phaseA ∨ b ≠ old.phaseB := by
    by_cases ha : a = old.phaseA
    · exact .inr fun hb => hone.mpr hb ha
    · exact .inl ha
  have hcount (hl : s.live i = true) (h : a ≠ old.phaseA ↔ b = old.phaseB) :
      transition i old a b u = count i up u := by
    have hboth : ¬ (a ≠ old.phaseA ∧ b ≠ old.phaseB) := fun ⟨ha, hb⟩ => hb (h.mp ha)
    have hlive : u.live i = true := hl
    rw [transition, if_neg (by simp [hlive]), if_neg hboth, phase_leads h]
  refine ⟨fun hl h hx => ?_, fun hl h hx => ?_, fun hl ha hb => ?_, fun hl h => ?_, fun ha hb => ?_⟩
  · rw [hedge (hone h), hcount hl h, show count i up u = _ from if_pos hx]
    rfl
  · rw [hedge (hone h), hcount hl h, show count i up u = _ from
      if_neg fun he : inInt32 x = true => by rw [hx] at he; cases he]
    rfl
  · have hlive : u.live i = true := hl
    rw [hedge (.inl ha), transition, if_neg (by simp [hlive]), if_pos ⟨ha, hb⟩]
    rfl
  · have hlive : u.live i = false := hl
    rw [hedge h, transition, if_pos (by simp [hlive])]
  · exact next_input_same hr (mapChannelPins_same (by simp only [ha, hb]; rfl))

theorem setEnd_min_eq (active : Bool) (x : ChannelPins) : setEnd .min active x = x ↔ x.atMin = active := by
  cases x
  simp [setEnd, eq_comm]

theorem setEnd_max_eq (active : Bool) (x : ChannelPins) : setEnd .max active x = x ↔ x.atMax = active := by
  cases x
  simp [setEnd, eq_comm]

/-- Settles O7: the input's edge, and the motion fault of a live channel. -/
theorem endOfTravelFaultsOnGoingActive : Obligations.EndOfTravelFaultsOnGoingActive := by
  refine ⟨fun i e active t s hr => ?_, fun _ _ => rfl⟩
  intro old level new u cause
  have hlevel : level = active ↔ setEnd e active old = old := by
    cases e
    · exact (setEnd_min_eq _ _).symm
    · exact (setEnd_max_eq _ _).symm
  by_cases h : level = active
  · rw [if_neg (fun hx => hx.1 h), if_neg (fun hne => hne h)]
    exact next_input_same hr (mapChannelPins_same (hlevel.mp h))
  · have hedge : exec (.endOfTravelInput i e active t) s =
        .next (finish (if active && u.live i then motionFault i (endCause e) u else u)) := by
      have hne : mapChannelPins i (setEnd e active) s.pins ≠ s.pins :=
        mapChannelPins_ne fun he => h (hlevel.mpr he)
      cases e <;> exact next_input_edge hr hne rfl
    have hcause : endCause e = cause := by cases e <;> rfl
    have hlive : u.live i = s.live i := rfl
    rw [hedge, hcause, hlive]
    by_cases hfault : active = true ∧ s.live i = true
    · rw [if_pos (by simp [hfault.1, hfault.2] : (active && s.live i) = true), if_pos ⟨h, hfault.1, hfault.2⟩]
    · rw [if_neg (by simpa using hfault : ¬ (active && s.live i) = true), if_neg (fun hx => hfault hx.2), if_pos h]

/-! ### The reference mark (R17) -/

theorem fit32_eq {n : Nat} {x : Int} (h : inInt32 x = true) : fit32 n x = x := if_pos h

/-- Settles O9: within the signed 32-bit range the sums are exact. -/
theorem referenceMarkOffsetsItsAxis : Obligations.ReferenceMarkOffsetsItsAxis := by
  constructor
  · intro i t s seg rest hr hq hstate hkind haxis hmark hlive a d hpos hdem hring seg'
    have hpos' : a.position + d = a.record.refValue := by
      simp only [d]
      omega
    have hd : seg.driving = true := by rcases hstate with h | h <;> simp [Segment.driving, h]
    refine next_timed hr ?_
    have hoffset : offsetAxis (advance t s).freeIx d a = { a with
        position := a.record.refValue
        demand := a.demand + d
        ring := a.ring.map fun e => { e with count := e.count + d }
        referenced := true } := by
      have hcounts : a.ring.map (fun e => { e with count := fit32 (advance t s).freeIx (e.count + d) }) =
          a.ring.map fun e => { e with count := e.count + d } :=
        List.map_congr_left fun e he => by rw [fit32_eq (hring e he)]
      rw [offsetAxis, hcounts, hpos', fit32_eq hpos, fit32_eq hdem]
    have hguard : (seg.driving && seg.kind == .reference && seg.axis == i && !seg.traj.marked &&
        (advance t s).live i) = true := by
      have hl : (advance t s).live i = true := hlive
      simp [hd, hkind, haxis, hmark, hl]
    have haxis' : (advance t s).axis i = a := rfl
    unfold referenceMark
    rw [advance_motion, hq]
    dsimp only
    rw [if_pos hguard, haxis', hoffset, mapHead_cons (seg := seg) (rest := rest) (by simpa using hq)]
    rfl
  · intro i t s hr h
    refine next_timed hr ?_
    unfold referenceMark
    rw [advance_motion]
    cases hq : s.motion.queue with
    | nil => rfl
    | cons seg rest =>
      have hl : (advance t s).live i = s.live i := rfl
      dsimp only
      rw [if_neg]
      simp only [hl, Segment.driving, Bool.and_eq_true, Bool.or_eq_true, beq_iff_eq, Bool.not_eq_true']
      rintro ⟨⟨⟨⟨hstate, hkind⟩, haxis⟩, hmark⟩, hlive⟩
      have hno := h seg rest hq hstate hkind haxis hmark
      rw [hlive] at hno
      cases hno

/-! ### The sensor slot (R23) -/

/-- Settles O14: the slot's read, the round and the next slot, one after the other. -/
theorem sensorSlotEndAppliesItsRead : Obligations.SensorSlotEndAppliesItsRead := by
  intro read t s hr c r a b d
  refine next_timed hr ?_
  have hslot : applySlot read a = b := by
    have hreading : a.thermal.reading = s.thermal.reading := rfl
    unfold applySlot
    rw [hreading]
    simp only [b]
    split
    · by_cases h2 : r.2 = true
      · refine (if_pos h2).trans ?_
        rw [if_pos h2]
        rfl
      · refine (if_neg h2).trans ?_
        rw [if_neg h2]
        rfl
    · rfl
  have hb : b.thermal.publish = s.thermal.publish ∧ b.line = a.line ∧ b.slots = s.slots ∧
      b.thermal.mask = s.thermal.mask := by
    simp only [b]
    split
    · exact ⟨rfl, rfl, rfl, rfl⟩
    · exact ⟨rfl, rfl, rfl, rfl⟩
  obtain ⟨hpub, hline, hslots, hmask⟩ := hb
  have hround : (if c = 15 then roundEnd b else b) = d := by
    have hj : joined b = joined s := by
      rw [joined, hline]
      exact advance_joined t s
    have hf : inFlight b .temp = inFlight s .temp := by
      simp [inFlight, hline, a]
    simp only [d, roundEnd, hpub, hj, hf, hslots]
    by_cases hc : c = 15
    · by_cases hp : (s.thermal.publish && joined s) = true
      · rw [if_pos hc, if_pos hp, if_pos ⟨hc, by simpa using hp⟩]
      · rw [if_pos hc, if_neg hp, if_neg fun h => hp (by simpa using h.2)]
    · rw [if_neg hc, if_neg fun h => hc h.1]
  have hdmask : d.thermal.mask = s.thermal.mask := by
    simp only [d]
    split
    · exact hmask
    · exact hmask
  change endSlot read a = _
  unfold endSlot
  dsimp only
  rw [hslot, show a.thermal.slot = c from rfl, hround, hdmask]

end Sys2Proof.Machine

/-! The commands that set the station up: each is refused by its form, or writes what it carries. -/

namespace Sys2Proof.Machine

/-! ### Access (R188) -/

/-- A command with no reply slot left is turned away (R169). -/
theorem command_overrun {kind : Nat} {access : State → Nat → Option ReplyCode} {run : RxFrame → State → Answer}
    {f : RxFrame} {s : State} (h : Hears kind f s) (hp : f.payload ≠ [])
    (ha : byteAt f.payload 0 = s.line.number ∨ byteAt f.payload 0 = 0) (h0 : s.slots.replies.get 0 ≠ none)
    (h1 : s.slots.replies.get 1 ≠ none) :
    command kind access run f s = settled { heard f s with overrun := true, overrunSince := true } := by
  have hto : addressed (heard f s) (byteAt f.payload 0) = true := by
    rcases ha with e | e <;> simp [addressed, e]
  have hheld : repliesHeld (heard f s) = true := by
    simp [repliesHeld, Option.isSome_iff_ne_none, h0, h1]
  unfold command
  rw [receive_hears h, if_neg hp, if_neg (by simp [hto]), if_pos hheld]
  rfl

/-- A command without a destination, or for another station, is ignored (R167, R168). -/
theorem command_ignored {kind : Nat} {access : State → Nat → Option ReplyCode} {run : RxFrame → State → Answer}
    {f : RxFrame} {s : State} (h : Hears kind f s)
    (hp : f.payload = [] ∨ (byteAt f.payload 0 ≠ s.line.number ∧ byteAt f.payload 0 ≠ 0)) :
    command kind access run f s = settled (heard f s) := by
  unfold command
  rw [receive_hears h]
  by_cases hnil : f.payload = []
  · rw [if_pos hnil]
  · obtain ⟨hn, h0⟩ := hp.resolve_left hnil
    rw [if_neg hnil, if_pos (by simp [addressed, hn, h0])]

theorem runAccess_outside {s : State} {n : Nat} (hm : s.station.mode ≠ .run) : runAccess s n = some .wrongState := by
  simp [runAccess, hm]

theorem runAccess_other {s : State} {n : Nat} (hm : s.station.mode = .run) (hc : n ≠ s.station.controller) :
    runAccess s n = some .notController := by simp [runAccess, hm, hc]

theorem anyAccess_other {s : State} {n : Nat} (hm : s.station.mode = .run) (hc : n ≠ s.station.controller) :
    anyAccess s n = some .notController := by simp [anyAccess, hm, hc]

theorem setupAccess_run {s : State} {n : Nat} (hm : s.station.mode = .run) :
    setupAccess s n = some .wrongState := by simp [setupAccess, hm]

/-- The rows of a table of commands are commands of their kinds under one access check. -/
def CommandRows (access : State → Nat → Option ReplyCode) (rows : List (Nat × (RxFrame → Instr))) : Prop :=
  ∀ k cmd, (k, cmd) ∈ rows → ∃ run, ∀ f s, exec (cmd f) s = .next (command k access run f s)

theorem motion_rows : CommandRows runAccess [(9, .movePosition), (9, .moveProbe), (10, .reference), (12, .probeChange),
    (14, .datum), (16, .disarm)] := by
  intro k cmd h
  simp only [List.mem_cons, Prod.mk.injEq, List.not_mem_nil, or_false] at h
  rcases h with ⟨rfl, rfl⟩ | ⟨rfl, rfl⟩ | ⟨rfl, rfl⟩ | ⟨rfl, rfl⟩ | ⟨rfl, rfl⟩ | ⟨rfl, rfl⟩ <;>
    exact ⟨_, fun _ _ => rfl⟩

theorem either_rows : CommandRows anyAccess [(11, .clear), (13, .probeSet), (17, .restart)] := by
  intro k cmd h
  simp only [List.mem_cons, Prod.mk.injEq, List.not_mem_nil, or_false] at h
  rcases h with ⟨rfl, rfl⟩ | ⟨rfl, rfl⟩ | ⟨rfl, rfl⟩ <;> exact ⟨_, fun _ _ => rfl⟩

theorem setup_rows : CommandRows setupAccess [(15, .arm), (19, .setupStation), (20, .setupAxis), (21, .setupScale),
    (22, .setupMap), (23, .setupZones), (24, .setupThermal), (25, .setupLinks), (26, .setupRack)] := by
  intro k cmd h
  simp only [List.mem_cons, Prod.mk.injEq, List.not_mem_nil, or_false] at h
  rcases h with ⟨rfl, rfl⟩ | ⟨rfl, rfl⟩ | ⟨rfl, rfl⟩ | ⟨rfl, rfl⟩ | ⟨rfl, rfl⟩ | ⟨rfl, rfl⟩ | ⟨rfl, rfl⟩ | ⟨rfl, rfl⟩ |
    ⟨rfl, rfl⟩ <;> exact ⟨_, fun _ _ => rfl⟩

/-- Settles O56: every row is a command under its access check, which refuses before anything is done. -/
theorem accessChecksRefuseByModeAndSender : Obligations.AccessChecksRefuseByModeAndSender := by
  intro k cmd f s
  refine ⟨fun hc hrow hm => ?_, fun hc hrow hm hs => ?_, fun hc hrow hm => ?_, fun hh hrow => ⟨?_, ?_⟩⟩
  · obtain ⟨run, hrun⟩ := motion_rows k cmd hrow
    rw [hrun, command_refused hc (runAccess_outside (by simpa using hm))]
  · rcases List.mem_append.mp hrow with hrow | hrow
    · obtain ⟨run, hrun⟩ := motion_rows k cmd hrow
      rw [hrun, command_refused hc (runAccess_other (by simpa using hm) (by simpa using hs))]
    · obtain ⟨run, hrun⟩ := either_rows k cmd hrow
      rw [hrun, command_refused hc (anyAccess_other (by simpa using hm) (by simpa using hs))]
  · obtain ⟨run, hrun⟩ := setup_rows k cmd hrow
    rw [hrun, command_refused hc (setupAccess_run (by simpa using hm))]
  all_goals
    have hany : ∃ access run, ∀ f s, exec (cmd f) s = .next (command k access run f s) := by
      rcases List.mem_append.mp hrow with hrow | hrow
      · rcases List.mem_append.mp hrow with hrow | hrow
        · exact ⟨_, motion_rows k cmd hrow⟩
        · exact ⟨_, either_rows k cmd hrow⟩
      · exact ⟨_, setup_rows k cmd hrow⟩
    obtain ⟨access, run, hrun⟩ := hany
    rw [hrun]
  · intro hp ha h0 h1
    rw [command_overrun hh hp ha h0 h1]
  · intro hp
    rw [command_ignored hh hp]

/-! ### Setup frames answered -/

/-- A setup frame in good form is answered DONE with what it writes. -/
theorem setup_done {kind : Nat} {run : RxFrame → State → Answer} {f : RxFrame} {s u : State} (h : Commands kind f s)
    (hm : s.station.mode ≠ .run) (hr : run f (heard f s) = doneAnswer u) :
    (.next (command kind setupAccess run f s) : Host.Outcome State Fault Refusal) =
      .next (answered kind f .done 0 u) := by
  rw [setup_run h hm, hr]
  rfl

/-- A setup frame in bad form is refused. -/
theorem setup_bad {kind : Nat} {run : RxFrame → State → Answer} {f : RxFrame} {s : State} (h : Commands kind f s)
    (hm : s.station.mode ≠ .run) (hr : run f (heard f s) = refuse .badValue (heard f s)) :
    (.next (command kind setupAccess run f s) : Host.Outcome State Fault Refusal) =
      .next (answered kind f .badValue 0 (heard f s)) := by
  rw [setup_run h hm, hr]
  rfl

theorem scaleForm_iff (p : List Byte) : scaleForm p = true ↔ p.length = 17 ∧ -5000 ≤ s32At p 2 ∧ s32At p 2 ≤ 40000 ∧
    (byteAt p 6 < 16 ∨ byteAt p 6 = 255) ∧ 8 ≤ byteAt p 11 ∧ byteAt p 11 ≤ 22 ∧
    (byteAt p 12 < 3 ∨ byteAt p 12 = 255) := by
  simp only [scaleForm, Bool.and_eq_true, beq_iff_eq, within_iff, Bool.not_eq_true', choice_good]
  omega

/-- Nodes written from `first` upward read back, and the others are as before (R42). -/
theorem writeNodes_get (nodes : Vector Int 65) (first : Nat) (l : List Int) (j : Fin 65) :
    (writeNodes nodes first l).get j =
      if h : first ≤ j.val ∧ j.val < first + l.length then l[j.val - first]'(by omega) else nodes.get j := by
  induction l generalizing nodes first with
  | nil => simp [writeNodes]
  | cons v rest ih =>
    rw [writeNodes, ih]
    by_cases hj : j.val = first
    · rw [dif_neg (by omega), dif_pos (by simp; omega)]
      simp [Vector.get_eq_getElem, hj]
    · by_cases hin : first + 1 ≤ j.val ∧ j.val < first + 1 + rest.length
      · rw [dif_pos hin, dif_pos (by simp; omega)]
        obtain ⟨k, hk⟩ := Nat.exists_eq_add_of_le hin.1
        have hk1 : j.val - first = k + 1 := by omega
        have hk2 : j.val - (first + 1) = k := by omega
        simp [hk1, hk2]
      · rw [dif_neg hin, dif_neg (by simp; omega)]
        simp [Vector.get_eq_getElem, Ne.symm hj]

theorem mapForm_iff (p : List Byte) : mapForm p = true ↔ 5 ≤ p.length ∧ (p.length - 3) % 2 = 0 ∧ byteAt p 2 ≤ 64 ∧
    byteAt p 2 + (p.length - 3) / 2 ≤ 65 := by
  simp only [mapForm, Bool.and_eq_true, decide_eq_true_eq, beq_iff_eq, and_assoc]
  rfl

theorem not_scale_axis {s : State} {n : Nat} {ok : Prop} {form : Bool} (hform : form = true ↔ ok)
    (h : ¬ (n < s.axisCount ∧ n < 4 ∧ ok)) : s.liveAxis? n = none ∨ form = false := by
  by_cases hn : n < s.axisCount ∧ n < 4
  · refine .inr ?_
    by_contra hf
    exact h ⟨hn.1, hn.2, hform.mp (by simpa using hf)⟩
  · exact .inl (liveAxis?_none hn)

/-- Settles O18: each form checked whole, and the record written whole. -/
theorem setupScaleAndMapWriteOneAxis : Obligations.SetupScaleAndMapWriteOneAxis := by
  constructor
  · intro f s hc hm p ok
    have hform : scaleForm p = true ↔ ok := scaleForm_iff p
    refine ⟨fun i hi hl hok => ?_, fun hno => ?_⟩
    · refine setup_done hc hm ?_
      have hlive : (heard f s).liveAxis? (byteAt f.payload 1) = some i := by
        rw [heard_liveAxis?]
        exact liveAxis?_some hi hl
      rw [runSetupScale, hlive]
      dsimp only
      rw [if_pos (hform.mpr hok)]
      simp only [writeScale, heard_axis, choice_value (show 16 ≤ 255 by omega), choice_value (show 3 ≤ 255 by omega)]
      rfl
    · refine setup_bad hc hm ?_
      rcases not_scale_axis hform hno with hnone | hbad
      · rw [runSetupScale, heard_liveAxis?, hnone]
      · rw [runSetupScale]
        split
        · rw [if_neg (by simpa using hbad)]
        · rfl
  · intro f s hc hm p k ok
    have hform : mapForm p = true ↔ ok := mapForm_iff p
    refine ⟨fun i hi hl hok => ?_, fun hno => ?_⟩
    · refine ⟨writeNodes (s.axis i).comp.nodes (byteAt p 2) (nodeValues p), setup_done hc hm ?_, fun j => ?_⟩
      · have hlive : (heard f s).liveAxis? (byteAt f.payload 1) = some i := by
          rw [heard_liveAxis?]
          exact liveAxis?_some hi hl
        rw [runSetupMap, hlive]
        dsimp only
        rw [if_pos (hform.mpr hok)]
        simp only [writeMap, heard_axis]
        rfl
      · rw [writeNodes_get]
        have hlen : (nodeValues p).length = k := by simp [nodeValues, nodeCount, k]
        simp only [hlen]
        split
        · rename_i hj
          simp [nodeValues]
        · rfl
    · refine setup_bad hc hm ?_
      rcases not_scale_axis hform hno with hnone | hbad
      · rw [runSetupMap, heard_liveAxis?, hnone]
      · rw [runSetupMap]
        split
        · rw [if_neg (by simpa using hbad)]
        · rfl

/-! ### SETUP ZONES (R83) -/

theorem rising_iff (l : List Int) : rising l = true ↔ l.Pairwise (· < ·) := by
  induction l with
  | nil => simp [rising]
  | cons a l ih =>
    cases l with
    | nil => simp [rising]
    | cons b l =>
      rw [rising, Bool.and_eq_true, decide_eq_true_eq, ih, List.pairwise_cons (a := a)]
      constructor
      · rintro ⟨hab, hl⟩
        refine ⟨fun x hx => ?_, hl⟩
        rcases List.mem_cons.mp hx with rfl | hx
        · exact hab
        · exact hab.trans ((List.pairwise_cons.mp hl).1 x hx)
      · rintro ⟨ha, hl⟩
        exact ⟨ha b (by simp), hl⟩

theorem boundaryIds_pairwise (R : Fin 15 → Fin 15 → Prop) : boundaryIds.Pairwise R ↔ ∀ i j, i < j → R i j := by
  have hids : boundaryIds = List.finRange 15 := by decide
  rw [hids, List.pairwise_iff_getElem]
  constructor
  · intro h i j hij
    have hk := h i.val j.val (by simp) (by simp) hij
    simpa using hk
  · intro h i j hi hj hij
    simp only [List.getElem_finRange]
    exact h _ _ hij

/-- The loaded boundaries rise when every two of them do (R83). -/
theorem rising_loadedValues (b : Vector Int 15) (m : Vector Bool 15) :
    rising (loadedValues b m) = true ↔
      ∀ i j : Fin 15, i < j → m.get i = true → m.get j = true → b.get i < b.get j := by
  rw [rising_iff, loadedValues, List.pairwise_map, List.pairwise_filter, boundaryIds_pairwise]

/-- Settles O35: the form and the rise of the new table are what the check looks at. -/
theorem setupZonesKeepsLoadedBoundariesRising : Obligations.SetupZonesKeepsLoadedBoundariesRising := by
  intro f s hc hm p first n form written table marks rises
  have hform : zonesForm s.zones p = true ↔ form ∧ rises := by
    have hrise : rising (loadedValues (newBoundaries s.zones p) (newLoaded s.zones p)) = true ↔ rises :=
      rising_loadedValues _ _
    simp only [zonesForm, Bool.and_eq_true, hrise, form, within_iff, decide_eq_true_eq, beq_iff_eq]
    rw [boundaryCount]
    refine and_congr_left fun _ => ?_
    omega
  refine ⟨fun hf hr => setup_done hc hm ?_, fun hno => setup_bad hc hm ?_⟩
  · rw [runSetupZones, heard_zones, if_pos (hform.mpr ⟨hf, hr⟩)]
    unfold writeZones
    rw [heard_zones]
    rfl
  · rw [runSetupZones, heard_zones, if_neg fun h => hno (hform.mp h)]

end Sys2Proof.Machine

/-! CLEAR, DATUM, ARM, DISARM and RESTART: what each is answered, and what it leaves. -/

namespace Sys2Proof.Machine

/-- A command past its access check comes to what its meaning answers. -/
theorem next_command {kind : Nat} {access : State → Nat → Option ReplyCode} {run : RxFrame → State → Answer}
    {f : RxFrame} {s : State} {a : Answer} (h : Commands kind f s)
    (ha : access (heard f s) f.sender.toNat = none) (hr : run f (heard f s) = a) :
    (.next (command kind access run f s) : Host.Outcome State Fault Refusal) =
      .next (answered kind f a.code a.detail a.after) := by
  rw [command_run h ha, hr]

theorem setupAccess_heard {f : RxFrame} {s : State} {n : Nat} (hm : s.station.mode ≠ .run) :
    setupAccess (heard f s) n = none := setupAccess_setup (by simpa using hm)

theorem runAccess_heard {f : RxFrame} {s : State} {n : Nat} (hm : s.station.mode = .run)
    (hc : n = s.station.controller) : runAccess (heard f s) n = none :=
  runAccess_run (by simpa using hm) (by simpa using hc)

theorem anyAccess_heard {f : RxFrame} {s : State} {n : Nat}
    (h : s.station.mode = .run → n = s.station.controller) : anyAccess (heard f s) n = none :=
  anyAccess_none (by simpa using h)

@[simp] theorem heard_motionState (f : RxFrame) (s : State) : motionState (heard f s) = motionState s := by
  simp [motionState]

theorem Commands.heard_noAttempt {kind : Nat} {f : RxFrame} {s : State} (h : Commands kind f s) :
    (heard f s).line.attempt = none := by rw [heard_line_attempt, h.noAttempt]

theorem not_inFlight {s : State} {id : SlotId} (h : s.line.attempt = none) : inFlight s id = false := by
  simp [inFlight, h]

theorem State.mapAxes_congr {f g : Fin 4 → Axis → Axis} {s : State} (h : ∀ i, f i (s.axis i) = g i (s.axis i)) :
    s.mapAxes f = s.mapAxes g := by
  unfold State.mapAxes
  congr 1
  exact congrArg tab4 (funext h)

theorem vector_ext_get {α : Type} {n : Nat} {v w : Vector α n} (h : ∀ i : Fin n, v.get i = w.get i) : v = w := by
  ext i hi
  exact h ⟨i, hi⟩

theorem State.mapAxes_id {f : Fin 4 → Axis → Axis} {s : State} (h : ∀ i, f i (s.axis i) = s.axis i) :
    s.mapAxes f = s := by
  have haxes : (s.mapAxes f).axes = s.axes := vector_ext_get fun i => (State.axis_mapAxes f s i).trans (h i)
  calc s.mapAxes f = { s with axes := (s.mapAxes f).axes } := rfl
    _ = s := by rw [haxes]

/-! ### CLEAR (R21) -/

theorem runClear_faulted {f : RxFrame} {s : State} (hl : f.payload.length = 1) (hd : s.pins.driveEnable = true)
    (hg : s.gate = .faulted) :
    runClear f s = doneAnswer (holdAtPositions { s with faultPending := false, gate := .normal }) := by
  simp [runClear, hl, hd, hg]

theorem runClear_unfaulted {f : RxFrame} {s : State} (hl : f.payload.length = 1) (hd : s.pins.driveEnable = true)
    (hg : s.gate ≠ .faulted) : runClear f s = doneAnswer { s with faultPending := false } := by
  simp [runClear, hl, hd, hg]

theorem holdAtPositions_eq (s : State) : holdAtPositions s = if ampOn s = true then
    s.mapAxes fun i a => if s.live i then { a with demand := a.position } else a else s := rfl

/-- Settles O12: by the access check, the length, the drive-enable input and the gate. -/
theorem clearLeavesFaulted : Obligations.ClearLeavesFaulted := by
  refine ⟨fun f s hc => ?_, fun s hg => ?_⟩
  · intro h cleared held
    refine ⟨fun hm hs => ?_, fun hs => ⟨fun hl => ?_, fun hl hd => ?_, fun hl hd => ?_⟩⟩
    · exact congrArg Host.Outcome.next (command_refused hc (anyAccess_other (by simpa using hm) (by simpa using hs)))
    · exact next_command (a := refuse .badValue h) hc (anyAccess_heard hs) (if_pos hl)
    · refine next_command (a := refuse .busy h) hc (anyAccess_heard hs) ?_
      simp [runClear, hl, hd, h]
    · refine next_command (a := doneAnswer held) hc (anyAccess_heard hs) ?_
      have hd1 : h.pins.driveEnable = true := by simpa [h] using hd
      have hg1 : h.gate = s.gate := by simp [h]
      by_cases hg : s.gate = .faulted
      · rw [runClear_faulted hl hd1 (hg1.trans hg), holdAtPositions_eq]
        simp only [held, cleared, hg, true_and, if_true, State.live, heard_axisCount, h]
        rfl
      · rw [runClear_unfaulted hl hd1 (hg1 ▸ hg)]
        simp only [held, cleared, hg, false_and, if_false, hg1]
  · rw [motionState, hg] <;> rfl

/-! ### DATUM (R51, R196) -/

/-- Settles O19: the mask and the length are checked, and the masked axes written in channel order. -/
theorem datumWritesTheMaskedAxes : Obligations.DatumWritesTheMaskedAxes := by
  intro f s hc hm hs p mask named ok
  have hok : (mask = 0 ∨ 16 ≤ mask ∨ (maskAxes mask).all (heard f s).live = false ∨
      p.length ≠ 2 + 4 * (maskAxes mask).length) ↔ ¬ ok := by
    have hlive : (maskAxes mask).all (heard f s).live = false ↔ ¬ ∀ i ∈ named, s.live i = true := by
      rw [← Bool.not_eq_true, List.all_eq_true]
      exact not_congr (forall₂_congr fun i _ => by rw [heard_live])
    rw [hlive, show maskAxes mask = named from rfl]
    simp only [ok, not_and_or, not_not, ne_eq, not_lt]
  refine ⟨fun h => ?_, fun h => ?_⟩
  · refine next_command (a := doneAnswer _) hc (runAccess_heard hm hs)
      ((if_neg fun hbad => hok.mp hbad h).trans (congrArg doneAnswer ?_))
    refine State.mapAxes_congr fun i => ?_
    simp only [show i ∈ named ↔ mask.testBit i.val = true from mem_maskAxes]
    rfl
  · exact next_command (a := refuse .badValue _) hc (runAccess_heard hm hs) (if_pos (hok.mpr h))

/-! ### ARM, DISARM and RESTART (R185, R192 to R195) -/

theorem armed_iff {f : RxFrame} {s : State} :
    (heard f s).liveAxes.all (fun i => ((heard f s).axis i).record.setUp) = true ↔
    ∀ i, s.live i = true → (s.axis i).record.setUp = true := by
  have hids (i : Fin 4) : i ∈ axisIds := by revert i; decide
  simp only [State.liveAxes, List.all_eq_true, List.mem_filter, heard_live, heard_axis, hids, true_and]

theorem arm_answer {f : RxFrame} {s : State} (hl : f.payload.length = 3)
    (hup : ∀ i, s.live i = true → (s.axis i).record.setUp = true) :
    runArm f (heard f s) = doneAnswer (arm f.sender.toNat (u16At f.payload 1) (heard f s)) := by
  rw [runArm, if_neg (by simpa using hl), if_pos (armed_iff.mpr hup)]

theorem arm_refused {f : RxFrame} {s : State}
    (h : ¬ (f.payload.length = 3 ∧ ∀ i, s.live i = true → (s.axis i).record.setUp = true)) :
    runArm f (heard f s) = refuse .badValue (heard f s) := by
  by_cases hl : f.payload.length = 3
  · rw [runArm, if_neg (by simpa using hl), if_neg fun ha => h ⟨hl, armed_iff.mp ha⟩]
  · rw [runArm, if_pos hl]

theorem arm_eq {sender ms : Nat} {f : RxFrame} {s u : State}
    (hu : u = { heard f s with
      station := { s.station with mode := .run, controller := sender, permitTime := max 50 (min 1000 ms) }
      motion := { s.motion with
        permit := .valid, permitTimer := some ((heard f s).uptime + max 50 (min 1000 ms) * 10000) } }) :
    arm sender ms (heard f s) = u.mapAxes fun i a =>
      if s.live i = true ∧ ampOn u = true then { a with demand := a.position } else a := by
  have harm : arm sender ms (heard f s) = holdAtPositions u := by
    rw [hu]
    simp only [arm, heard_station, heard_motion]
    rfl
  have hlive (i : Fin 4) : u.live i = s.live i := by rw [hu]; simp [State.live]
  rw [harm, holdAtPositions_eq]
  split
  · rename_i hamp
    refine State.mapAxes_congr fun i => ?_
    simp [hlive, hamp]
  · rename_i hamp
    exact (State.mapAxes_id fun i => if_neg fun h => hamp h.2).symm

/-- Nothing is busy where a DISARM is accepted. -/
theorem runDisarm_answer {f : RxFrame} {s : State} (hl : f.payload.length = 1)
    (hfree : s.probes.change.active = false ∧ s.motion.queue = [] ∧ (motionState s = .idle ∨ motionState s = .held)) :
    runDisarm f (heard f s) = doneAnswer (disarm (heard f s)) := by
  obtain ⟨hactive, hq, hmotion⟩ := hfree
  rw [runDisarm, if_neg (by simpa using hl), if_neg]
  simp only [heard_probes, heard_motion, heard_motionState, hactive, hq, ne_eq, not_true_eq_false, false_or,
    Bool.false_eq_true]
  tauto

theorem runDisarm_busy {f : RxFrame} {s : State} (hl : f.payload.length = 1)
    (hfree : ¬ (s.probes.change.active = false ∧ s.motion.queue = [] ∧
      (motionState s = .idle ∨ motionState s = .held))) :
    runDisarm f (heard f s) = refuse .busy (heard f s) := by
  rw [runDisarm, if_neg (by simpa using hl), if_pos]
  simp only [heard_probes, heard_motion, heard_motionState]
  by_contra hno
  push Not at hno
  obtain ⟨hactive, hq, hmotion⟩ := hno
  refine hfree ⟨by simpa using hactive, hq, ?_⟩
  by_cases hi : motionState s = .idle
  · exact .inl hi
  · exact .inr (hmotion hi)

/-- A claim whose frame is not in flight is withdrawn at once; with an empty queue it touches no segment (R90). -/
theorem withdrawClaim_free {s : State} (ha : s.line.attempt = none) (hq : s.motion.queue = []) :
    withdrawClaim s = { s with
      zones := { s.zones with claim := (withdrawClaim s).zones.claim }
      slots := { s.slots with claim := (withdrawClaim s).slots.claim } } := by
  unfold withdrawClaim
  split
  · simp only [not_inFlight ha, Bool.false_eq_true, if_false]
    rw [unclaimHead_nil (by simpa [setClaim] using hq)]
    rfl
  · rfl

theorem withdrawClaim_claim_free {s : State} (ha : s.line.attempt = none) (hq : s.motion.queue = []) :
    (withdrawClaim s).zones.claim = (match s.zones.claim with
      | .queued _ _ => .none
      | c => c) := by
  cases hc : s.zones.claim with
  | queued x y =>
    simp only [withdrawClaim, hc, not_inFlight ha, Bool.false_eq_true, if_false]
    rw [unclaimHead_nil (by simpa [setClaim] using hq)]
    rfl
  | none => simp [withdrawClaim, hc]
  | window x y => simp [withdrawClaim, hc]

theorem freeHeldBy_view (c : Nat) (x : ZoneSet) (s : State) (z : Fin 16) :
    (freeHeldBy c x s).zones.view.get z = (match s.zones.view.get z with
      | some h => if h.holder = c ∧ ZoneSet.has x z = true then none else some h
      | none => none) := by
  rw [freeHeldBy, mapView]
  exact tab16_get _ z

/-- A zone is among the FIRM ones of the station exactly when the view records it so (R84). -/
theorem has_firmZones {s : State} {z : Fin 16} : ZoneSet.has (firmZones s) z = true ↔
    ∃ h, s.zones.view.get z = some h ∧ h.holder = s.line.number ∧ h.standing = .firm := by
  rw [firmZones, viewZones, zoneSet_has]
  cases s.zones.view.get z with
  | none => simp [firmToSelf]
  | some h => simp [firmToSelf]

/-- Zones that are FIRM to the station go free when the line can carry their release, and the others stay (R100). -/
theorem releaseZones_view {x : ZoneSet} {s : State}
    (hx : ∀ z, ZoneSet.has x z = true → ZoneSet.has (firmZones s) z = true)
    (hj : joined s = true) (z : Fin 16) :
    (releaseZones x s).zones.view.get z = if ZoneSet.has x z = true then none else s.zones.view.get z := by
  unfold releaseZones
  split
  · rename_i h
    have hx0 : x = 0 := by simpa [hj] using h
    rw [ZoneSet.has_of_ne_zero hx0, if_neg (by decide)]
  · show (freeHeldBy s.line.number x s).zones.view.get z = _
    rw [freeHeldBy_view]
    by_cases hz : ZoneSet.has x z = true
    · obtain ⟨h, hv, hown, -⟩ := has_firmZones.mp (hx z hz)
      simp [hv, hown, hz]
    · cases s.zones.view.get z <;> simp [hz]

/-- A line that cannot carry a release leaves every zone held (R100). -/
theorem releaseZones_unjoined {x : ZoneSet} {s : State} (hj : joined s = false) : releaseZones x s = s := by
  rw [releaseZones, if_pos (.inr hj)]

/-- The release joins a frame that waits, or is one (R100, R175). -/
theorem releaseZones_slot {x : ZoneSet} {s : State} (hx : x ≠ 0) (hj : joined s = true) :
    (releaseZones x s).slots.release = s.slots.release.put (inFlight s .release) uniteZones x := by
  rw [releaseZones, if_neg (by simpa [hj] using hx)]
  rfl

theorem Slot.put_waiting_frame {α : Type} (merge : α → α → α) (x : α) (sl : Slot α) :
    (sl.put false merge x).frame = some (match sl.frame with
      | some y => merge y x
      | none => x) := by
  unfold Slot.put
  cases sl.frame <;> rfl

theorem disarm_ampOn (s : State) : ampOn (disarm s) = false := by simp [ampOn, disarm]

/-- What a DISARM leaves of the axes, the motion, the zones and the slots where no attempt is in flight and nothing is
queued (R22, R195). -/
theorem disarm_eq {s : State} (ha : s.line.attempt = none) (hq : s.motion.queue = []) :
    disarm s = { s with
      axes := (disarm s).axes
      motion := { s.motion with permit := .none, permitTimer := none }
      zones := { s.zones with view := (disarm s).zones.view, claim := (disarm s).zones.claim }
      slots := (disarm s).slots
      station := { s.station with mode := .setup, controller := 0 } } := by
  unfold disarm
  dsimp only
  rw [releaseZones_eq, withdrawClaim_free ha hq]
  rfl

theorem disarm_axis {s : State} (i : Fin 4) :
    (disarm s).axis i = if s.live i = true then { s.axis i with driveOut := 0, followErr := 0 } else s.axis i := by
  have h := (motionOnly_withdrawClaim s).trans (motionOnly_releaseZones (firmZones s) _)
  unfold disarm cutDrives
  rw [State.axis_mapAxes]
  dsimp only
  simp only [State.axis, State.live, h.axes, h.axisCount]
  rfl

/-- The claim of a DISARM is that of its withdrawal (R90, R195). -/
theorem disarm_claim {s : State} (ha : s.line.attempt = none) (hq : s.motion.queue = []) :
    (disarm s).zones.claim = (match s.zones.claim with
      | .queued _ _ => .none
      | c => c) := by
  have h : (disarm s).zones.claim = (withdrawClaim s).zones.claim := by
    unfold disarm
    dsimp only
    rw [releaseZones_eq]
    rfl
  rw [h, withdrawClaim_claim_free ha hq]

theorem withdrawClaim_release {s : State} (ha : s.line.attempt = none) (hq : s.motion.queue = []) :
    (withdrawClaim s).slots.release = s.slots.release ∧ (withdrawClaim s).zones.view = s.zones.view := by
  rw [withdrawClaim_free ha hq]
  exact ⟨rfl, rfl⟩

/-- Every FIRM zone of the station goes free in its view, and into one RELEASE (R100, R195). -/
theorem disarm_zones {s : State} (ha : s.line.attempt = none) (hq : s.motion.queue = []) (hj : joined s = true) :
    (∀ z, (disarm s).zones.view.get z = if ZoneSet.has (firmZones s) z = true then none else s.zones.view.get z) ∧
      (firmZones s ≠ 0 → (disarm s).slots.release.frame = some (match s.slots.release.frame with
        | some x => x ||| firmZones s
        | none => firmZones s)) := by
  have hw := motionOnly_withdrawClaim s
  obtain ⟨hrel, hview⟩ := withdrawClaim_release ha hq
  have hfirm : firmZones (withdrawClaim s) = firmZones s := firmZones_congr hview hw.number
  have hjoin : joined (withdrawClaim s) = true := hw.joined.trans hj
  refine ⟨fun z => ?_, fun hne => ?_⟩
  · show (releaseZones (firmZones s) (withdrawClaim s)).zones.view.get z = _
    rw [releaseZones_view (fun z h => by rwa [hfirm]) hjoin, hview]
  · show (releaseZones (firmZones s) (withdrawClaim s)).slots.release.frame = _
    rw [releaseZones_slot hne hjoin, hrel, not_inFlight (by rw [withdrawClaim_free ha hq]; exact ha),
      Slot.put_waiting_frame]
    cases s.slots.release.frame <;> rfl

theorem disarm_view_unjoined {s : State} (ha : s.line.attempt = none) (hq : s.motion.queue = [])
    (hj : joined s = false) : (disarm s).zones.view = s.zones.view := by
  show (releaseZones (firmZones s) (withdrawClaim s)).zones.view = _
  rw [releaseZones_unjoined ((motionOnly_withdrawClaim s).joined.trans hj), (withdrawClaim_release ha hq).2]

theorem restart_busy_iff {s : State} : (s.probes.change.active = true ∨ headDriving s = true) ↔
    (s.probes.change.active = true ∨
      ∃ seg rest, s.motion.queue = seg :: rest ∧ (seg.state = .moving ∨ seg.state = .stopping)) := by
  refine or_congr_right ?_
  unfold headDriving
  cases hq : s.motion.queue with
  | nil => simp
  | cons seg rest => simp [Segment.driving]

@[simp] theorem heard_mute (f : RxFrame) (s : State) : (heard f s).line.state = .mute ↔ s.line.state = .mute := by
  have htaken (l : LineState) : takenState l = .mute ↔ l = .mute := by cases l <;> decide
  rw [heard, frameTaken_line_state, htaken, advance_line]
  exact Line.progress_state_eq_iff _ _ _ rfl

@[simp] theorem answered_inReset (kind : Nat) (f : RxFrame) (c : ReplyCode) (n : Nat) (u : State) :
    (answered kind f c n u).inReset = u.inReset := by
  rw [answered, settled, finish_inReset, (motionOnly_overlapCheck _).inReset, (motionOnly_placeReply _ u).inReset]

@[simp] theorem answered_station (kind : Nat) (f : RxFrame) (c : ReplyCode) (n : Nat) (u : State) :
    (answered kind f c n u).station = u.station := by
  rw [answered, settled, finish_station, (motionOnly_overlapCheck _).station, (motionOnly_placeReply _ u).station]

/-- Settles O53: each of the three commands by its checks, in their order. -/
theorem armDisarmAndRestartChangeTheStation : Obligations.ArmDisarmAndRestartChangeTheStation := by
  refine ⟨fun f s hc hm => ?_, fun f s hc hm hs => ?_, fun f s hc hs => ?_⟩
  · intro h ok ms u
    refine ⟨fun hok => ?_, fun hno => ?_⟩
    · refine next_command (a := doneAnswer _) hc (setupAccess_heard hm) ((arm_answer hok.1 hok.2).trans ?_)
      exact congrArg doneAnswer (arm_eq rfl)
    · exact next_command (a := refuse .badValue h) hc (setupAccess_heard hm) (arm_refused hno)
  · intro h free
    refine ⟨fun hl => ?_, fun hl hfree => ?_, fun hl hfree => ?_⟩
    · exact next_command (a := refuse .badValue h) hc (runAccess_heard hm hs) (if_pos hl)
    · exact next_command (a := refuse .busy h) hc (runAccess_heard hm hs) (runDisarm_busy hl hfree)
    · have ha := hc.heard_noAttempt
      have hq : h.motion.queue = [] := by simpa [h] using hfree.2.1
      have hfirm : firmZones h = firmZones s := heard_firmZones f s
      have heq := disarm_eq ha hq
      refine ⟨disarm h, next_command (a := doneAnswer _) hc (runAccess_heard hm hs) (runDisarm_answer hl hfree), ?_,
        disarm_ampOn h, ?_, fun i => ?_, ?_, fun hj => ?_, fun hj => ?_, ?_, ?_, ?_, ?_, ?_, ?_, ?_⟩
      · rw [heq]; simp
      · rw [heq]; simp
      · rw [disarm_axis]; simp [h]
      · have hclaim := disarm_claim ha hq
        rw [show h.zones = s.zones from heard_zones f s] at hclaim
        exact hclaim
      · have hz := disarm_zones ha hq (by simpa [h] using hj)
        rw [hfirm, show h.slots.release = s.slots.release from heard_slots_release f s,
          show h.zones = s.zones from heard_zones f s] at hz
        exact hz
      · rw [disarm_view_unjoined ha hq (by simpa [h] using hj)]; simp
      all_goals
        rw [heq]
        simp
  · intro h busy
    have hbusy : (h.probes.change.active = true ∨ headDriving h = true) ↔ busy := by
      rw [restart_busy_iff]
      simp [busy, h]
    have hacc := anyAccess_heard (f := f) hs
    have hrun (hb : ¬ busy) (hl : f.payload.length = 1) : runRestart f h = doneAnswer
        (if h.line.state = .mute then restartNow { h with station := { h.station with restartPending := true } }
          else { h with station := { h.station with restartPending := true } }) := by
      rw [runRestart, if_neg fun hb' => hb (hbusy.mp hb'), if_neg (by simpa using hl)]
    refine ⟨fun hb => ?_, fun hb hl => ?_, fun hb hl hmute => ?_, fun hb hl hmute => ?_⟩
    · exact next_command (a := refuse .busy h) hc hacc (if_pos (hbusy.mpr hb))
    · refine next_command (a := refuse .badValue h) hc hacc ?_
      rw [runRestart, if_neg fun hb' => hb (hbusy.mp hb'), if_pos hl]
    · refine next_command (a := doneAnswer _) hc hacc ((hrun hb hl).trans ?_)
      rw [if_neg (by simpa [h] using hmute), show h.station = s.station from heard_station f s]
    · refine ⟨_, next_command (a := doneAnswer _) hc hacc (hrun hb hl), ?_⟩
      rw [if_pos (by simpa [h] using hmute)]
      simp [restartNow, doneAnswer, beginReset]

end Sys2Proof.Machine

/-! The setup frames of the station, the axes, the temperature unit, the links and the rack. -/

namespace Sys2Proof.Machine

theorem Choice.not_bad {k n : Nat} : (!(choice k n).isBad) = true ↔ n < k ∨ n = 255 := by
  rw [Bool.not_eq_true', choice_good]

/-! ### SETUP STATION (R26, R190) -/

theorem stationForm_iff (p : List Byte) : stationForm p = true ↔
    p.length = 19 ∧ 1 ≤ u16At p 1 ∧ u16At p 1 ≤ 200 ∧ 1 ≤ u16At p 3 ∧ u16At p 3 ≤ 200 ∧ u16At p 5 ≤ 20000 ∧
      0 ≤ s32At p 7 ∧ s32At p 7 ≤ 100000000 ∧ (byteAt p 15 < 16 ∨ byteAt p 15 = 255) := by
  simp only [stationForm, Bool.and_eq_true, beq_iff_eq, within_iff, Choice.not_bad, decide_eq_true_eq]
  omega

theorem applyMask_eq (mask : BitVec 16) (shift : Nat) (t : Thermal) : applyMask mask shift t = { t with
    mask := mask, shift := min shift 6
    channels := tab16 fun c =>
      if mask.getLsbD c.val = false then Channel.afterReset
      else if t.mask.getLsbD c.val = true then t.channels.get c
      else { Channel.afterReset with state := .settling }
    reading := t.reading && mask.getLsbD t.slot.val } := by
  have hchannels (c : Fin 16) : (if mask.getLsbD c.val = true then
        (if t.mask.getLsbD c.val = true then t.channels.get c else { Channel.afterReset with state := .settling })
      else Channel.afterReset) =
      (if mask.getLsbD c.val = false then Channel.afterReset
        else if t.mask.getLsbD c.val = true then t.channels.get c
        else { Channel.afterReset with state := .settling }) := by
    cases mask.getLsbD c.val <;> simp
  simp only [applyMask, hchannels]

/-! ### SETUP AXIS (R5, R6) -/

@[simp] theorem kindOf_code (k : AxisKind) : kindOf k.code = some k := by cases k <;> rfl

@[simp] theorem roleOf_code (r : Role) : roleOf r.code = some r := by cases r <;> rfl

theorem kindOf_none {n : Nat} (h : 2 ≤ n) : kindOf n = none := by
  unfold kindOf
  split
  · omega
  · omega
  · rfl

theorem roleOf_none {n : Nat} (h : 3 ≤ n) : roleOf n = none := by
  unfold roleOf
  split
  · omega
  · omega
  · omega
  · rfl

/-- Another channel holds the role exactly when the role is one that a station has once (R5). -/
theorem roleTaken_iff {s : State} {i : Fin 4} {r : Role} : roleTaken s i r = false ↔
    (r ≠ .other → ∀ j, j ≠ i → (s.axis j).record.role ≠ r) := by
  have hids (j : Fin 4) : j ∈ axisIds := by revert j; decide
  simp only [roleTaken, Bool.and_eq_false_imp, bne_iff_ne, List.any_eq_false, hids, forall_const, Bool.and_eq_true,
    beq_iff_eq, not_and]

theorem axisRecordValid_iff {r : AxisRecord} {v : Nat} : axisRecordValid r v = true ↔
    r.softMin < r.softMax ∧ (1 ≤ r.maxSpeed ∧ r.maxSpeed ≤ 20000) ∧ (1 ≤ r.followLimit ∧ r.followLimit ≤ 1000000) ∧
      r.window ≤ 10000 ∧ (1 ≤ v ∧ v ≤ 20000) ∧ (r.softMin ≤ r.refValue ∧ r.refValue ≤ r.softMax) ∧
      (r.role ≠ .other → r.kind = .linear) := by
  simp only [axisRecordValid, Bool.and_eq_true, decide_eq_true_eq, within_iff, Bool.or_eq_true, beq_iff_eq,
    or_iff_not_imp_left, ne_eq, and_assoc]
  norm_cast

theorem axisRecordOf_none {p : List Byte} (h : 2 ≤ byteAt p 2 ∨ 3 ≤ byteAt p 3) : axisRecordOf p = none := by
  unfold axisRecordOf
  rcases h with h | h
  · rw [kindOf_none h]
  · rw [roleOf_none h]
    cases kindOf (byteAt p 2) <;> rfl

theorem runSetupAxis_bad {f : RxFrame} {s : State} (h : s.liveAxis? (byteAt f.payload 1) = none ∨
    axisRecordOf f.payload = none) : runSetupAxis f s = refuse .badValue s := by
  unfold runSetupAxis
  rcases h with h | h
  · simp [h]
  · simp only [h]
    split
    · rename_i hr
      cases hr
    · rfl

theorem runSetupAxis_of {f : RxFrame} {s : State} {i : Fin 4} {r : AxisRecord}
    (hi : s.liveAxis? (byteAt f.payload 1) = some i) (hr : axisRecordOf f.payload = some r) :
    runSetupAxis f s =
      if f.payload.length = 27 ∧ axisRecordValid r (u16At f.payload 25) = true ∧ roleTaken s i r.role = false then
        doneAnswer (writeAxis i r s) else refuse .badValue s := by
  simp [runSetupAxis, hi, hr, and_assoc]

@[simp] theorem heard_roleTaken (f : RxFrame) (s : State) (i : Fin 4) (r : Role) :
    roleTaken (heard f s) i r = roleTaken s i r := by simp [roleTaken]

/-! ### SETUP THERMAL (R34) -/

/-- The channels named by the entries are distinct exactly when two equal entries are both 255 (R34). -/
theorem entryChannels_nodup (p : List Byte) : (entryChannels p).Nodup ↔
    ∀ j k, j < k → k < 4 → byteAt p (6 + j) = byteAt p (6 + k) → 16 ≤ byteAt p (6 + j) := by
  have hpair (a b : Nat) : (∀ x, (choice 16 a).value = some x → ∀ y, (choice 16 b).value = some y → x ≠ y) ↔
      (a = b → 16 ≤ a) := by
    simp only [choice_value (show 16 ≤ 255 by decide), finOf_eq_some]
    constructor
    · intro h hab
      by_contra hlt
      exact h ⟨a, by omega⟩ rfl ⟨a, by omega⟩ hab.symm rfl
    · rintro h x rfl y hy rfl
      have := h hy.symm
      omega
  have hlist : [6, 7, 8, 9] = (List.range 4).map (6 + ·) := by decide
  rw [entryChannels, entriesAt, List.Nodup, List.pairwise_filterMap, List.pairwise_map, hlist, List.pairwise_map,
    List.pairwise_iff_getElem]
  simp only [List.length_range, List.getElem_range]
  constructor
  · intro h j k hjk hk
    exact (hpair _ _).mp (h j k (by omega) hk hjk)
  · intro h j k hj hk hjk
    exact (hpair _ _).mpr (h j k hjk hk)

theorem entriesAt_good (p : List Byte) : (!(entriesAt p).any Choice.isBad) = true ↔
    ∀ j, j < 4 → byteAt p (6 + j) < 16 ∨ byteAt p (6 + j) = 255 := by
  have hlist : [6, 7, 8, 9] = (List.range 4).map (6 + ·) := by decide
  simp [entriesAt, hlist, choice_good]

theorem thermalForm_iff (self : Nat) (p : List Byte) : thermalForm self p = true ↔
    p.length = 12 ∧ -5000 ≤ s32At p 1 ∧ s32At p 1 ≤ 40000 ∧ byteAt p 5 ≤ 1 ∧ byteAt p 11 ≤ 1 ∧
      (∀ j, j < 4 → byteAt p (6 + j) < 16 ∨ byteAt p (6 + j) = 255) ∧
      (∀ j k, j < k → k < 4 → byteAt p (6 + j) = byteAt p (6 + k) → byteAt p (6 + j) = 255) ∧
      (byteAt p 5 = 1 → 1 ≤ byteAt p 10 ∧ byteAt p 10 ≤ 30 ∧ byteAt p 10 ≠ self ∧ byteAt p 11 = 0) := by
  have hdistinct : (∀ j, j < 4 → byteAt p (6 + j) < 16 ∨ byteAt p (6 + j) = 255) →
      ((entryChannels p).Nodup ↔
        ∀ j k, j < k → k < 4 → byteAt p (6 + j) = byteAt p (6 + k) → byteAt p (6 + j) = 255) := by
    intro hgood
    rw [entryChannels_nodup]
    refine forall₄_congr fun j k hjk hk => imp_congr_right fun he => ?_
    have hj := hgood j (by omega)
    omega
  have hpeer : ((!(byteAt p 5 == 1 && (!within 1 30 (byteAt p 10) || byteAt p 10 == self))) = true ∧
      (!(byteAt p 5 == 1 && byteAt p 11 == 1)) = true ∧ byteAt p 11 ≤ 1) ↔
      (byteAt p 11 ≤ 1 ∧
        (byteAt p 5 = 1 → 1 ≤ byteAt p 10 ∧ byteAt p 10 ≤ 30 ∧ byteAt p 10 ≠ self ∧ byteAt p 11 = 0)) := by
    simp only [Bool.not_eq_true', Bool.and_eq_false_imp, beq_iff_eq, Bool.or_eq_false_iff, Bool.not_eq_false',
      within_iff, beq_eq_false_iff_ne]
    omega
  simp only [thermalForm, Bool.and_eq_true, beq_iff_eq, within_iff, decide_eq_true_eq, entriesAt_good]
  constructor
  · rintro ⟨⟨⟨⟨⟨⟨⟨hl, ha⟩, h5⟩, h11⟩, hgood⟩, hnodup⟩, hp⟩, hpub⟩
    exact ⟨hl, ha.1, ha.2, h5, h11, hgood, (hdistinct hgood).mp hnodup, (hpeer.mp ⟨hp, hpub, h11⟩).2⟩
  · rintro ⟨hl, ha1, ha2, h5, h11, hgood, hd, hp⟩
    obtain ⟨hpeer1, hpub, -⟩ := hpeer.mpr ⟨h11, hp⟩
    exact ⟨⟨⟨⟨⟨⟨⟨hl, ha1, ha2⟩, h5⟩, h11⟩, hgood⟩, (hdistinct hgood).mpr hd⟩, hpeer1⟩, hpub⟩

/-! ### SETUP LINKS and SETUP RACK (R130, R191) -/

theorem linksForm_iff (self : Nat) (p : List Byte) : linksForm self p = true ↔
    p.length = 7 ∧ byteAt p 1 ≤ 30 ∧ byteAt p 1 ≠ self ∧ (BitVec.ofNat 32 (u32At p 2)).getLsbD 0 = false ∧
      (BitVec.ofNat 32 (u32At p 2)).getLsbD 31 = false ∧ (byteAt p 6 < 4 ∨ byteAt p 6 = 255) := by
  simp only [linksForm, Bool.and_eq_true, beq_iff_eq, bne_iff_ne, choice_good, decide_eq_true_eq,
    Bool.not_eq_true', BitVec.getLsbD_ofNat, show (0 < 32) = True by simp, show (31 < 32) = True by simp,
    decide_true, Bool.true_and, and_assoc]

theorem rackForm_iff (p : List Byte) : rackForm p = true ↔
    p.length = 19 ∧ s32At p 15 ≠ 0 ∧ -1000000 ≤ s32At p 15 ∧ s32At p 15 ≤ 1000000 := by
  simp only [rackForm, Bool.and_eq_true, beq_iff_eq, bne_iff_ne, within_iff, and_assoc]

/-- Settles O54: each form is checked whole and written whole. -/
theorem setupFramesWriteWholeOrNothing : Obligations.SetupFramesWriteWholeOrNothing := by
  refine ⟨fun f s hc hm => ?station, fun f s hc hm => ?axis, fun f s hc hm h => ?noAxis, fun f s hc hm => ?thermal,
    fun f s hc hm => ?links, fun f s hc hm => ?rack⟩
  case station =>
    intro p h mask ok
    refine ⟨fun hok => setup_done hc hm ?_, fun hno => setup_bad hc hm ?_⟩
    · rw [runSetupStation, if_pos ((stationForm_iff p).mpr hok)]
      simp only [writeStation, applyMask_eq, heard_station, heard_thermal, choice_value (show 16 ≤ 255 by decide)]
      rfl
    · exact if_neg fun hf => hno ((stationForm_iff p).mp hf)
  case axis =>
    intro p h i kind role h1 hi h2 h3 r ok
    have hlive : h.liveAxis? (byteAt p 1) = some i := by
      rw [heard_liveAxis?]
      exact liveAxis?_some h1 hi
    have hrecord (h24 : byteAt p 24 ≤ 1) : axisRecordOf p = some r := by
      simp [axisRecordOf, h2, h3, h24, r]
    have hform : (p.length = 27 ∧ axisRecordValid r (u16At p 25) = true ∧ roleTaken s i r.role = false) ∧
        byteAt p 24 ≤ 1 ↔ ok := by
      rw [axisRecordValid_iff, roleTaken_iff]
      constructor
      · rintro ⟨⟨hl, ⟨hsoft, ⟨hm1, hm2⟩, ⟨hf1, hf2⟩, hw, ⟨hs1, hs2⟩, ⟨hr1, hr2⟩, hlin⟩, ht⟩, h24⟩
        exact ⟨hl, h24, hsoft, hm1, hm2, hf1, hf2, hw, hs1, hs2, hr1, hr2, hlin, ht⟩
      · rintro ⟨hl, h24, hsoft, hm1, hm2, hf1, hf2, hw, hs1, hs2, hr1, hr2, hlin, ht⟩
        exact ⟨⟨hl, ⟨hsoft, ⟨hm1, hm2⟩, ⟨hf1, hf2⟩, hw, ⟨hs1, hs2⟩, ⟨hr1, hr2⟩, hlin⟩, ht⟩, h24⟩
    refine ⟨fun hok => setup_done hc hm ?_, fun hno => setup_bad hc hm ?_⟩
    · obtain ⟨hf, h24⟩ := hform.mpr hok
      rw [runSetupAxis_of hlive (hrecord h24), heard_roleTaken, if_pos hf]
      simp only [writeAxis, show h.axis i = s.axis i from heard_axis f s i]
      rfl
    · by_cases h24 : byteAt p 24 ≤ 1
      · rw [runSetupAxis_of hlive (hrecord h24), heard_roleTaken, if_neg fun hf => hno (hform.mp ⟨hf, h24⟩)]
      · refine runSetupAxis_bad (.inr ?_)
        simp [axisRecordOf, show byteAt f.payload 2 = kind.code from h2, show byteAt f.payload 3 = role.code from h3,
          show ¬ byteAt f.payload 24 ≤ 1 from h24]
  case noAxis =>
    refine setup_bad hc hm (runSetupAxis_bad ?_)
    rcases h with h | h | h
    · exact .inl (by rw [heard_liveAxis?]; exact liveAxis?_none (by omega))
    · exact .inl (by rw [heard_liveAxis?]; exact liveAxis?_none (by omega))
    · exact .inr (axisRecordOf_none h)
  case thermal =>
    intro p h entry ok
    have hform : thermalForm h.line.number p = true ↔ ok := by
      rw [heard_line_number]
      exact thermalForm_iff _ _
    refine ⟨fun hok => setup_done hc hm ?_, fun hno => setup_bad hc hm ?_⟩
    · rw [runSetupThermal, if_pos (hform.mpr hok)]
      simp only [writeThermal, heard_thermal, choice_value (show 16 ≤ 255 by decide)]
      rfl
    · exact if_neg fun hf => hno (hform.mp hf)
  case links =>
    intro p h serve ok
    have hform : linksForm h.line.number p = true ↔ ok := by
      rw [heard_line_number]
      exact linksForm_iff _ _
    refine ⟨fun hok => setup_done hc hm ?_, fun hno => setup_bad hc hm ?_⟩
    · rw [runSetupLinks, if_pos (hform.mpr hok)]
      simp only [writeLinks, heard_station, choice_value (show 4 ≤ 255 by decide)]
      rfl
    · exact if_neg fun hf => hno (hform.mp hf)
  case rack =>
    intro p h form
    have hform : rackForm p = true ↔ form := rackForm_iff p
    refine ⟨fun k i hk hi hok => setup_done hc hm ?_, fun hno => setup_bad hc hm ?_⟩
    · rw [runSetupRack, finOf_eq_some.mpr hk, finOf_eq_some.mpr hi]
      dsimp only
      rw [if_pos (hform.mpr hok)]
      simp only [writePort, heard_probes]
      rfl
    · unfold runSetupRack
      split
      · rename_i k i hk hi
        rw [finOf_eq_some] at hk hi
        exact if_neg fun hf => hno ⟨hk ▸ k.isLt, hi ▸ i.isLt, hform.mp hf⟩
      · rfl

end Sys2Proof.Machine

/-! PROBE SET, a full reset and its end, and the frames that reach no block. -/

namespace Sys2Proof.Machine

/-! ### PROBE SET (R127, R128) -/

theorem probeSetForm_iff (p : List Byte) : probeSetForm p = true ↔
    p.length = 21 ∧ byteAt p 1 < 16 ∧ (byteAt p 3 < 8 ∨ byteAt p 3 = 255) ∧
      (∀ i : Fin 3, -3000000 ≤ s32At p (4 + 4 * i.val) ∧ s32At p (4 + 4 * i.val) ≤ 3000000) ∧
      u32At p 16 ≤ 200000 ∧ byteAt p 20 ≤ 1 := by
  have htip : (threeAt p 4).toList.all (within (-3000000) 3000000) = true ↔
      ∀ i : Fin 3, -3000000 ≤ s32At p (4 + 4 * i.val) ∧ s32At p (4 + 4 * i.val) ≤ 3000000 := by
    simp [threeAt, within_iff, Fin.forall_fin_succ]
  simp only [probeSetForm, Bool.and_eq_true, beq_iff_eq, decide_eq_true_eq, Choice.not_bad, htip, and_assoc]

/-- Another non-empty record satisfies `p` (R127). -/
theorem otherRecord_iff {s : State} {k : Fin 16} {p : ProbeRecord → Bool} : otherRecord s k p = true ↔
    ∃ i, i ≠ k ∧ (s.probes.table.get i).id ≠ 0 ∧ p (s.probes.table.get i) = true := by
  simp [otherRecord, and_assoc]

@[simp] theorem heard_lockState (f : RxFrame) (s : State) : lockState (heard f s) = lockState s := by
  simp [lockState]

@[simp] theorem heard_present (f : RxFrame) (s : State) (p : Fin 8) : present (heard f s) p = present s p := by
  simp [present]

/-- An id that another record has, or a home port that another record has, is taken (R127). -/
theorem idTaken_iff {s : State} {k : Fin 16} {id : Nat} {home : Option (Fin 8)} :
    ((id ≠ 0 ∧ otherRecord s k (fun r => r.id == id) = true) ∨
      (id ≠ 0 ∧ home ≠ none ∧ otherRecord s k (fun r => r.home == home) = true)) ↔
    (id ≠ 0 ∧ ∃ i, i ≠ k ∧ (s.probes.table.get i).id ≠ 0 ∧
      ((s.probes.table.get i).id = id ∨ (home ≠ none ∧ (s.probes.table.get i).home = home))) := by
  simp only [otherRecord_iff, beq_iff_eq]
  constructor
  · rintro (⟨h0, i, hi, hid, he⟩ | ⟨h0, hn, i, hi, hid, he⟩)
    · exact ⟨h0, i, hi, hid, .inl he⟩
    · exact ⟨h0, i, hi, hid, .inr ⟨hn, he⟩⟩
  · rintro ⟨h0, i, hi, hid, he | ⟨hn, he⟩⟩
    · exact .inl ⟨h0, i, hi, hid, he⟩
    · exact .inr ⟨h0, hn, i, hi, hid, he⟩

/-- The checks of a PROBE SET whose index is one of the table, in their order (R127). -/
theorem runProbeSet_of {f : RxFrame} {s : State} {k : Fin 16} (hk : byteAt f.payload 1 = k.val) :
    runProbeSet f s =
      if probeSetForm f.payload = false then refuse .badValue s
      else if s.probes.change.active = true then refuse .busy s
      else if (s.probes.table.get k).location = .onHead ∧ motionState s ≠ .idle ∧ motionState s ≠ .held then
        refuse .busy s
      else if byteAt f.payload 2 ≠ 0 ∧ otherRecord s k (fun r => r.id == byteAt f.payload 2) = true then
        refuse .badValue s
      else if byteAt f.payload 2 ≠ 0 ∧ finOf 8 (byteAt f.payload 3) ≠ none ∧
          otherRecord s k (fun r => r.home == finOf 8 (byteAt f.payload 3)) = true then refuse .badValue s
      else doneAnswer (writeProbe k f.payload s) := by
  simp [runProbeSet, finOf_eq_some.mpr hk, choice_value (show 8 ≤ 255 by decide)]

theorem runProbeSet_bad {f : RxFrame} {s : State} (h : probeSetForm f.payload = false) :
    runProbeSet f s = refuse .badValue s := by
  cases hk : finOf 16 (byteAt f.payload 1) <;> simp [runProbeSet, hk, h]

theorem writeProbe_empty {k : Fin 16} {p : List Byte} {s : State} (h : byteAt p 2 = 0) :
    writeProbe k p s = { s with
      probes := { s.probes with table := s.probes.table.set k.val ProbeRecord.empty } } := by
  simp [writeProbe, h, setProbe]

theorem table_set_eq {t : Vector ProbeRecord 16} {k : Fin 16} {r : ProbeRecord} {g : Fin 16 → ProbeRecord}
    (h : ∀ i, i ≠ k → t.get i = g i) : t.set k.val r = tab16 fun i => if i = k then r else g i := by
  refine vector_ext_get fun i => ?_
  rw [vector_get_set, tab16_get]
  split
  · rfl
  · rename_i hi
    exact h i hi

/-- A record written stands at its place, and where it is ON HEAD no other record still is (R128). -/
theorem writeProbe_eq {k : Fin 16} {p : List Byte} {s : State} (h : byteAt p 2 ≠ 0) {location : Location}
    {home : Option (Fin 8)} (hhome : home = finOf 8 (byteAt p 3))
    (hloc : deriveLocation s (byteAt p 2) home = location) :
    writeProbe k p s = { s with
      probes := { s.probes with
        table := tab16 fun i =>
          if i = k then
            { id := byteAt p 2, home := home, location := location, tip := threeAt p 4, allowance := u32At p 16,
              qualified := byteAt p 20 == 1, touches := 0 }
          else if location = .onHead ∧ (s.probes.table.get i).location = .onHead then
            { s.probes.table.get i with location := .unknown }
          else s.probes.table.get i } } := by
  subst hhome
  simp only [writeProbe, h, if_false, choice_value (show 8 ≤ 255 by decide), hloc]
  split
  · rename_i hon
    simp only [hon, true_and, setProbe, mapProbes]
    rw [table_set_eq (g := fun i => if (s.probes.table.get i).location = .onHead then
      { s.probes.table.get i with location := .unknown } else s.probes.table.get i) fun i _ => tab16_get _ i]
  · rename_i hoff
    simp only [hoff, false_and, if_false, setProbe]
    rw [table_set_eq (g := fun i => s.probes.table.get i) fun i _ => rfl]

/-- Settles O45: by the checks of R127 in their order, and the location as head and ports stand. -/
theorem probeSetDerivesTheLocation : Obligations.ProbeSetDerivesTheLocation := by
  intro f s hc hs p h id home form
  have hform : probeSetForm p = true ↔ form := probeSetForm_iff p
  have hbad (hno : ¬ form) : probeSetForm p = false := by simpa using fun hf => hno (hform.mp hf)
  have hacc := anyAccess_heard (f := f) hs
  have hprobes : h.probes = s.probes := heard_probes f s
  refine ⟨fun hno => ?_, fun hf hactive => ?_, fun k hk hf hactive => ?_⟩
  · exact next_command (a := refuse .badValue h) hc hacc (runProbeSet_bad (hbad hno))
  · refine next_command (a := refuse .busy h) hc hacc ?_
    have hk : byteAt f.payload 1 = (⟨byteAt f.payload 1, hf.2.1⟩ : Fin 16).val := rfl
    rw [runProbeSet_of hk, if_neg (by simpa using hform.mpr hf), if_pos (by simpa using hactive)]
  · intro used taken onHead location r table
    have hstart : runProbeSet f h = _ := (runProbeSet_of (s := h) hk).trans (if_neg (by simpa using hform.mpr hf))
    rw [if_neg (by simpa [h] using hactive)] at hstart
    have hused : ((h.probes.table.get k).location = .onHead ∧ motionState h ≠ .idle ∧ motionState h ≠ .held) ↔
        used := by
      simp [used, h]
    have htaken := idTaken_iff (s := h) (k := k) (id := id) (home := home)
    rw [hprobes] at htaken
    have hdone (hu : ¬ used) (ht : ¬ taken) : runProbeSet f h = doneAnswer (writeProbe k p h) := by
      rw [hstart, if_neg fun hx => hu (hused.mp hx), if_neg fun hx => ht (htaken.mp (.inl hx)),
        if_neg fun hx => ht (htaken.mp (.inr hx))]
    refine ⟨fun hu => ?_, fun hu ht => ?_, fun hu ht h0 => ?_, fun hu ht h0 => ?_⟩
    · exact next_command (a := refuse .busy h) hc hacc (hstart.trans (if_pos (hused.mpr hu)))
    · refine next_command (a := refuse .badValue h) hc hacc ?_
      rw [hstart, if_neg fun hx => hu (hused.mp hx)]
      rcases htaken.mpr ht with hid | hhome
      · exact if_pos hid
      · rw [if_pos hhome, ite_self]
    · exact next_command (a := doneAnswer _) hc hacc ((hdone hu ht).trans (congrArg doneAnswer
        ((writeProbe_empty h0).trans (by rw [hprobes]))))
    · have hloc : deriveLocation h id home = location := by
        simp only [deriveLocation, location, onHead, h, heard_lockState, heard_present, heard_probes] <;>
          rfl
      have hon : location = .onHead ↔ onHead := by
        simp only [location]
        split
        · simp [*]
        · rename_i hno
          simp only [hno, iff_false]
          cases home with
          | none => simp
          | some q =>
            simp only
            split <;> simp
      refine next_command (a := doneAnswer _) hc hacc ((hdone hu ht).trans (congrArg doneAnswer
        ((writeProbe_eq h0 rfl hloc).trans ?_)))
      simp only [hon, hprobes]
      rfl

/-! ### A full reset and its end (R183) -/

theorem Straps.fault_iff (x : Straps) : Straps.fault x = true ↔ x.number = 0 ∨ x.number = 31 := by
  simp [Straps.fault]

theorem fullReset_begins (cause : ResetCause) (t : Tick) (s : State) :
    ∃ u, exec (.fullReset cause t) s = .next u ∧ u.inReset = true ∧
      ampOn u = false ∧ (∀ i, u.axis i = { s.axis i with driveOut := 0 }) ∧
      (∀ p, u.probes.ports.get p = { s.probes.ports.get p with lidOpen := false }) ∧
      u.probes.unlockOut = (if cause = .powerOn then false else s.probes.unlockOut) ∧
      u.line.strapFault = false ∧ u.line.attempt = none ∧ u.line.acked = false ∧ u.pins = s.pins := by
  refine ⟨beginReset (cause == .powerOn) (advance t s), rfl, rfl, rfl, fun i => ?_, fun p => ?_, ?_, rfl, rfl, rfl,
    rfl⟩
  · simp [beginReset, closeLidsBut, State.axis]
  · simp [beginReset, closeLidsBut]
  · simp [beginReset, closeLidsBut]

/-- The local figure after a reset is that of no channel (R39). -/
theorem workFigure_afterReset (x : Straps) (s : State) :
    workFigure (afterReset x s) = { value := 20000, quality := .absent } := rfl

/-- Settles O46: the values after a reset are those of the tables, by computation. -/
theorem fullResetBeginsAndEndsWithTheTables : Obligations.FullResetBeginsAndEndsWithTheTables := by
  refine ⟨fullReset_begins, fun x s => ?_, rfl⟩
  intro t fault
  have hf : Straps.fault x = decide fault := by
    rw [Bool.eq_iff_iff, Straps.fault_iff, decide_eq_true_eq]
  have hslots (id : SlotId) : occupied t id = false := by
    cases id with
    | object i => fin_cases i <;> rfl
    | companion i => fin_cases i <;> rfl
    | reply i => fin_cases i <;> rfl
    | _ => rfl
  refine ⟨rfl, rfl, rfl, ?_, rfl, rfl, rfl, ?_, ?_, fun i => ?_, rfl, rfl, ?_, rfl, rfl, rfl, rfl, rfl, rfl,
    fun c => ?_, workFigure_afterReset x s, rfl, fun z => ?_, fun j => ?_, rfl, rfl, fun k => ?_, fun p => ?_, rfl, rfl, rfl,
    hslots, fun k => ?_, rfl⟩
  · simp only [t, ampOn, afterReset, Station.afterReset]
    split <;> simp
  · simp only [t, afterReset, Station.afterReset, hf, decide_eq_true_eq]
  · simp only [t, afterReset, Line.afterReset, hf, decide_eq_true_eq]
  · fin_cases i <;> simp [t, afterReset, State.axis, Vector.get_eq_getElem, Axis.afterReset, AxisRecord.afterReset,
      CompRecord.afterReset]
  · simp only [t, afterReset, hf]
    by_cases h : fault <;> simp [h]
  · simp [t, afterReset, Thermal.afterReset, Vector.get_eq_getElem, Channel.afterReset]
  · simp [t, afterReset, ZoneUnit.afterReset, Vector.get_eq_getElem]
  · simp [t, afterReset, ZoneUnit.afterReset, Vector.get_eq_getElem]
  · simp [t, afterReset, ProbeUnit.afterReset, Vector.get_eq_getElem]
  · simp [t, afterReset, ProbeUnit.afterReset, Vector.get_eq_getElem, Port.afterReset]
  · simp [t, afterReset, Vector.get_eq_getElem, Latch.afterReset]

/-! ### Frames followed (R151, R160 to R164) -/

theorem takenState_eq (l : LineState) : takenState l =
    if l.joined = true then .receiving else if l = .listenIntegrating then .listenAnnouncing else l := by
  cases l <;> rfl

theorem heard_eq (f : RxFrame) (s : State) : heard f s = { advance f.tick s with
    slots := if s.line.state = .listenIntegrating then { s.slots with hello := true } else s.slots
    line := { (advance f.tick s).line with
      lastSof := f.sof, quiet := f.quiet, acked := joined s || s.line.state == .listenAnnouncing
      state := if joined s = true then .receiving
        else if s.line.state = .listenIntegrating then .listenAnnouncing else s.line.state
      idleAt := some ((advance f.tick s).uptime + bitTicks s * 4 - (if s.line.fast = true then 3 else 6)) } } := by
  have hjoined : (advance f.tick s).line.state.joined = joined s := advance_joined f.tick s
  have hlisten (x : LineState) (hx : x.joined = false) : (advance f.tick s).line.state = x ↔ s.line.state = x := by
    rw [advance_line]
    exact Line.progress_state_eq_iff _ _ _ hx
  have hack : acknowledges (advance f.tick s) = (joined s || s.line.state == .listenAnnouncing) := by
    rw [acknowledges, advance_joined, Bool.eq_iff_iff]
    simp only [Bool.or_eq_true, beq_iff_eq, hlisten .listenAnnouncing rfl]
  have hstate : takenState (advance f.tick s).line.state = if joined s = true then .receiving
      else if s.line.state = .listenIntegrating then .listenAnnouncing else s.line.state := by
    rw [takenState_eq, hjoined]
    simp only [hlisten .listenIntegrating rfl]
    by_cases hj : joined s = true
    · rw [if_pos hj, if_pos hj]
    · rw [if_neg hj, if_neg hj, advance_line, Line.progress_state_of_not_joined _ _ (by simpa [joined] using hj)]
  have hidle : idleAfter (advance f.tick s) 4 =
      (advance f.tick s).uptime + bitTicks s * 4 - (if s.line.fast = true then 3 else 6) := by
    simp [idleAfter, bitTicks, readLead]
  unfold heard frameTaken
  dsimp only [mapLine]
  rw [hack, hstate, hidle]
  simp only [hlisten .listenIntegrating rfl]
  split <;> rfl

theorem advance_follows {t : Tick} {s : State} (hon : s.line.state ≠ .offline) (ha : s.line.attempt = none) :
    followsFrames (advance t s) = true := by
  rw [advance_followsFrames]
  simp [followsFrames, hon, ha]

/-- Out of reset a frame that the station follows, of another sender, is taken; what its kind does is done only where
the interpreter looks at it (R163, R164). -/
theorem receive_follows {kind : Nat} {f : RxFrame} {body : State → State} {s : State} (h : s.inReset = false)
    (hon : s.line.state ≠ .offline) (ha : s.line.attempt = none) (hn : f.sender.toNat ≠ s.line.number) :
    receive kind f body s =
      finish (if interpreted kind f = true then overlapCheck (body (heard f s)) else heard f s) := by
  rw [receive, timed_awake h, if_pos (advance_follows hon ha), if_neg (by simpa using hn)]
  rfl

theorem not_interpreted {kind : Nat} {f : RxFrame}
    (h : classOf kind ≠ some f.cls.toNat ∨ f.sender = 0 ∨ f.sender = 31) : interpreted kind f = false := by
  rcases h with h | h | h <;> simp [interpreted, h]

theorem receive_pass {kind : Nat} {f : RxFrame} {s : State} (h : Hears kind f s) :
    (.next (receive kind f id s) : Host.Outcome State Fault Refusal) = .next (settled (heard f s)) := by
  rw [receive_hears h, id]

/-- Settles O52: what every frame taken sets, and which frames reach a block. -/
theorem framesAreFollowedAndIgnoredByRule : Obligations.FramesAreFollowedAndIgnoredByRule := by
  refine ⟨fun kind cmd f s hh hrow => ?_, heard_eq, fun f s hr hon ha hn => ⟨?_, fun kind body hno => ?_⟩,
    fun f s kind body hr => ⟨fun hon ha hn => ?_, fun hno => ?_⟩⟩
  · simp only [List.mem_cons, Prod.mk.injEq, List.not_mem_nil, or_false] at hrow
    rcases hrow with ⟨rfl, rfl⟩ | ⟨rfl, rfl⟩ | ⟨rfl, rfl⟩ | ⟨rfl, rfl⟩ <;> exact receive_pass hh
  · have hnone : interpreted 31 f = false := not_interpreted (.inl (by simp [classOf]))
    exact congrArg Host.Outcome.next ((receive_follows hr hon ha hn).trans (by rw [hnone]; rfl))
  · rw [receive_follows hr hon ha hn, not_interpreted hno]
    rfl
  · rw [receive, timed_awake hr, if_pos (advance_follows hon ha), if_pos (by simpa using hn)]
  · have hf : followsFrames (advance f.tick s) = false := by
      rw [advance_followsFrames]
      rcases hno with h | h
      · simp [followsFrames, h]
      · simp [followsFrames, Option.isNone_eq_false_iff, Option.isSome_iff_ne_none, h]
    rw [receive, timed_awake hr, if_neg (by simp [hf])]

end Sys2Proof.Machine

/-! The zone unit: releases, claims heard, the own claim and the holds that ripen. -/

namespace Sys2Proof.Machine

/-- A frame that the station hears comes to its effect once heard. -/
theorem next_heard {kind : Nat} {f : RxFrame} {body : State → State} {s u : State} (h : Hears kind f s)
    (hu : body (heard f s) = u) :
    (.next (receive kind f body s) : Host.Outcome State Fault Refusal) = .next (settled u) := by
  rw [receive_hears h, hu]

theorem sized_of {len : Nat} {f : RxFrame} {body : State → State} (h : f.payload.length = len) (s : State) :
    sized len f body s = body s := if_pos h

theorem sized_other {len : Nat} {f : RxFrame} {body : State → State} (h : f.payload.length ≠ len) (s : State) :
    sized len f body s = s := if_neg h

theorem ZoneSet.eq_zero_iff {x : ZoneSet} : x = 0 ↔ ∀ z, ZoneSet.has x z = false := by
  constructor
  · exact fun h => ZoneSet.has_of_ne_zero h
  · intro h
    exact BitVec.eq_of_getLsbD_eq fun i hi => (h ⟨i, hi⟩).trans (ZoneSet.has_zero ⟨i, hi⟩).symm

/-! ### The own claim -/

/-- The queue with its head no longer CLAIMING (R67). -/
def unclaimedQueue : List Segment → List Segment
  | [] => []
  | seg :: rest => unclaimed seg :: rest

theorem unclaimHead_eq (s : State) :
    unclaimHead s = { s with motion := { s.motion with queue := unclaimedQueue s.motion.queue } } := by
  cases hq : s.motion.queue with
  | nil =>
    rw [unclaimHead_nil hq, unclaimedQueue, ← hq]
  | cons seg rest => rw [unclaimHead_cons hq]; rfl

/-- A QUEUED claim whose frame is not in flight is withdrawn at once (R90). -/
theorem withdrawClaim_queued {s : State} {x : ZoneSet} {o : Bool} (hc : s.zones.claim = .queued x o)
    (hf : inFlight s .claim = false) :
    withdrawClaim s = { s with
      zones := { s.zones with claim := .none }
      slots := { s.slots with claim := none }
      motion := { s.motion with queue := unclaimedQueue s.motion.queue } } := by
  simp only [withdrawClaim, hc, hf, Bool.false_eq_true, if_false]
  rw [unclaimHead_eq]
  rfl

theorem withdrawClaim_none {s : State} (hc : ∀ x o, s.zones.claim ≠ .queued x o) : withdrawClaim s = s := by
  unfold withdrawClaim
  split
  · rename_i hq
    exact absurd hq (hc _ _)
  · rfl

theorem firmClaim_eq (s : State) : firmClaim s = { s with
    zones := { s.zones with
      claim := .none
      view := tab16 fun z => match s.zones.view.get z with
        | some k => if k.holder = s.line.number then some { k with standing := .firm } else some k
        | none => none }
    motion := { s.motion with queue := unclaimedQueue s.motion.queue } } := by
  rw [firmClaim, unclaimHead_eq]
  rfl

theorem failWindow_window {s : State} {x : ZoneSet} {b : Nat} (hc : s.zones.claim = .window x b) :
    failWindow s = { s with
      zones := { s.zones with claim := .none }
      motion := { s.motion with queue := unclaimedQueue s.motion.queue } } := by
  simp only [failWindow, hc]
  rw [unclaimHead_eq]
  rfl

theorem failWindow_none {s : State} (hc : ∀ x b, s.zones.claim ≠ .window x b) : failWindow s = s := by
  unfold failWindow
  split
  · rename_i hq
    exact absurd hq (hc _ _)
  · rfl

/-- Settles O33: the window ends 16 ms after it began. -/
theorem ownClaimBecomesFirm : Obligations.OwnClaimBecomesFirm := by
  refine ⟨fun t s x began hr hc hdue => ?_, fun t s hr hno => ?_⟩
  · refine next_timed hr ?_
    have hexp : windowExpire (advance t s) = autoRelease (firmClaim (advance t s)) := by
      simp only [windowExpire, advance_zones, hc]
      exact if_pos hdue
    rw [hexp, firmClaim_eq]
    simp only [advance_zones, advance_motion, advance_line, Line.progress_number]
    rfl
  · refine next_timed hr ?_
    unfold windowExpire
    split
    · rename_i x began hc
      exact if_neg (Nat.not_le.mpr (hno x began (by simpa using hc)))
    · rfl

/-! ### Releases -/

/-- A release of no zones leaves every entry of the view. -/
theorem freeHeldBy_zero (c : Nat) (s : State) : freeHeldBy c 0 s = s := by
  have hview : (freeHeldBy c 0 s).zones.view = s.zones.view := by
    refine vector_ext_get fun z => ?_
    rw [freeHeldBy_view]
    cases s.zones.view.get z with
    | none => rfl
    | some k => exact if_neg (by simp)
  calc freeHeldBy c 0 s = { s with zones := { s.zones with view := (freeHeldBy c 0 s).zones.view } } := rfl
    _ = s := by rw [hview]

theorem freeHeldBy_get (c : Nat) (x : ZoneSet) (s : State) (z : Fin 16) : (freeHeldBy c x s).zones.view.get z =
    if ZoneSet.has x z = true ∧ ∃ k, s.zones.view.get z = some k ∧ k.holder = c then none
    else s.zones.view.get z := by
  rw [freeHeldBy_view]
  cases s.zones.view.get z with
  | none => simp
  | some k =>
    by_cases hk : k.holder = c <;> simp [hk]

/-- Settles O31: a release entry by entry, and the ripening of every hold. -/
theorem holdsOfOthersRipenAndAreReleased : Obligations.HoldsOfOthersRipenAndAreReleased := by
  refine ⟨⟨fun f s hh => ?_, fun s => rfl⟩, fun t s hr => next_timed hr ?_⟩
  · intro h r
    refine ⟨fun hl => next_heard hh (sized_other hl _), fun hl => ?_⟩
    refine ⟨(freeHeldBy f.sender.toNat r h).zones.view, next_heard hh ((sized_of hl _).trans ?_), fun z => ?_,
      fun hr => ?_⟩
    · rw [show s.zones = h.zones from (heard_zones f s).symm]
      rfl
    · rw [freeHeldBy_get, show h.zones = s.zones from heard_zones f s]
    · rw [hr, freeHeldBy_zero, show h.zones = s.zones from heard_zones f s]
  · unfold mapView ripen
    simp only [advance_zones, advance_line, Line.progress_number]
    rfl

/-! ### Auto-release (R81, R100) -/

theorem has_and_compl {x y : ZoneSet} {z : Fin 16} :
    ZoneSet.has (x &&& ~~~y) z = true ↔ ZoneSet.has x z = true ∧ ZoneSet.has y z = false := by
  rw [ZoneSet.has_and, ZoneSet.has_compl, Bool.and_eq_true, Bool.not_eq_true']

theorem autoRelease_unjoined {s : State} (hj : joined s = false) : autoRelease s = s := releaseZones_unjoined hj

theorem autoRelease_view {s : State} (hj : joined s = true) (z : Fin 16) : (autoRelease s).zones.view.get z =
    if ZoneSet.has (firmZones s &&& ~~~keepSet s) z = true then none else s.zones.view.get z :=
  releaseZones_view (fun _ hz => (has_and_compl.mp hz).1) hj z

/-- What is still FIRM to the station after auto-release lies in the keep set. -/
theorem autoRelease_kept {s : State} (hj : joined s = true) {z : Fin 16}
    (hz : ZoneSet.has (firmZones (autoRelease s)) z = true) : ZoneSet.has (keepSet s) z = true := by
  obtain ⟨k, hv, hown, hfirm⟩ := has_firmZones.mp hz
  rw [autoRelease_view hj] at hv
  rw [(motionOnly_autoRelease s).number] at hown
  by_contra hkeep
  have hfz : ZoneSet.has (firmZones s) z = true := by
    split at hv
    · cases hv
    · exact has_firmZones.mpr ⟨k, hv, hown, hfirm⟩
  rw [if_pos (has_and_compl.mpr ⟨hfz, by simpa using hkeep⟩)] at hv
  cases hv

theorem Slot.put_empty {α : Type} {flying : Bool} {merge : α → α → α} {x : α} {sl : Slot α} (h : sl.frame = none) :
    sl.put flying merge x = { frame := some x, amend := none } := by
  simp [Slot.put, h]

theorem Slot.put_waiting {α : Type} {merge : α → α → α} {x y : α} {sl : Slot α} (h : sl.frame = some y) :
    sl.put false merge x = { sl with frame := some (merge y x) } := by
  simp [Slot.put, h]

theorem Slot.put_flying {α : Type} {merge : α → α → α} {x y : α} {sl : Slot α} (h : sl.frame = some y) :
    sl.put true merge x = { sl with amend := some (match sl.amend with
      | some a => merge a x
      | none => x) } := by
  simp only [Slot.put, h, if_true]
  cases sl.amend <;> rfl

/-- Settles O34: auto-release is the release of the FIRM zones outside the keep set. -/
theorem autoReleaseKeepsOnlyTheKeepSet : Obligations.AutoReleaseKeepsOnlyTheKeepSet := by
  refine ⟨fun s hj => ?_, fun s hj => autoRelease_unjoined hj, fun s hm => if_pos hm, fun s hm => if_neg hm⟩
  intro out t
  refine ⟨autoRelease_view hj, fun z hz => autoRelease_kept hj hz, 
    fun hout => ⟨fun hf => ?_, fun y hf => ⟨fun hfl => ?_, fun hfl => ?_⟩⟩, fun hout => ?_, releaseZones_eq _ _⟩
  · exact (releaseZones_slot hout hj).trans (Slot.put_empty hf)
  · refine (releaseZones_slot hout hj).trans ?_
    rw [hfl, Slot.put_waiting hf]
    rfl
  · refine (releaseZones_slot hout hj).trans ?_
    rw [hfl, Slot.put_flying hf, hf]
    cases s.slots.release.amend with
    | none => simp [Option.getD]
    | some a => rfl
  · exact if_pos (.inl hout)

/-! ### Claims heard (R90, R92, R93) -/

theorem has_ownZones {s : State} {z : Fin 16} : ZoneSet.has (ownZones s) z = true ↔
    ∃ k, s.zones.view.get z = some k ∧ k.holder = s.line.number := by
  rw [ownZones, viewZones, zoneSet_has]
  cases s.zones.view.get z with
  | none => simp [heldBySelf]
  | some k => simp [heldBySelf]

theorem has_otherZones {s : State} {z : Fin 16} : ZoneSet.has (otherZones s) z = true ↔
    ∃ k, s.zones.view.get z = some k ∧ k.holder ≠ s.line.number := by
  rw [otherZones, viewZones, zoneSet_has]
  cases s.zones.view.get z with
  | none => simp [heldByOther]
  | some k => simp [heldByOther]

theorem heldBySelf_congr {s t : State} (hn : t.line.number = s.line.number) : heldBySelf t = heldBySelf s := by
  funext x
  cases x <;> simp [heldBySelf, hn]

theorem heard_ownZones (f : RxFrame) (s : State) : ownZones (heard f s) = ownZones s := by
  simp only [ownZones, viewZones, heard_zones, heldBySelf_congr (heard_line_number f s)]

/-- The first of the three slots that satisfies `p`. -/
theorem objectIds_find {p : Fin 3 → Bool} {i : Fin 3} (hp : p i = true) (hb : ∀ j, j < i → p j = false) :
    objectIds.find? p = some i := by
  have hids : objectIds = List.finRange 3 := by decide
  rw [hids, List.find?_eq_some_iff_getElem]
  refine ⟨hp, i.val, by simp, by simp, fun j hj => ?_⟩
  rw [List.getElem_finRange, hb _ hj]
  rfl

theorem objectIds_find_none {p : Fin 3 → Bool} (hp : ∀ i, p i = false) : objectIds.find? p = none := by
  simp [List.find?_eq_none, hp]

/-- Slot `i` holds an objection that names station `c`. -/
def namesClaimant (s : State) (c : Nat) (i : Fin 3) : Bool :=
  match (s.slots.objects.get i).frame with
  | some x => x.claimant == c
  | none => false

theorem namesClaimant_iff {s : State} {c : Nat} {i : Fin 3} : namesClaimant s c i = true ↔
    ∃ y, (s.slots.objects.get i).frame = some y ∧ y.claimant = c := by
  unfold namesClaimant
  cases (s.slots.objects.get i).frame with
  | none => simp
  | some y => simp

theorem objectSlot_eq (s : State) (c : Nat) : objectSlot s c = match objectIds.find? (namesClaimant s c) with
    | some i => some i
    | none => objectIds.find? fun i => (s.slots.objects.get i).frame.isNone := rfl

theorem objectSlot_named {s : State} {c : Nat} {i : Fin 3} (hi : namesClaimant s c i = true)
    (hb : ∀ j, j < i → namesClaimant s c j = false) : objectSlot s c = some i := by
  rw [objectSlot_eq, objectIds_find hi hb]

theorem objectSlot_unnamed {s : State} {c : Nat} (h : ∀ i, namesClaimant s c i = false) :
    objectSlot s c = objectIds.find? fun i => (s.slots.objects.get i).frame.isNone := by
  rw [objectSlot_eq, objectIds_find_none h]

theorem objectSlot_congr {s t : State} {c : Nat} (h : t.slots.objects = s.slots.objects) :
    objectSlot t c = objectSlot s c := by
  simp only [objectSlot, h]

/-- The view at the end of a claim frame, entry by entry (R92). -/
theorem hearClaim_view (c : Nat) (x : ZoneSet) (s : State) :
    mapView (fun z h => if ZoneSet.has x z then claimedEntry c s.uptime h else h) s =
      { s with zones := { s.zones with
          view := tab16 fun z =>
            if ZoneSet.has x z = true then
              match s.zones.view.get z with
              | none => some { holder := c, standing := .tentative, since := s.uptime }
              | some k => if k.holder = c ∧ k.standing = .tentative then some { k with since := s.uptime } else some k
            else s.zones.view.get z } } := rfl

theorem mapView_id {g : Fin 16 → Option Hold → Option Hold} {s : State}
    (h : ∀ z, g z (s.zones.view.get z) = s.zones.view.get z) : mapView g s = s := by
  have hview : (mapView g s).zones.view = s.zones.view := vector_ext_get fun z => by
    rw [mapView_zones, tab16_get, h]
  calc mapView g s = { s with zones := { s.zones with view := (mapView g s).zones.view } } := rfl
    _ = s := by rw [hview]

/-- A claim for no zones changes nothing. -/
theorem hearClaim_zero (c : Nat) (s : State) : hearClaim c 0 s = s := by
  have hview := mapView_id (s := s) (g := fun z h => if ZoneSet.has 0 z then claimedEntry c s.uptime h else h)
    fun z => if_neg (by simp)
  rw [hearClaim, hview]
  exact if_pos (by simp)

/-- A queued claim of which another station holds a zone is overlapped (R90). -/
theorem overlaps_iff {s : State} {x : ZoneSet} : x &&& otherZones s ≠ 0 ↔
    ∃ z k, ZoneSet.has x z = true ∧ s.zones.view.get z = some k ∧ k.holder ≠ s.line.number := by
  rw [ne_eq, ZoneSet.eq_zero_iff, not_forall]
  refine exists_congr fun z => ?_
  rw [Bool.not_eq_false, ZoneSet.has_and, Bool.and_eq_true, has_otherZones, exists_and_left]

/-- What every step ends with after a frame, by whether a QUEUED claim is overlapped. -/
theorem settled_cases (u : State) :
    let taken := ∃ x outlived z k, u.zones.claim = .queued x outlived ∧ ZoneSet.has x z = true ∧
      u.zones.view.get z = some k ∧ k.holder ≠ u.line.number
    (¬ taken → settled u = finish u) ∧
    (taken → inFlight u .claim = false → settled u = finish { u with
      zones := { u.zones with claim := .none }
      slots := { u.slots with claim := none }
      motion := { u.motion with queue := unclaimedQueue u.motion.queue } }) := by
  intro taken
  refine ⟨fun hno => ?_, fun ⟨x, o, z, k, hc, hz, hv, hk⟩ hf => ?_⟩
  · have hover : overlapCheck u = u := by
      unfold overlapCheck
      split
      · rename_i x o hc
        refine if_pos ?_
        by_contra hne
        obtain ⟨z, k, hz, hv, hk⟩ := overlaps_iff.mp hne
        exact hno ⟨x, o, z, k, hc, hz, hv, hk⟩
      · rfl
    rw [settled, hover]
  · have hover : overlapCheck u = withdrawClaim u := by
      simp only [overlapCheck, hc]
      exact if_neg (overlaps_iff.mpr ⟨z, k, hz, hv, hk⟩)
    rw [settled, hover, withdrawClaim_queued hc hf]

/-- Settles O29: the view entry by entry, the slot of the objection, and the check of a queued claim. -/
theorem claimHeardChangesTheView : Obligations.ClaimHeardChangesTheView := by
  refine ⟨fun f s hh => ?_, fun s c => ?_, fun u => settled_cases u⟩
  · intro h c x mine entry w
    have hview : mapView (fun z k => if ZoneSet.has x z then claimedEntry c h.uptime k else k) h = w := by
      rw [hearClaim_view, show h.zones = s.zones from heard_zones f s] <;> rfl
    have hmine : x &&& ownZones h = mine := congrArg (x &&& ·) (heard_ownZones f s)
    have hclaim : hearClaim c x h = if mine = 0 then w else placeObjection c mine w := by
      rw [hearClaim, hmine, hview]
    have hw : w.slots.objects = s.slots.objects := heard_slots_objects f s
    have hfree (i : Fin 3) : inFlight w (.object i) = false :=
      not_inFlight ((heard_line_attempt f s).trans hh.noAttempt)
    have hrun (hl : f.payload.length = 2) {u : State} (hu : hearClaim c x h = u) :
        exec (.zoneClaimReceived f) s = .next (settled u) := next_heard hh ((sized_of hl _).trans hu)
    refine ⟨fun z => ?_, fun hl => next_heard hh (sized_other hl _), fun hl h0 => ?_, fun hl h0 hj i hi => ?_,
      fun hl h0 hno => ?_, fun hx => ?_⟩
    · rw [ZoneSet.has_and, Bool.and_eq_true, has_ownZones]
    · exact hrun hl (hclaim.trans (if_pos h0))
    · refine hrun hl ((hclaim.trans (if_neg h0)).trans ?_)
      have hslot : objectSlot w c = some i := (objectSlot_congr hw).trans hi
      have hjw : joined w = true := hj
      rw [placeObjection, if_pos hjw]
      simp only [hslot, hfree, hw]
      cases hfr : (s.slots.objects.get i).frame with
      | none => rw [Slot.put_empty hfr]
      | some y => rw [Slot.put_waiting hfr]; rfl
    · refine hrun hl ((hclaim.trans (if_neg h0)).trans ?_)
      have hlatch : latchNotice (.zoneConflict c mine false) w = { w with
          notices := s.notices.set 3 ((s.notices.get 3).event (.zoneConflict c mine false)) } := by
        rw [show s.notices = w.notices from (heard_notices f s).symm]
        rfl
      rw [← hlatch, placeObjection]
      rcases hno with hj | hslot
      · exact if_neg (by rw [show joined w = joined h from rfl, hj]; decide)
      · rw [show objectSlot w c = none from (objectSlot_congr hw).trans hslot]
        exact ite_self _
    · by_cases hl : f.payload.length = 2
      · exact hrun hl (hx ▸ hearClaim_zero c h)
      · exact next_heard hh (sized_other hl _)
  · intro names
    have hnames (i : Fin 3) : ¬ names i ↔ namesClaimant s c i = false := by
      rw [← Bool.not_eq_true, namesClaimant_iff]
    refine ⟨fun i hi hb => objectSlot_named (namesClaimant_iff.mpr hi) fun j hj => (hnames j).mp (hb j hj),
      fun hno => ⟨fun i hi hb => ?_, fun hfull => ?_⟩⟩
    · rw [objectSlot_unnamed fun j => (hnames j).mp (hno j)]
      exact objectIds_find (by simp [hi]) fun j hj => by simpa [Option.isSome_iff_ne_none] using hb j hj
    · rw [objectSlot_unnamed fun j => (hnames j).mp (hno j)]
      exact objectIds_find_none fun j => by simpa [Option.isSome_iff_ne_none] using hfull j

end Sys2Proof.Machine

/-! The trigger, the wait for a companion, and the figures of the temperature unit. -/

namespace Sys2Proof.Machine

theorem due_some {s : State} {d : Nat} {timer : Option Nat} (h : timer = some d) :
    s.due timer = decide (d ≤ s.uptime) := by
  simp [State.due, h]

theorem not_due {s : State} {timer : Option Nat} (h : ∀ d, timer = some d → s.uptime < d) : s.due timer = false := by
  cases ht : timer with
  | none => simp [State.due]
  | some d => simpa [State.due] using h d ht

@[simp] theorem heard_uptime (f : RxFrame) (s : State) : (heard f s).uptime = (advance f.tick s).uptime := by
  unfold heard frameTaken
  dsimp only
  split <;> rfl

theorem heard_tick (f : RxFrame) (s : State) : (heard f s).tick = f.tick := by
  rw [State.tick, heard_uptime]
  exact advance_tick f.tick s

/-! ### The trigger (R15, R105) -/

/-- From `s` to `t` motion, zones, probes, slots and notices may change, and of the capture unit the points and their
counter. -/
def TouchOnly (s t : State) : Prop := ∃ points counter,
  MotionOnly { s with capture := { s.capture with points := points, counter := counter } } t

theorem MotionOnly.touchOnly {s t : State} (h : MotionOnly s t) : TouchOnly s t :=
  ⟨s.capture.points, s.capture.counter, h⟩

theorem motionOnly_disqualify (s : State) : MotionOnly s (disqualify s) := by
  unfold disqualify
  split
  · exact motionOnly_setProbe _ _ s
  · exact .refl s

theorem motionOnly_latchCollision (seg : Segment) (s : State) : MotionOnly s (latchCollision seg s) :=
  motionOnly_latchNotice _ s

theorem motionOnly_collide (seg : Segment) (s : State) : MotionOnly s (collide seg s) :=
  ((motionOnly_latchCollision seg s).trans (motionOnly_disqualify _)).trans (motionOnly_controlledStop _ _)

theorem motionOnly_rackTouch (s : State) : MotionOnly s (rackTouch s) := by
  unfold rackTouch
  split
  · exact .refl s
  · rename_i seg rest hq
    split
    · dsimp only
      refine ((motionOnly_latchCollision seg s).trans (motionOnly_disqualify _)).trans (MotionOnly.trans ?_
        ((motionOnly_controlledStop _ _).trans (motionOnly_finishChange _)))
      split
      · exact .refl _
      · exact motionOnly_failTaken _ _ _
    · exact .refl s

theorem touchOnly_formPoint (seg : Segment) (k : Fin 16) (r : ProbeRecord) (cap : Capture) (s : State) :
    TouchOnly s (formPoint seg k r cap s) :=
  ⟨s.capture.points ++ [pointOf s seg r cap], s.capture.counter + 1,
    (motionOnly_setProbe _ _ _).trans (motionOnly_controlledStop _ _)⟩

theorem touchOnly_eligibleEdge (cap : Capture) (s : State) : TouchOnly s (eligibleEdge cap s) := by
  unfold eligibleEdge
  split
  · exact (motionOnly_rackTouch s).touchOnly
  · split
    · split
      · unfold classifyTouch
        split
        · exact (MotionOnly.refl s).touchOnly
        · split
          · exact touchOnly_formPoint _ _ _ _ _
          · exact (motionOnly_collide _ s).touchOnly
          · exact (motionOnly_collide _ s).touchOnly
          · exact (motionOnly_collide _ s).touchOnly
          · exact (motionOnly_collide _ s).touchOnly
          · exact (MotionOnly.refl s).touchOnly
      · exact (MotionOnly.refl s).touchOnly
    · exact (MotionOnly.refl s).touchOnly

/-- The latch of an edge, as it is loaded (R15). -/
def edgeLatch (s : State) : Capture :=
  { tick := s.tick, counts := tab4 fun i => if s.live i then (s.axis i).position else 0 }

/-- The state once the latch is loaded and the re-seat spent (R15, R105). -/
def edgeLoaded (s : State) : State :=
  { s with latch := some (edgeLatch s), capture := { s.capture with reseat := .spent, reseatTimer := none } }

theorem deflect_eq (s : State) :
    deflect s = if s.capture.reseat = .ready then eligibleEdge (edgeLatch s) (edgeLoaded s) else edgeLoaded s := by
  unfold deflect
  cases h : s.capture.reseat <;> simp [loadLatch, mapCapture, edgeLoaded, edgeLatch, h]

theorem touchOnly_deflect (s : State) : TouchOnly (edgeLoaded s) (deflect s) := by
  rw [deflect_eq]
  split
  · exact touchOnly_eligibleEdge _ _
  · exact (MotionOnly.refl _).touchOnly

theorem pins_deflected {s : State} {b : Bool} (h : s.pins.deflected = b) : { s.pins with deflected := b } = s.pins := by
  rw [← h]

theorem pins_deflected_ne {s : State} {b : Bool} (h : s.pins.deflected = !b) :
    { s.pins with deflected := b } ≠ s.pins := by
  intro he
  have hd := congrArg Pins.deflected he
  rw [h] at hd
  cases b <;> cases hd

theorem referenceMark_latch (i : Fin 4) (s : State) : (referenceMark i s).latch = s.latch := by
  unfold referenceMark
  split
  · rfl
  · split
    · simp
    · rfl

/-- What an edge to DEFLECTED leaves, whatever is then done with the touch. -/
theorem triggerDeflected_effect {t : Tick} {s : State} (hr : s.inReset = false) (hp : s.pins.deflected = false) :
    ∃ u, exec (.triggerDeflected t) s = .next u ∧
      u.latch = some { tick := t, counts := tab4 fun i => if s.live i = true then (s.axis i).position else 0 } ∧
      u.capture.reseat = .spent ∧ u.capture.reseatTimer = none ∧ u.axes = s.axes ∧ u.thermal = s.thermal ∧
      u.station = s.station ∧ u.gate = s.gate ∧ u.pins = { s.pins with deflected := true } := by
  refine ⟨_, next_input_edge hr (pins_deflected_ne (by simpa using hp)) rfl, ?_⟩
  obtain ⟨points, counter, h⟩ := touchOnly_deflect { advance t s with pins := { s.pins with deflected := true } }
  have htick : State.tick { advance t s with pins := { s.pins with deflected := true } } = t := advance_tick t s
  refine ⟨?_, ?_, ?_, ?_, ?_, ?_, ?_, ?_⟩
  · rw [finish_latch, h.latch]
    simp only [edgeLoaded, edgeLatch, htick]
    rfl
  · rw [finish_reseat, h.capture]
    rfl
  · rw [finish_eq, h.capture]
    rfl
  · rw [finish_axes, h.axes]
    rfl
  · rw [finish_thermal, h.thermal]
    rfl
  · rw [finish_station, h.station]
    rfl
  · rw [finish_gate, h.gate]
    rfl
  · rw [finish_pins, h.pins]
    rfl

/-- Settles O36: an edge by its input, the latch, the re-seat and its timer. -/
theorem triggerEdgesLoadTheLatchAndReseat : Obligations.TriggerEdgesLoadTheLatchAndReseat := by
  refine ⟨⟨fun t s hr hp => ?_, fun t s hr hp => next_input_same hr (pins_deflected hp), fun x s => rfl,
      referenceMark_latch⟩,
    fun t s hr hp => ?_, fun t s hr hp => next_input_same hr (pins_deflected hp), fun t s d hr ht hd hp => ?_,
    fun t s hr hno => ?_⟩
  · intro latch
    refine ⟨triggerDeflected_effect hr hp, fun hspent => ?_⟩
    refine next_input_edge hr (pins_deflected_ne (by simpa using hp)) ?_
    have hready : (advance t s).capture.reseat ≠ .ready := by simp [hspent]
    have htick : State.tick { advance t s with pins := { s.pins with deflected := true } } = t := advance_tick t s
    have hlatch : edgeLatch { advance t s with pins := { s.pins with deflected := true } } = latch := by
      rw [edgeLatch, htick]
      rfl
    have hcapture : ({ s.capture with reseat := .spent, reseatTimer := none } : CaptureUnit) =
        { s.capture with reseatTimer := none } := by rw [← hspent]
    rw [deflect_eq, if_neg hready, edgeLoaded, hlatch]
    simp only [advance_capture, hcapture]
  · exact next_input_edge hr (pins_deflected_ne (by simpa using hp)) (by simp only [mapCapture, advance_capture]; rfl)
  · refine next_timed hr ?_
    have hdue : (advance t s).due s.capture.reseatTimer = true := by
      rw [due_some ht, decide_eq_true_eq]
      exact hd
    rw [reseatExpire, advance_capture, advance_pins, hdue, hp, if_pos (by decide)]
    simp only [mapCapture, advance_capture]
  · refine next_timed hr ?_
    rw [reseatExpire, advance_capture, advance_pins]
    rcases hno with hp | hno
    · rw [hp, if_neg (by simp)]
    · rw [not_due hno, if_neg (by simp)]

/-! ### The wait for a companion (R117, R118) -/

/-- The TOUCH of a point is withdrawn from its slot, or the withdrawal held on its attempt (R117, R155). -/
theorem withdrawTouch_eq (n : BitVec 16) (s : State) :
    withdrawTouch n s =
      if s.slots.touch.map (fun x => x.point) = some n then
        if inFlight s .touch = true then holdWithdrawal s else { s with slots := { s.slots with touch := none } }
      else s := by
  unfold withdrawTouch
  cases s.slots.touch with
  | none => rfl
  | some f => simp

theorem inFlight_iff {s : State} {id : SlotId} :
    inFlight s id = true ↔ s.line.attempt.map (fun x => x.slot) = some id := by
  unfold inFlight
  cases s.line.attempt with
  | none => simp
  | some a => simp

/-- A record whose companion timer has run out (R117). -/
def companionDue (n : BitVec 16) (s : State) (r : PointRecord) : Bool :=
  r.number == n && r.state == .awaiting && s.due r.timer

theorem companionExpire_some {n : BitVec 16} {s : State} (h : ∃ r ∈ s.capture.points, companionDue n s r = true) :
    companionExpire n s = withdrawTouch n { s with capture := { s.capture with
      points := s.capture.points.map fun r => if companionDue n s r = true then r.missing else r } } := by
  rw [companionExpire]
  exact if_pos (List.any_eq_true.mpr h)

theorem companionExpire_none {n : BitVec 16} {s : State} (h : ∀ r ∈ s.capture.points, companionDue n s r = false) :
    companionExpire n s = s := by
  rw [companionExpire]
  refine if_neg fun hany => ?_
  obtain ⟨r, hr, hdue⟩ := List.any_eq_true.mp hany
  exact Bool.false_ne_true ((h r hr).symm.trans hdue)

/-- Settles O39: the records due, and the record a COMPANION is for. -/
theorem awaitingPointsBecomeReady : Obligations.AwaitingPointsBecomeReady := by
  refine ⟨fun n t s hr => ?_, fun f s hh => ?_⟩
  · intro due missing here flying line
    have hdue (r : PointRecord) : companionDue n (advance t s) r = due r := rfl
    refine ⟨fun hsome => next_timed hr ?_,
      fun hnone => next_timed hr (companionExpire_none (by simpa [hdue] using hnone))⟩
    have hattempt : (advance t s).line.attempt = s.line.attempt := by simp
    rw [companionExpire_some (by simpa [hdue] using hsome), withdrawTouch_eq]
    simp only [advance_slots, advance_capture, inFlight_iff, hattempt]
    by_cases hh : here
    · by_cases hf : flying
      · rw [if_pos hh, if_pos hf]
        simp only [hh, hf, not_true_eq_false, and_false, and_self, if_true, if_false]
        rfl
      · rw [if_pos hh, if_neg hf]
        simp only [hh, hf, not_false_eq_true, and_self, and_false, if_true, if_false]
        rfl
    · rw [if_neg hh]
      simp only [hh, false_and, if_false]
      rfl
  · intro h p mine merged
    refine ⟨fun hm => next_heard hh ((sized_of hm.1 _).trans ?_), fun hno => next_heard hh ?_⟩
    · rw [hearCompanion, heard_line_number, if_pos hm.2]
      have hmerged (r : PointRecord) :
          (if mergesInto f.sender.toNat (BitVec.ofNat 16 (u16At p 1)) r = true then
            (if byteAt p 7 = 0 then r.answered (s32At p 3) else r.missing) else r) = merged r := by
        simp only [mergesInto, Bool.and_eq_true, beq_iff_eq, merged, and_assoc]
        rfl
      simp only [mergeCompanion, mapPoints, mapCapture, heard_capture, show f.payload = p from rfl, hmerged]
      rfl
    · by_cases hl : f.payload.length = 8
      · rw [sized_of hl, hearCompanion, heard_line_number, if_neg fun ha => hno ⟨hl, ha⟩]
      · exact sized_other hl _

/-! ### Figures (R32 to R36) -/

theorem channelFigure_valid {ch : Channel} (h : ch.state = .valid) :
    channelFigure ch = { value := ch.average, quality := .fresh } := by simp [channelFigure, h]

theorem channelFigure_held {ch : Channel} (h : ch.state = .held) :
    channelFigure ch = { value := ch.average, quality := .stale } := by simp [channelFigure, h]

theorem channelFigure_absent {ch : Channel} (hv : ch.state ≠ .valid) (hh : ch.state ≠ .held) :
    channelFigure ch = { value := 20000, quality := .absent } := by
  unfold channelFigure
  split
  · exact absurd ‹_› hv
  · exact absurd ‹_› hh
  · rfl

theorem scaleFigure_of {s : State} {i : Fin 4} {c : Fin 16} (h : (s.axis i).comp.scaleChannel = some c) :
    scaleFigure s i = channelFigure (s.thermal.channels.get c) := by simp [scaleFigure, h]

/-- How many of the listed channels contribute, as a sum over the entries. -/
theorem contributing_length (g : Fin 16 → Channel) (l : List (Option (Fin 16))) :
    ((l.filterMap fun e => e.map g).filter contributes).length =
      (l.map fun e => if (e.map g).any contributes = true then 1 else 0).sum := by
  induction l with
  | nil => rfl
  | cons e l ih =>
    cases e with
    | none => simpa using ih
    | some c => cases h : contributes (g c) <;> simp [h, ih, Nat.add_comm]

theorem contributing_sum (g : Fin 16 → Channel) (l : List (Option (Fin 16))) :
    (((l.filterMap fun e => e.map g).filter contributes).map Channel.average).sum =
      (l.map fun e =>
        if (e.map g).any contributes = true then ((e.map g).map fun ch => ch.average).getD 0 else 0).sum := by
  induction l with
  | nil => rfl
  | cons e l ih =>
    cases e with
    | none => simpa using ih
    | some c => cases h : contributes (g c) <;> simp [h, ih]

theorem listed_all (g : Fin 16 → Channel) (p : Channel → Bool) (l : List (Option (Fin 16))) :
    (l.filterMap fun e => e.map g).all p = l.all fun e => (e.map g).all p := by
  induction l with
  | nil => rfl
  | cons e l ih => cases e <;> simp [ih]

theorem vector4_toList {α : Type} (v : Vector α 4) : v.toList = [v.get 0, v.get 1, v.get 2, v.get 3] := by
  refine List.ext_getElem (by simp) fun i h1 h2 => ?_
  have hi : i < 4 := by simpa using h1
  interval_cases i <;> simp [Vector.get_eq_getElem]

theorem localFigure_eq (t : Thermal) : localFigure t =
    if (listedChannels t).filter contributes = [] then { value := 20000, quality := .absent }
    else { value := roundDiv (((listedChannels t).filter contributes).map Channel.average).sum
              ((listedChannels t).filter contributes).length
           quality := if (listedChannels t).all (fun ch => ch.state == .valid) = true then .fresh else .stale } := rfl

/-- The local figure by sums over the four entries (R33). -/
theorem localFigure_sums (t : Thermal) :
    let listed := fun j : Fin 4 => (t.entries.get j).map t.channels.get
    let used := fun j => (listed j).any fun ch => ch.state == .valid || ch.state == .held
    let n := ∑ j, if used j = true then 1 else 0
    let total := ∑ j, if used j = true then ((listed j).map fun ch => ch.average).getD 0 else 0
    (n = 0 → localFigure t = { value := 20000, quality := .absent }) ∧
    (n ≠ 0 → localFigure t =
      { value := roundDiv total n
        quality := if ∀ j, (listed j).all (fun ch => ch.state == .valid) = true then .fresh else .stale }) := by
  intro listed used n total
  have hn : ((listedChannels t).filter contributes).length = n := by
    rw [listedChannels, contributing_length, vector4_toList]
    simp only [n, Fin.sum_univ_four, List.map_cons, List.map_nil, List.sum_cons, List.sum_nil, add_zero, add_assoc]
    rfl
  have htotal : (((listedChannels t).filter contributes).map Channel.average).sum = total := by
    rw [listedChannels, contributing_sum, vector4_toList]
    simp only [total, Fin.sum_univ_four, List.map_cons, List.map_nil, List.sum_cons, List.sum_nil, add_zero, add_assoc]
    rfl
  have hall : (listedChannels t).all (fun ch => ch.state == .valid) = true ↔
      ∀ j, (listed j).all (fun ch => ch.state == .valid) = true := by
    rw [listedChannels, listed_all, vector4_toList, List.all_eq_true]
    simp only [List.forall_mem_cons, List.not_mem_nil, false_imp_iff, forall_const, and_true]
    simp only [Fin.forall_fin_succ, IsEmpty.forall_iff, and_true]
    rfl
  rw [localFigure_eq, htotal, hn]
  refine ⟨fun h0 => if_pos ?_, fun h0 => (if_neg ?_).trans ?_⟩
  · exact List.length_eq_zero_iff.mp (hn.trans h0)
  · exact fun hnil => h0 (hn.symm.trans (List.length_eq_zero_iff.mpr hnil))
  · simp only [hall]

theorem workFigure_local {s : State} (h : s.thermal.source = .localChannels) :
    workFigure s = localFigure s.thermal := by simp [workFigure, h]

theorem workFigure_peer {s : State} (h : s.thermal.source = .peer) :
    workFigure s = peerFigure s.thermal.peer := by simp [workFigure, h]

theorem peerFigure_eq (p : Peer) : peerFigure p =
    if p.standing ≠ .heard ∨ p.quality = .absent then { value := 20000, quality := .absent }
    else if p.timer.isSome = true ∧ p.quality = .fresh then { value := p.figure, quality := .fresh }
    else { value := p.figure, quality := .stale } := by
  unfold peerFigure
  cases p.standing with
  | neverHeard => rfl
  | gone => rfl
  | heard => cases p.quality <;> cases p.timer <;> rfl

/-! ### A TEMP heard and its timer (R35, R36) -/

theorem qualityOf_code (q : Quality) : qualityOf q.code = some q := by cases q <;> rfl

theorem qualityOf_none {n : Nat} (h : ¬ n ≤ 2) : qualityOf n = none := by
  unfold qualityOf
  split
  · omega
  · omega
  · omega
  · rfl

theorem hearTemp_taken {f : RxFrame} {s : State} {q : Quality} (hsrc : s.thermal.source = .peer)
    (hfrom : f.sender.toNat = s.thermal.peerStation) (hq : byteAt f.payload 4 = q.code)
    (hlo : -10000 ≤ s32At f.payload 0) (hhi : s32At f.payload 0 ≤ 60000) :
    hearTemp f s = takeTemp (s32At f.payload 0) q f.sof s := by
  rw [hearTemp, if_pos ⟨hsrc, hfrom⟩, hq, qualityOf_code]
  exact if_pos (within_iff.mpr ⟨hlo, hhi⟩)

theorem hearTemp_ignored {f : RxFrame} {s : State} (h : ¬ ((s.thermal.source = .peer ∧
    f.sender.toNat = s.thermal.peerStation ∧ -10000 ≤ s32At f.payload 0 ∧ s32At f.payload 0 ≤ 60000) ∧
    byteAt f.payload 4 ≤ 2)) : hearTemp f s = s := by
  unfold hearTemp
  split
  · rename_i hp
    dsimp only
    split
    · rename_i q hq
      refine if_neg fun hin => h ⟨⟨hp.1, hp.2, (within_iff.mp hin).1, (within_iff.mp hin).2⟩, ?_⟩
      by_contra hb
      rw [qualityOf_none hb] at hq
      cases hq
    · rfl
  · rfl

/-- Settles O15: the figures of the channels, of the entries and of the peer record. -/
theorem peerTempsAndTheirTimerMakeTheFigure : Obligations.PeerTempsAndTheirTimerMakeTheFigure := by
  refine ⟨⟨fun s i => ?_, localFigure_sums, fun s h => workFigure_local h⟩, fun f s hh => ?_, fun s h => ?_,
    fun t s d hr ht hd => ?_, fun t s hr hno => ?_⟩
  · intro record named
    refine ⟨fun c hc hv => (scaleFigure_of hc).trans (channelFigure_valid hv),
      fun c hc hv => (scaleFigure_of hc).trans (channelFigure_held hv), fun hno => ?_⟩
    cases hn : (s.axis i).comp.scaleChannel with
    | none => simp [scaleFigure, hn, absentFigure]
    | some c =>
      obtain ⟨hv, hh⟩ := hno c hn
      exact (scaleFigure_of hn).trans (channelFigure_absent hv hh)
  · intro figure known
    refine ⟨fun q hk hq => next_heard hh ((sized_of hk.1 _).trans ?_), fun hno => next_heard hh ?_⟩
    · obtain ⟨hl, hsrc, hfrom, hlo, hhi⟩ := hk
      rw [hearTemp_taken (by simpa using hsrc) (by simpa using hfrom) hq hlo hhi]
      simp only [takeTemp, State.ago, heard_tick, heard_uptime, heard_thermal]
      rfl
    · by_cases hl : f.payload.length = 5
      · rw [sized_of hl]
        exact hearTemp_ignored fun h => hno ⟨⟨hl, by simpa using h.1⟩, h.2⟩
      · exact sized_other hl _
  · rw [workFigure_peer h, peerFigure_eq]
  · refine next_timed hr ?_
    have hdue : (advance t s).due s.thermal.peer.timer = true := by
      rw [due_some ht, decide_eq_true_eq]
      exact hd
    rw [peerExpire, advance_thermal, hdue, if_pos rfl]
    simp only [mapPeer, advance_thermal]
  · refine next_timed hr ?_
    rw [peerExpire, advance_thermal, not_due hno, if_neg (by decide)]

end Sys2Proof.Machine

/-! The sensor channels: the filter step, and a channel in each of its states. -/

namespace Sys2Proof.Machine

/-! ### The filter (R25) -/

/-- A filter step lies between the average and the sample. -/
theorem filterStep_between (f : Nat) (a v : Int) : min a v ≤ filterStep f a v ∧ filterStep f a v ≤ max a v := by
  obtain ⟨hlo, hhi⟩ := filterStep_sub_mul_bounds f a v
  have hp : (1 : Int) ≤ 2 ^ f := one_le_pow₀ (by norm_num)
  generalize (2 : Int) ^ f = p at hlo hhi hp
  generalize filterStep f a v = q at hlo hhi ⊢
  rcases le_or_gt a v with hav | hav
  · rw [min_eq_left hav, max_eq_right hav]
    constructor <;> nlinarith
  · rw [min_eq_right hav.le, max_eq_left hav.le]
    constructor <;> nlinarith

theorem filterStep_zero (a v : Int) : filterStep 0 a v = v := by simp [filterStep]

/-! ### A channel by its state (R27 to R31) -/

/-- A channel in SETTLING or HELD whose read was not accepted: its age rises, and past 5 it is FAULTED (R30). -/
def agedChannel (ch : Channel) : Channel :=
  if 5 < min 255 (ch.heldAge + 1) then
    { ch with state := .faulted, heldAge := min 255 (ch.heldAge + 1), rejects := 0, settle := 0 }
  else { ch with heldAge := min 255 (ch.heldAge + 1) }

theorem notAccepted_fst (ch : Channel) : (notAccepted ch).1 = agedChannel ch := by
  unfold notAccepted agedChannel
  dsimp only
  split <;> rfl

theorem notAccepted_snd {ch : Channel} (h : ch.state ≠ .faulted) :
    (notAccepted ch).2 = true ↔ (notAccepted ch).1.state = .faulted := by
  unfold notAccepted
  dsimp only
  split <;> simp [h]

@[simp] theorem notAccepted_average (ch : Channel) : (notAccepted ch).1.average = ch.average := by
  unfold notAccepted
  dsimp only
  split <;> rfl

@[simp] theorem notAccepted_last (ch : Channel) : (notAccepted ch).1.last = ch.last := by
  unfold notAccepted
  dsimp only
  split <;> rfl

theorem nearAverage_iff {a v : Int} : nearAverage a v = true ↔ (v - a).natAbs ≤ 1500 := by simp [nearAverage]

theorem applyGood_unused {f : Nat} {v : Int} {ch : Channel} (h : ch.state = .unused) :
    applyGood f v ch = (ch, false) := by simp [applyGood, h]

theorem applyGood_settling {f : Nat} {v : Int} {ch : Channel} (h : ch.state = .settling) :
    applyGood f v ch = (if ch.settle < 3 then
        { ch with
          last := v, average := if ch.settle = 0 then v else filterStep f ch.average v, settle := ch.settle + 1,
          heldAge := 0 }
      else { ch with
        last := v, state := .valid, average := if ch.settle = 0 then v else filterStep f ch.average v, settle := 0,
        rejects := 0, heldAge := 0 }, false) := by
  simp only [applyGood, h]
  by_cases hs : ch.settle < 3
  · rw [if_neg (by omega), if_pos hs]
  · rw [if_pos (by omega), if_neg hs]

theorem applyGood_valid {f : Nat} {v : Int} {ch : Channel} (h : ch.state = .valid) :
    applyGood f v ch = (if (v - ch.average).natAbs ≤ 1500 then
        { ch with last := v, average := filterStep f ch.average v, rejects := 0, heldAge := 0 }
      else { ch with last := v, state := .held, rejects := 1, heldAge := 1 }, false) := by
  simp only [applyGood, h, nearAverage_iff]
  split <;> rfl

theorem applyGood_held_near {f : Nat} {v : Int} {ch : Channel} (h : ch.state = .held)
    (hn : (v - ch.average).natAbs ≤ 1500) : applyGood f v ch =
      ({ ch with last := v, state := .valid, average := filterStep f ch.average v, rejects := 0, heldAge := 0 },
        false) := by
  simp only [applyGood, h, nearAverage_iff]
  exact if_pos hn

theorem applyGood_held_far {f : Nat} {v : Int} {ch : Channel} (h : ch.state = .held)
    (hn : ¬ (v - ch.average).natAbs ≤ 1500) : applyGood f v ch =
      if 3 ≤ ch.rejects then
        ({ ch with last := v, state := .valid, average := v, rejects := 0, heldAge := 0 }, false)
      else notAccepted { ch with last := v, rejects := ch.rejects + 1 } := by
  simp only [applyGood, h, nearAverage_iff]
  exact if_neg hn

theorem applyGood_faulted {f : Nat} {v : Int} {ch : Channel} (h : ch.state = .faulted) : applyGood f v ch =
    ({ ch with last := v, state := .settling, average := v, settle := 1, heldAge := 0 }, true) := by
  simp [applyGood, h]

theorem applyFailed_unused {ch : Channel} (h : ch.state = .unused) : applyFailed ch = (ch, false) := by
  simp [applyFailed, h]

theorem applyFailed_valid {ch : Channel} (h : ch.state = .valid) :
    applyFailed ch = ({ ch with state := .held, heldAge := 1, rejects := 0 }, false) := by simp [applyFailed, h]

theorem applyFailed_waiting {ch : Channel} (h : ch.state = .settling ∨ ch.state = .held) :
    applyFailed ch = notAccepted ch := by rcases h with h | h <;> simp [applyFailed, h]

theorem applyFailed_faulted {ch : Channel} (h : ch.state = .faulted) :
    applyFailed ch = ({ ch with heldAge := min 255 (ch.heldAge + 1) }, false) := by simp [applyFailed, h]

/-- The average after a good read is the old one, the sample, or a step between them. -/
theorem applyGood_average (f : Nat) (v : Int) (ch : Channel) :
    (applyGood f v ch).1.average = ch.average ∨ (applyGood f v ch).1.average = v ∨
      (applyGood f v ch).1.average = filterStep f ch.average v := by
  cases h : ch.state with
  | unused => rw [applyGood_unused h]; exact .inl rfl
  | settling =>
    refine .inr ?_
    rw [applyGood_settling h]
    dsimp only
    split <;> (dsimp only; split <;> simp)
  | valid =>
    rw [applyGood_valid h]
    dsimp only
    split <;> simp
  | held =>
    by_cases hn : (v - ch.average).natAbs ≤ 1500
    · rw [applyGood_held_near h hn]
      exact .inr (.inr rfl)
    · rw [applyGood_held_far h hn]
      split <;> simp
  | faulted => rw [applyGood_faulted h]; exact .inr (.inl rfl)

theorem applyFailed_average (ch : Channel) : (applyFailed ch).1.average = ch.average := by
  cases h : ch.state with
  | unused => rw [applyFailed_unused h]
  | settling => rw [applyFailed_waiting (.inl h), notAccepted_average]
  | valid => rw [applyFailed_valid h]
  | held => rw [applyFailed_waiting (.inr h), notAccepted_average]
  | faulted => rw [applyFailed_faulted h]

theorem applyFailed_last (ch : Channel) : (applyFailed ch).1.last = ch.last := by
  cases h : ch.state with
  | unused => rw [applyFailed_unused h]
  | settling => rw [applyFailed_waiting (.inl h), notAccepted_last]
  | valid => rw [applyFailed_valid h]
  | held => rw [applyFailed_waiting (.inr h), notAccepted_last]
  | faulted => rw [applyFailed_faulted h]

theorem applyGood_last {f : Nat} {v : Int} {ch : Channel} (h : ch.state ≠ .unused) : (applyGood f v ch).1.last = v := by
  cases hs : ch.state with
  | unused => exact absurd hs h
  | settling =>
    rw [applyGood_settling hs]
    dsimp only
    split <;> rfl
  | valid =>
    rw [applyGood_valid hs]
    dsimp only
    split <;> rfl
  | held =>
    by_cases hn : (v - ch.average).natAbs ≤ 1500
    · rw [applyGood_held_near hs hn]
    · rw [applyGood_held_far hs hn]
      split <;> simp
  | faulted => rw [applyGood_faulted hs]

/-- THERMAL is called for where a channel becomes FAULTED, or a FAULTED one SETTLING. -/
def thermalDue (ch after : Channel) : Prop :=
  (ch.state ≠ .faulted ∧ after.state = .faulted) ∨ (ch.state = .faulted ∧ after.state = .settling)

theorem applyGood_latches (f : Nat) (v : Int) (ch : Channel) :
    (applyGood f v ch).2 = true ↔ thermalDue ch (applyGood f v ch).1 := by
  unfold thermalDue
  cases h : ch.state with
  | unused => simp [applyGood_unused h, h]
  | settling =>
    rw [applyGood_settling h]
    dsimp only
    split <;> simp [h]
  | valid =>
    rw [applyGood_valid h]
    dsimp only
    split <;> simp [h]
  | held =>
    by_cases hn : (v - ch.average).natAbs ≤ 1500
    · simp [applyGood_held_near h hn]
    · rw [applyGood_held_far h hn]
      split
      · simp
      · rw [notAccepted_snd (by simp [h])]
        simp
  | faulted => simp [applyGood_faulted h]

theorem applyFailed_latches (ch : Channel) : (applyFailed ch).2 = true ↔ thermalDue ch (applyFailed ch).1 := by
  unfold thermalDue
  cases h : ch.state with
  | unused => simp [applyFailed_unused h, h]
  | settling =>
    rw [applyFailed_waiting (.inl h), notAccepted_snd (by simp [h])]
    simp
  | valid => simp [applyFailed_valid h]
  | held =>
    rw [applyFailed_waiting (.inr h), notAccepted_snd (by simp [h])]
    simp
  | faulted => simp [applyFailed_faulted h, h]

/-- A read that is a good sample, within −10,000 to 60,000 (R24). -/
def goodRead (read : SensorRead) : Prop :=
  match read with
  | .value v => -10000 ≤ v ∧ v ≤ 60000
  | .failed => False

theorem applyRead_good {f : Nat} {v : Int} {ch : Channel} (h : -10000 ≤ v ∧ v ≤ 60000) :
    applyRead f (.value v) ch = applyGood f v ch := by simp [applyRead, goodSample, h]

theorem applyRead_bad {f : Nat} {read : SensorRead} {ch : Channel} (h : ¬ goodRead read) :
    applyRead f read ch = applyFailed ch := by
  cases read with
  | failed => rfl
  | value v =>
    have hv : ¬ (-10000 ≤ v ∧ v ≤ 60000) := h
    simp only [applyRead, goodSample, if_neg hv]

/-- An average in the range of samples stays there. -/
theorem applyRead_range {f : Nat} {read : SensorRead} {ch : Channel} (hlo : -10000 ≤ ch.average)
    (hhi : ch.average ≤ 60000) :
    -10000 ≤ (applyRead f read ch).1.average ∧ (applyRead f read ch).1.average ≤ 60000 := by
  by_cases hg : goodRead read
  · cases read with
    | failed => exact hg.elim
    | value v =>
      obtain ⟨hv1, hv2⟩ := hg
      rw [applyRead_good ⟨hv1, hv2⟩]
      obtain ⟨h1, h2⟩ := filterStep_between f ch.average v
      rcases applyGood_average f v ch with h | h | h <;> rw [h] <;> omega
  · rw [applyRead_bad hg, applyFailed_average]
    exact ⟨hlo, hhi⟩

theorem applyRead_table (f : Nat) (read : SensorRead) (ch : Channel) :
    (∀ v, read = .value v → goodRead read → applyRead f read ch = applyGood f v ch) ∧
    (¬ goodRead read → applyRead f read ch = applyFailed ch) ∧
    ((applyRead f read ch).2 = true ↔ thermalDue ch (applyRead f read ch).1) ∧
    (∀ v, read = .value v → goodRead read → ch.state ≠ .unused → (applyRead f read ch).1.last = v) ∧
    (¬ goodRead read → (applyRead f read ch).1.last = ch.last) ∧
    (ch.state = .unused → (applyRead f read ch).1 = ch) := by
  by_cases hg : goodRead read
  · cases read with
    | failed => exact hg.elim
    | value v =>
      have heq := applyRead_good (f := f) (ch := ch) hg
      refine ⟨fun w hw _ => ?_, fun hno => absurd hg hno, ?_, fun w hw _ hu => ?_, fun hno => absurd hg hno,
        fun hu => ?_⟩
      · cases hw
        exact heq
      · rw [heq]
        exact applyGood_latches f v ch
      · cases hw
        rw [heq, applyGood_last hu]
      · rw [heq, applyGood_unused hu]
  · have heq := applyRead_bad (f := f) (ch := ch) hg
    refine ⟨fun _ _ h => absurd h hg, fun _ => heq, ?_, fun _ _ h => absurd h hg, fun _ => ?_, fun hu => ?_⟩
    · rw [heq]
      exact applyFailed_latches ch
    · rw [heq, applyFailed_last]
    · rw [heq, applyFailed_unused hu]

/-- Settles O13: the filter, the range of an average, and each state's row. -/
theorem sensorChannelsFilterRejectAndReseed : Obligations.SensorChannelsFilterRejectAndReseed := by
  refine ⟨⟨fun f a v => ⟨filterStep_eq_add_shiftRight f a v, (filterStep_between f a v).1, (filterStep_between f a v).2,
    filterStep_zero a v⟩, by decide, by decide, fun f v ch h => ?_, fun f read ch hlo hhi => applyRead_range hlo hhi,
    fun mask shift t c hm ht => ?_⟩, fun f read ch => ?_, fun f v ch => ?_⟩
  · rcases h with ⟨hs, h0⟩ | hs | ⟨hs, hfar, hrej⟩
    · rw [applyGood_settling hs]
      dsimp only
      split <;> simp
    · rw [applyGood_faulted hs]
    · rw [applyGood_held_far hs (by omega), if_pos hrej]
  · simp [applyMask, hm, ht]
  · exact applyRead_table f read ch
  · intro near aged
    have haged (c : Channel) : (notAccepted c).1 = aged c := notAccepted_fst c
    refine ⟨fun hs hr ha => ⟨fun hn => ?_, fun hn => ?_, ?_⟩,
      fun hs => ⟨fun hn => ?_, fun hn hr => ?_, fun hn hr => ?_, ?_⟩, fun hs => ⟨fun hk => ?_, fun hk => ?_, ?_⟩,
      fun hs => ⟨?_, ?_⟩⟩
    · rw [applyGood_valid hs]
      dsimp only
      rw [if_pos hn]
      simp [hr, ha]
    · rw [applyGood_valid hs]
      exact if_neg hn
    · rw [applyFailed_valid hs]
      simp [hr]
    · rw [applyGood_held_near hs hn]
    · rw [applyGood_held_far hs hn, if_neg (by omega), haged]
    · rw [applyGood_held_far hs hn, if_pos hr]
    · rw [applyFailed_waiting (.inr hs), haged]
    · rw [applyGood_settling hs]
      exact if_pos hk
    · rw [applyGood_settling hs]
      exact if_neg (by omega)
    · rw [applyFailed_waiting (.inl hs), haged]
    · rw [applyGood_faulted hs]
    · rw [applyFailed_faulted hs]

end Sys2Proof.Machine

/-! The forward and the inverse correction: their terms, their clamps and their flags. -/

namespace Sys2Proof.Machine

/-- What the clamp to a magnitude leaves. -/
theorem clampMag_fst {m : Int} (hm : 0 ≤ m) (x : Int) : (clampMag m x).1 = max (-m) (min m x) := by
  unfold clampMag
  split
  · omega
  · split <;> omega

/-- The clamp acts exactly beyond the magnitude. -/
theorem clampMag_snd {m : Int} (hm : 0 ≤ m) (x : Int) : (clampMag m x).2 = true ↔ m < (x.natAbs : Int) := by
  unfold clampMag
  split
  · simp only [true_iff]
    omega
  · split
    · simp only [true_iff]
      omega
    · simp only [Bool.false_eq_true, false_iff]
      omega

theorem thermalTerm_fst (l a temp : Int) : (thermalTerm l a temp).1 =
    max (-1000000) (min 1000000 (roundDiv (l * a * (temp - 20000)) 1000000000000)) := clampMag_fst (by decide) _

theorem thermalTerm_snd (l a temp : Int) :
    (thermalTerm l a temp).2 = true ↔ 1000000 < (roundDiv (l * a * (temp - 20000)) 1000000000000).natAbs := by
  rw [thermalTerm, clampMag_snd (by decide)]
  omega

theorem clampValue_snd (x : Int) : (clampMag 2000000000 x).2 = true ↔ 2000000000 < x.natAbs := by
  rw [clampMag_snd (by decide)]
  omega

/-- The tip component that an axis selects is that of the record found ON HEAD (R48). -/
theorem tipOf_eq (s : State) (c : CompRecord) : tipOf s c =
    match c.tip, ids16.find? fun k => (s.probes.table.get k).location == .onHead with
    | some j, some k => (s.probes.table.get k).tip.get j
    | _, _ => 0 := by
  have hon : onHead? s = (ids16.find? fun k => (s.probes.table.get k).location == .onHead).map
      fun k => (k, s.probes.table.get k) := List.find?_map
  rw [tipOf, hon]
  generalize (ids16.find? fun k => (s.probes.table.get k).location == .onHead) = found
  cases c.tip <;> cases found <;> rfl

/-- A figure of quality `q` is among those a correction uses (R49). -/
theorem figuresUsed_any (s : State) (i : Fin 4) (q : Quality) : ((figuresUsed s i).any fun f => f.quality == q) = true ↔
    (((s.axis i).comp.alpha ≠ 0 ∧ (scaleFigure s i).quality = q) ∨
      (s.thermal.alphaW ≠ 0 ∧ (workFigure s).quality = q)) := by
  unfold figuresUsed
  split <;> split <;> simp [*]

theorem forward_angular {s : State} {i : Fin 4} {x : Int} {b : Bool} (h : (s.axis i).record.kind = .angular) :
    forward s i x b =
      { value := (clampMag 2000000000 (x + (mapError (s.axis i).comp x).1)).1
        mapOutside := (mapError (s.axis i).comp x).2
        clamped := (clampMag 2000000000 (x + (mapError (s.axis i).comp x).1)).2, stale := false, absent := false } := by
  simp [forward, h]

/-- The terms of a forward correction on a LINEAR axis, the clamps still in place (R46 to R49). -/
theorem forward_linear {s : State} {i : Fin 4} {x : Int} {b : Bool} (h : (s.axis i).record.kind = .linear)
    {p1 : Int} {sc w v : Int × Bool} (hp : p1 = x + (mapError (s.axis i).comp x).1)
    (hsc : sc = thermalTerm p1 (s.axis i).comp.alpha (scaleFigure s i).value)
    (hw : w = thermalTerm (p1 + sc.1 - (s.axis i).comp.datum) s.thermal.alphaW (workFigure s).value)
    (hv : v = clampMag 2000000000 (p1 + sc.1 - w.1 + if b then tipOf s (s.axis i).comp else 0)) :
    forward s i x b =
      { value := v.1, mapOutside := (mapError (s.axis i).comp x).2, clamped := sc.2 || w.2 || v.2
        stale := !((figuresUsed s i).any fun f => f.quality == .absent) &&
          (figuresUsed s i).any fun f => f.quality == .stale
        absent := (figuresUsed s i).any fun f => f.quality == .absent } := by
  subst hp hsc hw hv
  simp only [forward, h]

theorem inverse_angular {s : State} {i : Fin 4} {t : Int} (h : (s.axis i).record.kind = .angular) :
    inverse s i t = t - (mapError (s.axis i).comp t).1 := by simp [inverse, h]

theorem inverse_linear {s : State} {i : Fin 4} {t : Int} (h : (s.axis i).record.kind = .linear)
    {q p1 sc : Int} (hq : q = t - tipOf s (s.axis i).comp) (hp : p1 = q + (mapError (s.axis i).comp q).1)
    (hsc : sc = (thermalTerm p1 (s.axis i).comp.alpha (scaleFigure s i).value).1) :
    inverse s i t = q - ((mapError (s.axis i).comp q).1 + sc -
      (thermalTerm (p1 + sc - (s.axis i).comp.datum) s.thermal.alphaW (workFigure s).value).1) := by
  subst hq hp hsc
  simp only [inverse, h]

theorem clampMag_natAbs (x : Int) : (clampMag 2000000000 x).1.natAbs ≤ 2000000000 := by
  rw [clampMag_fst (by decide)]
  omega

theorem forward_natAbs (s : State) (i : Fin 4) (x : Int) (b : Bool) : (forward s i x b).value.natAbs ≤ 2000000000 := by
  cases h : (s.axis i).record.kind with
  | angular =>
    rw [forward_angular h]
    exact clampMag_natAbs _
  | linear =>
    rw [forward_linear h rfl rfl rfl rfl]
    exact clampMag_natAbs _

theorem forward_mapOutside (s : State) (i : Fin 4) (x : Int) (b : Bool) :
    (forward s i x b).mapOutside = (mapError (s.axis i).comp x).2 := by
  cases h : (s.axis i).record.kind with
  | angular => rw [forward_angular h]
  | linear => rw [forward_linear h rfl rfl rfl rfl]

/-- Settles O17: the clamped terms and their sum, each flag by what sets it, and the inverse from the same terms. -/
theorem forwardCorrectionIsBoundedAndFlagged : Obligations.ForwardCorrectionIsBoundedAndFlagged := by
  unfold Obligations.ForwardCorrectionIsBoundedAndFlagged
  intro tipFor limit
  have htip (s : State) (c : CompRecord) : tipOf s c = tipFor s c := tipOf_eq s c
  have hlimit {m y : Int} (h : (y.natAbs : Int) ≤ m) : limit m y = y := by
    show max (-m) (min m y) = y
    omega
  refine ⟨fun s i x withTip => ?_, fun s i target => ⟨fun hk => ?_, fun hk => inverse_angular hk⟩⟩
  · intro c r p1 sc w tip used sc' w' sum
    refine ⟨forward_natAbs s i x withTip, forward_mapOutside s i x withTip, fun hk => ?_, fun hk => ?_⟩
    · have hsc1 : (thermalTerm p1 c.alpha (scaleFigure s i).value).1 = sc' := thermalTerm_fst _ _ _
      have hsc2 := thermalTerm_snd p1 c.alpha (scaleFigure s i).value
      have hw1 : (thermalTerm (p1 + sc' - c.datum) s.thermal.alphaW (workFigure s).value).1 = limit 1000000 w' :=
        thermalTerm_fst _ _ _
      have hw2 := thermalTerm_snd (p1 + sc' - c.datum) s.thermal.alphaW (workFigure s).value
      have hv2 := clampValue_snd sum
      have hr : r = _ := forward_linear hk (p1 := p1) rfl rfl rfl rfl
      rw [hsc1, hw1, htip] at hr
      have hvalue : r.value = limit 2000000000 sum := by
        rw [hr]
        exact clampMag_fst (by decide) _
      have hclamped : r.clamped = true ↔ 1000000 < sc.natAbs ∨ 1000000 < w'.natAbs ∨ 2000000000 < sum.natAbs := by
        rw [hr]
        simp only [Bool.or_eq_true, or_assoc]
        exact or_congr hsc2 (or_congr hw2 hv2)
      refine ⟨fun hno => ?_, hvalue, hclamped, ?_, ?_⟩
      · have hnot : ¬ (1000000 < sc.natAbs ∨ 1000000 < w'.natAbs ∨ 2000000000 < sum.natAbs) := fun h =>
          Bool.false_ne_true (hno.symm.trans (hclamped.mpr h))
        push Not at hnot
        obtain ⟨hsc, hw, hsum⟩ := hnot
        have hsc' : sc' = sc := hlimit (by omega)
        have hw' : w' = w := by
          show roundDiv ((p1 + sc' - c.datum) * _ * _) _ = roundDiv ((p1 + sc - c.datum) * _ * _) _
          rw [hsc']
        refine ⟨hsc, hw' ▸ hw, ?_⟩
        calc r.value = sum := hvalue.trans (hlimit (by omega))
          _ = p1 + sc' - w' + tip := congrArg (p1 + sc' - · + tip) (hlimit (by omega))
          _ = p1 + sc - w + tip := by rw [hsc', hw']
      · rw [hr]
        exact figuresUsed_any s i .absent
      · rw [hr]
        simp only [Bool.and_eq_true, Bool.not_eq_true', ← Bool.not_eq_true, figuresUsed_any]
        exact And.comm
    · have hr : r = _ := forward_angular hk
      have hv1 := clampMag_fst (m := 2000000000) (by decide) p1
      have hv2 := clampValue_snd p1
      refine ⟨fun hno => ?_, ?_, ?_, ?_, ?_⟩
      · rw [hr] at hno ⊢
        have hnot : ¬ 2000000000 < p1.natAbs := fun h => Bool.false_ne_true (hno.symm.trans (hv2.mpr h))
        exact hv1.trans (hlimit (m := 2000000000) (by omega))
      · rw [hr]; exact hv1
      · rw [hr]; exact hv2
      · rw [hr]
      · rw [hr]
  · intro q e p1 sc w
    have hq : q = target - tipOf s (s.axis i).comp := by rw [htip]
    have hsc : sc = (thermalTerm p1 (s.axis i).comp.alpha (scaleFigure s i).value).1 := (thermalTerm_fst _ _ _).symm
    rw [inverse_linear hk hq rfl hsc]
    exact congrArg (fun y => q - (e + sc - y)) (thermalTerm_fst _ _ _)

end Sys2Proof.Machine

/-! Needed sets, and the evaluation of the head. -/

namespace Sys2Proof.Machine

/-! ### Needed sets (R64, R86, R87) -/

theorem travelSet_noReach {s : State} {a b : Vector Int 4} (h : reachAxis? s = none) : travelSet s a b = 0 := by
  simp [travelSet, h]

theorem stationarySet_noReach {s : State} {a : Vector Int 4} (h : reachAxis? s = none) : stationarySet s a = 0 := by
  simp [stationarySet, h]

theorem zoneAxisStill_iff {s : State} {a b : Vector Int 4} :
    zoneAxisStill s a b = true ↔ ∀ z, zoneAxis? s = some z → a.get z = b.get z := by
  unfold zoneAxisStill
  cases zoneAxis? s <;> simp

/-- A segment with a reach axis that neither retreats nor stays in the free reach needs the zones of its envelopes
(R87). -/
theorem travelSet_reach {s : State} {a b : Vector Int 4} {r : Fin 4} (h : reachAxis? s = some r) : travelSet s a b =
    if (∀ z, zoneAxis? s = some z → a.get z = b.get z) ∧ b.get r ≤ a.get r then 0
    else if a.get r ≤ s.station.freeReach ∧ b.get r ≤ s.station.freeReach then 0
    else overlapped s.zones.boundaries (min (bedPosition s a) (bedPosition s b) - s.station.halfWidth)
      (max (bedPosition s a) (bedPosition s b) + s.station.halfWidth) := by
  simp only [travelSet, h, Bool.and_eq_true, zoneAxisStill_iff, decide_eq_true_eq, max_le_iff]

theorem stationarySet_unreferenced {s : State} {a : Vector Int 4} {r : Fin 4} (h : reachAxis? s = some r)
    (hu : (s.axis r).referenced = false ∨ ∃ z, zoneAxis? s = some z ∧ (s.axis z).referenced = false) :
    stationarySet s a = firmZones s := by
  have hun : (unreferenced s (some r) || unreferenced s (zoneAxis? s)) = true := by
    rcases hu with hr | ⟨z, hz, hzr⟩
    · simp [unreferenced, hr]
    · simp [unreferenced, hz, hzr]
  simp [stationarySet, h, hun]

theorem stationarySet_referenced {s : State} {a : Vector Int 4} {r : Fin 4} (h : reachAxis? s = some r)
    (hr : (s.axis r).referenced = true) (hz : ∀ z, zoneAxis? s = some z → (s.axis z).referenced = true) :
    stationarySet s a = if a.get r ≤ s.station.freeReach then 0
      else overlapped s.zones.boundaries (bedPosition s a - s.station.halfWidth)
        (bedPosition s a + s.station.halfWidth) := by
  have hun : (unreferenced s (some r) || unreferenced s (zoneAxis? s)) = false := by
    cases hza : zoneAxis? s with
    | none => simp [unreferenced, hr]
    | some z => simp [unreferenced, hr, hz z hza]
  simp [stationarySet, h, hun]

/-- A zone is FIRM to the station by an entry of its own holding. -/
theorem has_firmZones_entry {s : State} {z : Fin 16} : ZoneSet.has (firmZones s) z = true ↔
    ∃ t, s.zones.view.get z = some { holder := s.line.number, standing := .firm, since := t } := by
  rw [has_firmZones]
  constructor
  · rintro ⟨⟨holder, standing, since⟩, hv, hown, hst⟩
    dsimp only at hown hst
    exact ⟨since, by rw [hv, hown, hst]⟩
  · rintro ⟨t, hv⟩
    exact ⟨_, hv, rfl, rfl⟩

theorem neededSet_reference {s : State} {seg : Segment} (h : seg.kind = .reference) : neededSet s seg =
    if reachAxis? s = none ∨ reachAxis? s = some seg.axis then 0 else stationarySet s (demands s) := by
  simp [neededSet, h]

theorem neededSet_line {s : State} {seg : Segment} (h : seg.kind ≠ .reference) :
    neededSet s seg = travelSet s (demands s) (seg.searchEnd.getD seg.targets) := by
  unfold neededSet
  split
  · exact absurd ‹_› h
  · rfl

/-- Settles O28: by the reach axis, the retreats, the free reach and the intervals of the envelopes. -/
theorem neededSetCoversEveryEnvelope : Obligations.NeededSetCoversEveryEnvelope := by
  refine ⟨fun s a b h => ⟨travelSet_noReach h, stationarySet_noReach h⟩, fun s a b r h => ?_, fun s a r h hu z => ?_,
    fun s seg => ⟨fun hk hr => ?_, fun hk hr => ?_, neededSet_line⟩,
    fun s a r h hr hz => ⟨fun hle => ?_, fun hgt z => ?_⟩⟩
  · intro still
    have hset (hs : ¬ (still ∧ b.get r ≤ a.get r))
        (hf : ¬ (a.get r ≤ s.station.freeReach ∧ b.get r ≤ s.station.freeReach)) := by
      exact (travelSet_reach (s := s) (a := a) (b := b) h).trans ((if_neg hs).trans (if_neg hf))
    refine ⟨fun hs hle => (travelSet_reach h).trans (if_pos ⟨hs, hle⟩), fun ha hb => ?_,
      fun hs hf p x hp1 hp2 hx1 hx2 z hz => ?_, fun hs hf z => ?_⟩
    · rw [travelSet_reach h]
      split
      · rfl
      · exact if_pos ⟨ha, hb⟩
    · rw [hset hs hf, has_overlapped_iff_exists_position]
      exact ⟨x, by omega, by omega, hz⟩
    · rw [hset hs hf, has_overlapped_iff_exists_position]
  · rw [stationarySet_unreferenced h hu, has_firmZones_entry]
  · rw [neededSet_reference hk, if_pos (.inr hr)]
  · rw [neededSet_reference hk]
    by_cases hn : reachAxis? s = none
    · rw [if_pos (.inl hn), stationarySet_noReach hn]
    · rw [if_neg (by simp [hn, hr])]
  · rw [stationarySet_referenced h hr hz, if_pos hle]
  · rw [stationarySet_referenced h hr hz, if_neg (by omega), has_overlapped_iff_exists_position]

/-! ### Path arithmetic (R68) -/

theorem sum_filter_map {α : Type} (p : α → Bool) (g : α → Nat) (l : List α) :
    ((l.filter p).map g).sum = (l.map fun i => if p i = true then g i else 0).sum := by
  induction l with
  | nil => rfl
  | cons a l ih => cases h : p a <;> simp [h, ih]

theorem sum_axisIds (g : Fin 4 → Nat) : (axisIds.map g).sum = ∑ i, g i := by
  simp [axisIds, Fin.sum_univ_four, add_assoc]

theorem axesOfKind_eq (s : State) (k : AxisKind) :
    axesOfKind s k = axisIds.filter fun i => s.live i && (s.axis i).record.kind == k := by
  rw [axesOfKind, State.liveAxes, List.filter_filter]
  simp only [Bool.and_comm]

theorem linearSquares_eq (s : State) (d : Vector Int 4) : linearSquares s d =
    ∑ i, if s.live i = true ∧ (s.axis i).record.kind = .linear then (d.get i).natAbs * (d.get i).natAbs else 0 := by
  rw [linearSquares, axesOfKind_eq, sum_filter_map, sum_axisIds]
  simp

/-- The largest of a list of lengths bounds each, and is one of them or the start. -/
theorem foldl_max_spec (l : List Nat) (m : Nat) :
    m ≤ l.foldl max m ∧ (∀ x ∈ l, x ≤ l.foldl max m) ∧ (l.foldl max m = m ∨ l.foldl max m ∈ l) := by
  induction l generalizing m with
  | nil => simp
  | cons a l ih =>
    obtain ⟨hle, hall, hmem⟩ := ih (max m a)
    rw [List.foldl_cons]
    refine ⟨(le_max_left m a).trans hle, fun x hx => ?_, ?_⟩
    · rcases List.mem_cons.mp hx with rfl | hx
      · exact (le_max_right m x).trans hle
      · exact hall x hx
    · rcases hmem with h | h
      · rcases max_choice m a with hm | hm
        · exact .inl (h.trans hm)
        · exact .inr (by rw [h, hm]; simp)
      · exact .inr (List.mem_cons_of_mem a h)

theorem mem_axesOfKind {s : State} {k : AxisKind} {i : Fin 4} :
    i ∈ axesOfKind s k ↔ s.live i = true ∧ (s.axis i).record.kind = k := by
  simp [axesOfKind]

/-- The path length is the root of the squares of the LINEAR changes, and without one the largest ANGULAR change
(R68). -/
theorem pathLength_spec (s : State) (d : Vector Int 4) :
    (linearSquares s d ≠ 0 → pathLength s d * pathLength s d ≤ linearSquares s d ∧
      linearSquares s d < (pathLength s d + 1) * (pathLength s d + 1)) ∧
    (linearSquares s d = 0 →
      (∀ i, (s.live i = true ∧ (s.axis i).record.kind = .angular) → (d.get i).natAbs ≤ pathLength s d) ∧
      (pathLength s d = 0 ∨
        ∃ i, (s.live i = true ∧ (s.axis i).record.kind = .angular) ∧ (d.get i).natAbs = pathLength s d)) := by
  refine ⟨fun h => ?_, fun h => ?_⟩
  · rw [pathLength, if_neg h]
    exact isqrt_bounds _
  · rw [pathLength, if_pos h]
    obtain ⟨-, hall, hmem⟩ := foldl_max_spec ((axesOfKind s .angular).map fun i => (d.get i).natAbs) 0
    refine ⟨fun i hi => hall _ (List.mem_map_of_mem (mem_axesOfKind.mpr hi)), ?_⟩
    rcases hmem with h0 | hin
    · exact .inl h0
    · obtain ⟨i, hi, he⟩ := List.mem_map.mp hin
      exact .inr ⟨i, mem_axesOfKind.mp hi, he⟩

/-- The speed an axis that moves allows (R68). -/
def axisCap (s : State) (len : Nat) (d : Vector Int 4) (i : Fin 4) : Nat :=
  max 1 ((s.axis i).record.maxSpeed * len / (d.get i).natAbs)

theorem pathSpeed_foldl (s : State) (len : Nat) (d : Vector Int 4) (l : List (Fin 4)) (v : Nat) :
    let r := l.foldl (fun v i => if d.get i = 0 then v else min v (axisCap s len d i)) v
    r ≤ v ∧ (∀ i ∈ l, d.get i ≠ 0 → r ≤ axisCap s len d i) ∧
      (r = v ∨ ∃ i ∈ l, d.get i ≠ 0 ∧ r = axisCap s len d i) := by
  induction l generalizing v with
  | nil => simp
  | cons a l ih =>
    obtain ⟨hle, hall, hmem⟩ := ih (if d.get a = 0 then v else min v (axisCap s len d a))
    have hv : (if d.get a = 0 then v else min v (axisCap s len d a)) ≤ v := by
      split
      · exact le_rfl
      · exact min_le_left _ _
    have hcap (ha : d.get a ≠ 0) : (if d.get a = 0 then v else min v (axisCap s len d a)) ≤ axisCap s len d a := by
      rw [if_neg ha]
      exact min_le_right _ _
    refine ⟨hle.trans hv, fun i hi hd => ?_, ?_⟩
    · rcases List.mem_cons.mp hi with rfl | hi
      · exact hle.trans (hcap hd)
      · exact hall i hi hd
    · rcases hmem with h | ⟨i, hi, hd, h⟩
      · by_cases ha : d.get a = 0
        · rw [if_pos ha] at h
          exact .inl (by simpa only [List.foldl_cons, if_pos ha] using h)
        · rw [if_neg ha] at h
          rcases min_choice v (axisCap s len d a) with hm | hm
          · exact .inl (by simpa only [List.foldl_cons, if_neg ha] using h.trans hm)
          · exact .inr ⟨a, by simp, ha, by simpa only [List.foldl_cons, if_neg ha] using h.trans hm⟩
      · exact .inr ⟨i, List.mem_cons_of_mem a hi, hd, h⟩

/-- The path speed is the segment's, lowered to what each moving axis allows (R68). -/
theorem pathSpeed_spec (s : State) (v len : Nat) (d : Vector Int 4) :
    pathSpeed s v len d ≤ v ∧ (∀ i, s.live i = true → d.get i ≠ 0 → pathSpeed s v len d ≤ axisCap s len d i) ∧
      (pathSpeed s v len d = v ∨ ∃ i, s.live i = true ∧ d.get i ≠ 0 ∧ pathSpeed s v len d = axisCap s len d i) := by
  obtain ⟨hle, hall, hmem⟩ := pathSpeed_foldl s len d s.liveAxes v
  refine ⟨hle, fun i hi hd => hall i (by simpa using hi) hd, ?_⟩
  rcases hmem with h | ⟨i, hi, hd, h⟩
  · exact .inl h
  · exact .inr ⟨i, by simpa using hi, hd, h⟩

/-! ### The evaluation of the head (R65, R66) -/

/-- A head that is WAITING or CLAIMING, evaluated: by its needed set in the view, the conditions of motion and the own
claim. -/
theorem evaluateHead_ready {s : State} {seg : Segment} {rest : List Segment} (hq : s.motion.queue = seg :: rest)
    (hs : seg.state = .waiting ∨ seg.state = .claiming) : evaluateHead s =
      if ZoneSet.within (seg.needed.getD 0) (firmZones s) = true then
        if mayMove s seg = true then setQueue (startMoving s seg :: rest) s
        else setQueue ({ seg with state := .waiting } :: rest) s
      else if seg.needed.getD 0 &&& otherZones s ≠ 0 then setQueue ({ seg with state := .waiting } :: rest) s
      else if s.zones.claim = .none then
        if joined s = true ∧ seg.needed.getD 0 &&& freeZones s ≠ 0 then
          makeClaim (seg.needed.getD 0 &&& freeZones s) (setQueue ({ seg with state := .claiming } :: rest) s)
        else setQueue ({ seg with state := .waiting } :: rest) s
      else s := by
  simp only [evaluateHead, hq, hs, if_true]
  cases s.zones.claim <;> simp

theorem evaluateHead_idle {s : State} (h : ∀ seg rest, s.motion.queue = seg :: rest →
    seg.state ≠ .waiting ∧ seg.state ≠ .claiming) : evaluateHead s = s := by
  unfold evaluateHead
  split
  · rfl
  · rename_i seg rest hq
    obtain ⟨hw, hc⟩ := h seg rest hq
    exact if_neg (by simp [hw, hc])

theorem mayMove_iff {s : State} {seg : Segment} : mayMove s seg = true ↔
    s.motion.permit = .valid ∧ s.gate = .normal ∧ joined s = true ∧
      (seg.kind = .probe → s.capture.points.length ≤ 15) := by
  simp only [mayMove, Bool.and_eq_true, Bool.or_eq_true, beq_iff_eq, bne_iff_ne, decide_eq_true_eq, and_assoc,
    ne_eq, imp_iff_not_or]

theorem has_freeZones {s : State} {z : Fin 16} :
    ZoneSet.has (freeZones s) z = true ↔ s.zones.view.get z = none := by
  simp [freeZones, viewZones]

theorem within_firmZones {s : State} {x : ZoneSet} : ZoneSet.within x (firmZones s) = true ↔
    ∀ z, ZoneSet.has x z = true →
      ∃ t, s.zones.view.get z = some { holder := s.line.number, standing := .firm, since := t } := by
  rw [ZoneSet.within_iff]
  exact forall₂_congr fun z _ => has_firmZones_entry

theorem deltas_natAbs (s : State) (seg : Segment) (i : Fin 4) :
    ((deltas (demands s) seg.lineEnd).get i).natAbs = (seg.lineEnd.get i - (s.axis i).demand).natAbs := by
  simp [deltas, demands]

theorem deltas_eq_zero (s : State) (seg : Segment) (i : Fin 4) :
    (deltas (demands s) seg.lineEnd).get i ≠ 0 ↔ (seg.lineEnd.get i - (s.axis i).demand).natAbs ≠ 0 := by
  rw [← deltas_natAbs, ne_eq, ne_eq, Int.natAbs_eq_zero]

/-- The trajectory of a head that goes MOVING: its length and its speed (R68, R69). -/
theorem startMoving_spec (s : State) (seg : Segment) : ∃ len speed, startMoving s seg = { seg with
      state := .moving
      traj := { start := demands s, len := len, pathSpeed := speed, s := 0, u := 0, arrived := false, settle := none
                marked := false } } ∧
    let d := fun i => (seg.lineEnd.get i - (s.axis i).demand).natAbs
    let along := fun i => s.live i = true ∧ (s.axis i).record.kind = .linear
    let turns := fun i => s.live i = true ∧ (s.axis i).record.kind = .angular
    let squares := ∑ i : Fin 4, if along i then d i * d i else 0
    (squares ≠ 0 → len * len ≤ squares ∧ squares < (len + 1) * (len + 1)) ∧
    (squares = 0 → (∀ i, turns i → d i ≤ len) ∧ (len = 0 ∨ ∃ i, turns i ∧ d i = len)) ∧
    (seg.kind = .reference → speed = seg.speed) ∧
    (seg.kind ≠ .reference → speed ≤ seg.speed ∧
      (∀ i, s.live i = true → d i ≠ 0 → speed ≤ max 1 ((s.axis i).record.maxSpeed * len / d i)) ∧
      (speed = seg.speed ∨
        ∃ i, s.live i = true ∧ d i ≠ 0 ∧ speed = max 1 ((s.axis i).record.maxSpeed * len / d i))) := by
  generalize hdel : deltas (demands s) seg.lineEnd = del
  have hd (i : Fin 4) : (del.get i).natAbs = (seg.lineEnd.get i - (s.axis i).demand).natAbs :=
    hdel ▸ deltas_natAbs s seg i
  have h0 (i : Fin 4) : del.get i ≠ 0 ↔ (seg.lineEnd.get i - (s.axis i).demand).natAbs ≠ 0 :=
    hdel ▸ deltas_eq_zero s seg i
  have hsq := linearSquares_eq s del
  obtain ⟨hroot, hlargest⟩ := pathLength_spec s del
  simp only [hd] at hsq hlargest
  refine ⟨pathLength s del, match seg.kind with
      | .reference => seg.speed
      | _ => pathSpeed s seg.speed (pathLength s del) del, ?_, ?_⟩
  · rw [← hdel]
    rfl
  · intro d along turns squares
    rw [show linearSquares s del = squares from hsq] at hroot hlargest
    refine ⟨hroot, hlargest, fun hk => by rw [hk], fun hk => ?_⟩
    obtain ⟨hle, hall, hmem⟩ := pathSpeed_spec s seg.speed (pathLength s del) del
    have hspeed : (match seg.kind with
        | .reference => seg.speed
        | _ => pathSpeed s seg.speed (pathLength s del) del) = pathSpeed s seg.speed (pathLength s del) del := by
      split
      · exact absurd ‹_› hk
      · rfl
    rw [hspeed]
    simp only [axisCap, hd, h0] at hall hmem
    exact ⟨hle, hall, hmem⟩

/-- Settles O20: the four ends of an evaluation, and what a start of motion fixes. -/
theorem headMovesWhenPermitDrivesLineRoomAndZonesAgree :
    Obligations.HeadMovesWhenPermitDrivesLineRoomAndZonesAgree := by
  refine ⟨fun s seg rest hq hs => ?_, fun s h => evaluateHead_idle h⟩
  intro needed mine others
  have hmine : ZoneSet.within needed (firmZones s) = true ↔ mine := within_firmZones
  have hothers : needed &&& otherZones s ≠ 0 ↔ others := overlaps_iff
  have hnot : seg.state ≠ .moving := by rcases hs with h | h <;> simp [h]
  have hclash : mine → ¬ others := by
    rintro hm ⟨z, h, hz, hv, hh⟩
    obtain ⟨t, ht⟩ := hm z hz
    rw [ht] at hv
    cases hv
    exact hh rfl
  rw [evaluateHead_ready hq hs]
  by_cases hm : mine
  · rw [if_pos (hmine.mpr hm)]
    by_cases hmay : mayMove s seg = true
    · rw [if_pos hmay]
      obtain ⟨hp, hg, hj, hroom⟩ := mayMove_iff.mp hmay
      obtain ⟨len, speed, hstart, hspec⟩ := startMoving_spec s seg
      refine ⟨startMoving s seg, by simp, rfl, rfl, ⟨fun _ => ⟨hp, hg, hj, hroom, hm⟩, fun _ => rfl⟩,
        fun _ => ⟨len, speed, hstart, hspec⟩, fun ho => absurd ho (hclash hm), fun hno => absurd hm hno⟩
    · rw [if_neg hmay]
      refine ⟨{ seg with state := .waiting }, by simp, rfl, rfl, ⟨fun h => (by cases h), fun h => ?_⟩,
        fun h => (by cases h),
        fun ho => absurd ho (hclash hm), fun hno => absurd hm hno⟩
      exact absurd (mayMove_iff.mpr ⟨h.1, h.2.1, h.2.2.1, h.2.2.2.1⟩) hmay
  · rw [if_neg fun h => hm (hmine.mp h)]
    by_cases ho : others
    · rw [if_pos (hothers.mpr ho)]
      exact ⟨{ seg with state := .waiting }, by simp, rfl, rfl, ⟨fun h => (by cases h), fun h => absurd h.2.2.2.2 hm⟩,
        fun h => (by cases h), fun _ => ⟨rfl, by simp⟩, fun _ hno => absurd ho hno⟩
    · rw [if_neg fun h => ho (hothers.mp h)]
      have hfree : needed &&& freeZones s ≠ 0 ↔ ∃ z, ZoneSet.has needed z = true ∧ s.zones.view.get z = none := by
        rw [ne_eq, ZoneSet.eq_zero_iff, not_forall]
        refine exists_congr fun z => ?_
        rw [Bool.not_eq_false, ZoneSet.has_and, Bool.and_eq_true, has_freeZones]
      by_cases hc : s.zones.claim = .none
      · rw [if_pos hc]
        by_cases hj : joined s = true ∧ needed &&& freeZones s ≠ 0
        · rw [if_pos hj]
          refine ⟨{ seg with state := .claiming }, by simp [makeClaim], rfl, rfl,
            ⟨fun h => (by cases h), fun h => absurd h.2.2.2.2 hm⟩, fun h => (by cases h), fun h => absurd h ho,
            fun _ _ _ _ _ => ⟨rfl, _, rfl, rfl, fun z => ?_⟩⟩
          rw [ZoneSet.has_and, Bool.and_eq_true, has_freeZones]
        · rw [if_neg hj]
          refine ⟨{ seg with state := .waiting }, by simp, rfl, rfl,
            ⟨fun h => (by cases h), fun h => absurd h.2.2.2.2 hm⟩, fun h => (by cases h), fun h => absurd h ho,
            fun _ _ _ hjoin hz => absurd ⟨hjoin, hfree.mpr hz⟩ hj⟩
      · rw [if_neg hc]
        exact ⟨seg, hq, rfl, rfl, ⟨fun h => absurd h hnot, fun h => absurd h.2.2.2.2 hm⟩, fun h => absurd h hnot,
          fun h => absurd h ho, fun _ _ h => absurd h hc⟩

end Sys2Proof.Machine

/-! The trajectory over one servo period: the profile of a path or a search, the demand along it, and a controlled
stop. -/

namespace Sys2Proof.Machine

/-! ### One period of a path (R69) -/

theorem Trajectory.step_fst (a : Nat) (t : Trajectory) : (t.step a).1 = t.advanceTo
    (if t.left ≤ t.u * t.u / (2 * (a * 4096)) then t.u - a * 4096 else min (t.u + a * 4096) (t.pathSpeed * 16384))
    true := by
  unfold Trajectory.step
  dsimp only
  split <;> rfl

theorem Trajectory.step_snd (a : Nat) (t : Trajectory) (ha : 1 ≤ a) : (t.step a).2 =
    decide (t.left ≤ t.u * t.u / (2 * (a * 4096)) ∧ 0 < t.u) := by
  unfold Trajectory.step
  dsimp only
  split
  · rename_i h
    rw [Bool.eq_iff_iff, decide_eq_true_eq, decide_eq_true_eq]
    simp only [h, true_and]
    omega
  · rename_i h
    simp [h]

/-- A period keeps the bounds of progress and speed, and bounds the change of speed. -/
theorem Trajectory.step_bounds {a : Nat} {t : Trajectory} (hs : t.s ≤ t.len * 65536) (hu : t.u ≤ t.pathSpeed * 16384) :
    let r := (t.step a).1
    r.s ≤ r.len * 65536 ∧ r.u ≤ r.pathSpeed * 16384 ∧ t.s ≤ r.s ∧ r.len = t.len ∧ r.pathSpeed = t.pathSpeed ∧
      r.u ≤ t.u + a * 4096 ∧ t.u ≤ r.u + a * 4096 := by
  intro r
  have hr : r = _ := Trajectory.step_fst a t
  rw [hr]
  simp only [Trajectory.advanceTo, if_true]
  split <;> (refine ⟨?_, ?_, ?_, trivial, trivial, ?_, ?_⟩ <;> omega)

/-! ### One period of the head (R17, R69) -/

theorem stepSegment_path {s : State} {seg : Segment} (ha : 1 ≤ s.station.accel) (hm : seg.state = .moving)
    (hn : seg.traj.arrived = false) (hk : seg.kind ≠ .reference) :
    let t := seg.traj
    let a := s.station.accel * 4096
    let falls := t.len * 65536 - t.s ≤ t.u * t.u / (2 * a)
    let u := if falls then t.u - a else min (t.u + a) (t.pathSpeed * 16384)
    let p := min (t.s + (t.u + u) / 2) (t.len * 65536)
    stepSegment s seg = { seg with
      decelerating := seg.decelerating || decide (falls ∧ 0 < t.u)
      traj := { t with
        u := u, s := p, arrived := decide (p = t.len * 65536)
        settle := if p = t.len * 65536 then some (s.uptime + 5000000) else t.settle } } := by
  intro t a falls u p
  have hfst : (t.step s.station.accel).1 = { t with u := u, s := p } := Trajectory.step_fst _ t
  have hsnd : (t.step s.station.accel).2 = decide (falls ∧ 0 < t.u) := Trajectory.step_snd _ t ha
  have hstep : stepSegment s seg = if p = t.len * 65536 then
      { seg with
        decelerating := seg.decelerating || decide (falls ∧ 0 < t.u)
        traj := { t with u := u, s := p, arrived := true, settle := some (s.uptime + Config.settleTicks) } }
      else { seg with
        decelerating := seg.decelerating || decide (falls ∧ 0 < t.u), traj := { t with u := u, s := p } } := by
    simp only [stepSegment, hm, hn, hk, if_false, Bool.false_eq_true]
    rw [show seg.traj = t from rfl, hfst, hsnd]
  rw [hstep]
  split
  · rename_i hp
    simp only [hp, decide_true]
    rfl
  · rename_i hp
    simp only [hp, decide_false]
    rw [show t.arrived = false from hn]

theorem stepSegment_search {s : State} {seg : Segment} (hm : seg.state = .moving) (hn : seg.traj.arrived = false)
    (hk : seg.kind = .reference) (hmark : seg.traj.marked = false) :
    stepSegment s seg = { seg with traj := seg.traj.search s.station.accel } := by
  simp [stepSegment, hm, hn, hk, hmark]

theorem Trajectory.stop_free (d : Nat) (t : Trajectory) : t.stop d false = t.advanceTo (t.u - d * 4096) false := by
  simp [Trajectory.stop]

theorem stepSegment_marked {s : State} {seg : Segment} (hm : seg.state = .moving) (hn : seg.traj.arrived = false)
    (hk : seg.kind = .reference) (hmark : seg.traj.marked = true) :
    let t := seg.traj
    let u := t.u - s.station.stopDecel * 4096
    stepSegment s seg = { seg with traj := { t with
      u := u, s := t.s + (t.u + u) / 2, arrived := decide (u = 0)
      settle := if u = 0 then some (s.uptime + 5000000) else t.settle } } := by
  intro t u
  have hstop : t.stop s.station.stopDecel false = { t with u := u, s := t.s + (t.u + u) / 2 } :=
    Trajectory.stop_free _ t
  simp only [stepSegment, hm, hn, hk, hmark, if_true, if_false, Bool.false_eq_true]
  rw [show seg.traj = t from rfl, hstop]
  clear_value u
  dsimp only
  split
  · rename_i hu
    simp only [hu, decide_true]
    rfl
  · rename_i hu
    simp only [hu, decide_false]
    rw [show t.arrived = false from hn]

/-! ### The demand along the path (R17, R69) -/

theorem pathDemand_reference {s : State} {seg : Segment} (hk : seg.kind = .reference) (i : Fin 4) :
    pathDemand s seg i = seg.traj.start.get i + (if i ≠ seg.axis then 0
      else if (s.axis i).record.searchNeg = true then - roundDiv seg.traj.s 65536 else roundDiv seg.traj.s 65536) := by
  simp only [pathDemand, hk]
  by_cases hi : i = seg.axis
  · simp only [hi, ne_eq, not_true_eq_false, if_true, if_false]
    split <;> omega
  · simp [hi]

theorem pathDemand_line {s : State} {seg : Segment} (hk : seg.kind ≠ .reference) (i : Fin 4) :
    pathDemand s seg i = if seg.traj.len = 0 then seg.lineEnd.get i
      else seg.traj.start.get i +
        roundDiv ((seg.lineEnd.get i - seg.traj.start.get i) * seg.traj.s) (seg.traj.len * 65536) := by
  unfold pathDemand
  dsimp only
  split
  · exact absurd ‹_› hk
  · rfl

/-- A share of the whole is the whole. -/
theorem roundDiv_mul_self (x : Int) {d : Nat} (hd : 0 < d) : roundDiv (x * d) d = x := by
  have hround (n : Nat) : roundDiv ((n * d : Nat) : Int) d = n := by
    rw [roundDiv_natCast, show 2 * (n * d) + d = d + n * (2 * d) by ring, Nat.add_mul_div_right _ _ (by omega),
      Nat.div_eq_of_lt (by omega), Nat.zero_add]
  obtain ⟨n, rfl | rfl⟩ := x.eq_nat_or_neg
  · exact_mod_cast hround n
  · rw [neg_mul, roundDiv_neg _ hd]
    have h := hround n
    rw [Nat.cast_mul] at h
    rw [h]

theorem pathDemand_between {s : State} {seg : Segment} (i : Fin 4) (hk : seg.kind ≠ .reference) (hl : 0 < seg.traj.len)
    (hs : seg.traj.s ≤ seg.traj.len * 65536) :
    min (seg.traj.start.get i) (seg.lineEnd.get i) ≤ pathDemand s seg i ∧
      pathDemand s seg i ≤ max (seg.traj.start.get i) (seg.lineEnd.get i) ∧
      (seg.traj.s = 0 → pathDemand s seg i = seg.traj.start.get i) ∧
      (seg.traj.s = seg.traj.len * 65536 → pathDemand s seg i = seg.lineEnd.get i) ∧
      pathDemand s seg i = seg.traj.start.get i +
        roundDiv ((seg.lineEnd.get i - seg.traj.start.get i) * seg.traj.s) (seg.traj.len * 65536) := by
  have heq := pathDemand_line (s := s) hk i
  rw [if_neg (by omega)] at heq
  have hpos : 0 < seg.traj.len * 65536 := by omega
  obtain ⟨hlo, hhi⟩ := roundDiv_mul_between (seg.lineEnd.get i - seg.traj.start.get i) hpos hs
  refine ⟨by omega, by omega, fun h0 => ?_, fun h1 => ?_, heq⟩
  · rw [heq, h0, Nat.cast_zero, mul_zero, roundDiv_eq_sign_mul 0 hpos, Int.sign_zero, zero_mul, add_zero]
  · rw [heq, h1, roundDiv_mul_self _ hpos]
    omega

/-! ### A controlled stop (R70) -/

/-- The quotient rounded up is the smallest that covers the dividend. -/
theorem ceilDiv_bounds {n d : Nat} (hd : 0 < d) (hn : 0 < n) :
    n ≤ d * ceilDiv n d ∧ d * (ceilDiv n d - 1) < n ∧ 1 ≤ ceilDiv n d := by
  unfold ceilDiv
  have h1 : n + d - 1 < d * ((n + d - 1) / d + 1) := Nat.lt_mul_div_succ _ hd
  have h2 : d * ((n + d - 1) / d) ≤ n + d - 1 := Nat.mul_div_le _ _
  have h3 : 1 ≤ (n + d - 1) / d := (Nat.one_le_div_iff hd).mpr (by omega)
  generalize (n + d - 1) / d = q at h1 h2 h3
  obtain ⟨k, rfl⟩ : ∃ k, q = k + 1 := ⟨q - 1, by omega⟩
  rw [Nat.mul_add, Nat.mul_add] at h1
  rw [Nat.mul_add] at h2
  rw [Nat.add_sub_cancel, Nat.mul_add]
  omega

/-- The fall of the speed in one period of a controlled stop (R70). -/
def stopFall (d : Nat) (bounded : Bool) (t : Trajectory) : Nat :=
  if bounded = true ∧ 0 < t.left ∧ t.left < t.u * t.u / (2 * (d * 4096)) then ceilDiv (t.u * t.u) (2 * t.left)
  else d * 4096

theorem Trajectory.stop_eq (d : Nat) (bounded : Bool) (t : Trajectory) :
    t.stop d bounded = t.advanceTo (t.u - stopFall d bounded t) bounded := rfl

theorem stopFall_pos {d : Nat} (hd : 1 ≤ d) (bounded : Bool) {t : Trajectory} (hu : 0 < t.u) :
    1 ≤ stopFall d bounded t := by
  unfold stopFall
  split
  · rename_i h
    exact (ceilDiv_bounds (by omega) (Nat.mul_pos hu hu)).2.2
  · omega

theorem Trajectory.stop_u (d : Nat) (bounded : Bool) (t : Trajectory) :
    (t.stop d bounded).u = t.u - stopFall d bounded t := rfl

/-- A stop comes to rest within as many periods as its speed counts. -/
theorem Trajectory.stop_iterate {d : Nat} (hd : 1 ≤ d) (bounded : Bool) (n : Nat) (t : Trajectory) (hn : t.u ≤ n) :
    ((fun x => Trajectory.stop d bounded x)^[n] t).u = 0 := by
  induction n generalizing t with
  | zero => exact Nat.le_zero.mp hn
  | succ n ih =>
    rw [Function.iterate_succ_apply]
    refine ih _ ?_
    rw [Trajectory.stop_u]
    rcases Nat.eq_zero_or_pos t.u with h0 | hpos
    · omega
    · have := stopFall_pos hd bounded hpos
      omega

theorem stepSegment_stopping {s : State} {seg : Segment} (hs : seg.state = .stopping) : stepSegment s seg =
    { seg with traj := seg.traj.stop s.station.stopDecel (seg.kind != .reference) } := by
  simp [stepSegment, hs]

/-- The fall of a STOPPING segment: the stop deceleration, or what stops it at its end (R70). -/
theorem stepSegment_stop {d : Nat} {s : State} {seg : Segment} {t : Trajectory}
    (hsd : s.station.stopDecel = d) (hs : seg.state = .stopping) (ht : seg.traj = t) :
    let g := t.len * 65536 - t.s
    let early := seg.kind ≠ .reference ∧ 0 < g ∧ g < t.u * t.u / (2 * (d * 4096))
    ∃ fall, (¬ early → fall = d * 4096) ∧ (early → t.u * t.u ≤ 2 * g * fall ∧ 2 * g * (fall - 1) < t.u * t.u) ∧
      let p := t.s + (t.u + (t.u - fall)) / 2
      stepSegment s seg = { seg with traj := { t with
        u := t.u - fall, s := if seg.kind = .reference then p else min p (t.len * 65536) } } := by
  intro g early
  have hearly : ((seg.kind != .reference) = true ∧ 0 < t.left ∧ t.left < t.u * t.u / (2 * (d * 4096))) ↔ early := by
    rw [bne_iff_ne]
    rfl
  refine ⟨stopFall d (seg.kind != .reference) t, fun hno => if_neg fun h => hno (hearly.mp h), fun he => ?_, ?_⟩
  · have hfall : stopFall d (seg.kind != .reference) t = ceilDiv (t.u * t.u) (2 * g) := if_pos (hearly.mpr he)
    obtain ⟨-, hg, hlt⟩ := he
    have hn : 0 < t.u * t.u := by
      by_contra h0
      rw [Nat.le_zero.mp (Nat.not_lt.mp h0), Nat.zero_div] at hlt
      omega
    obtain ⟨h1, h2, -⟩ := ceilDiv_bounds (n := t.u * t.u) (d := 2 * g) (by omega) hn
    rw [hfall]
    exact ⟨h1, h2⟩
  · intro p
    rw [stepSegment_stopping hs, ht, hsd, Trajectory.stop_eq]
    by_cases hk : seg.kind = .reference
    · rw [if_pos hk, show (seg.kind != .reference) = false by simp [hk]]
      simp only [p, hk, bne_self_eq_false, Trajectory.advanceTo, Bool.false_eq_true, if_false]
    · simp only [p, Trajectory.advanceTo, show (seg.kind != .reference) = true by simpa using hk, hk, if_false, if_true]

theorem Trajectory.stop_bounded_progress {d : Nat} {t : Trajectory} (hs : t.s ≤ t.len * 65536) :
    (t.stop d true).s ≤ t.len * 65536 ∧ t.s ≤ (t.stop d true).s := by
  rw [Trajectory.stop_eq]
  simp only [Trajectory.advanceTo, if_true]
  constructor <;> omega

/-- Settles O21: the profile period by period, the demand along it, and the stop that ends it. -/
theorem trajectoriesKeepToTheirPathAndStop : Obligations.TrajectoriesKeepToTheirPathAndStop := by
  refine ⟨⟨fun a t _ hs hu => Trajectory.step_bounds hs hu, fun s seg ha hm hn => ?_,
    fun s seg hk i => pathDemand_reference hk i, fun s seg i hk h0 => (pathDemand_line hk i).trans (if_pos h0),
    fun s seg i hk hl hs => pathDemand_between i hk hl hs⟩, fun d t hd => ?_⟩
  · intro t a seg' far
    exact ⟨fun hk => stepSegment_path ha hm hn hk, fun hk hmark => stepSegment_search hm hn hk hmark,
      fun hk hmark => stepSegment_marked hm hn hk hmark⟩
  · refine ⟨fun hs => Trajectory.stop_bounded_progress hs, ?_, fun hasEnd => ⟨fun hu => ?_, ?_⟩,
      fun s seg hsd hs ht => stepSegment_stop hsd hs ht⟩
    · rw [Trajectory.stop_free]
      exact Nat.le_add_right _ _
    · have := stopFall_pos hd hasEnd hu
      rw [Trajectory.stop_u]
      omega
    · exact Trajectory.stop_iterate hd hasEnd t.u t le_rfl

end Sys2Proof.Machine

/-! MOVE and REFERENCE: the checks in their order, and the segment that joins the queue. -/

namespace Sys2Proof.Machine

/-! ### What a frame heard leaves of the motion's data -/

section Heard

variable (f : RxFrame) (s : State)

@[simp] theorem heard_reachAxis? : reachAxis? (heard f s) = reachAxis? s := by rw [heard_eq]; rfl
@[simp] theorem heard_zoneAxis? : zoneAxis? (heard f s) = zoneAxis? s := by rw [heard_eq]; rfl
@[simp] theorem heard_liveAxes : (heard f s).liveAxes = s.liveAxes := by rw [heard_eq]; rfl
@[simp] theorem heard_demands : demands (heard f s) = demands s := by rw [heard_eq]; rfl
@[simp] theorem heard_startPoint : startPoint (heard f s) = startPoint s := by rw [heard_eq]; rfl
@[simp] theorem heard_pathLength (d : Vector Int 4) : pathLength (heard f s) d = pathLength s d := by
  rw [heard_eq]; rfl
@[simp] theorem heard_onHead? : onHead? (heard f s) = onHead? s := by rw [heard_eq]; rfl
@[simp] theorem heard_maxSpeedOf (l : List (Fin 4)) : maxSpeedOf (heard f s) l = maxSpeedOf s l := by
  rw [heard_eq]; rfl
@[simp] theorem heard_moveBlocked (l : List (Fin 4)) : moveBlocked (heard f s) l = moveBlocked s l := by
  rw [heard_eq]; rfl
@[simp] theorem heard_moveForm (p : List Byte) (n : Nat) : moveForm (heard f s) p n = moveForm s p n := by
  rw [heard_eq]; rfl
@[simp] theorem heard_outOfSoftLimits (l : List (Fin 4)) (v : Vector Int 4) :
    outOfSoftLimits (heard f s) l v = outOfSoftLimits s l v := by rw [heard_eq]; rfl
@[simp] theorem heard_noTravel (a b : Vector Int 4) : noTravel (heard f s) a b = noTravel s a b := by
  rw [heard_eq]; rfl
@[simp] theorem heard_probeSpeed (v d : Nat) : probeSpeed (heard f s) v d = probeSpeed s v d := by rw [heard_eq]; rfl
@[simp] theorem heard_searchEnd (a b : Vector Int 4) (d : Nat) : searchEnd (heard f s) a b d = searchEnd s a b d := by
  rw [heard_eq]; rfl
@[simp] theorem heard_reachClear : reachClear (heard f s) = reachClear s := by rw [heard_eq]; rfl
@[simp] theorem heard_queueShaped : QueueShaped (heard f s) ↔ QueueShaped s := by
  simp [QueueShaped, TailQueued, HeadFormed]

end Heard

/-! ### Joining the queue (R56, R62, R64) -/

/-- A segment in an empty queue is head at once, WAITING with its needed set. -/
def joining (s : State) (seg : Segment) : Segment :=
  if s.motion.queue = [] then { seg with needed := some (neededSet s seg), state := .waiting } else seg

/-- A QUEUED segment joins a formed queue at its tail. -/
theorem enqueue_shaped {s : State} {seg : Segment} (hq : QueueShaped s) (hs : seg.state = .queued) :
    enqueue seg s = { s with
      motion := { s.motion with queue := s.motion.queue ++ [joining s seg], counter := s.motion.counter + 1 } } := by
  cases h : s.motion.queue with
  | nil =>
    rw [enqueue_empty h, joining, if_pos h, formedHead, if_pos hs, List.nil_append]
  | cons x xs =>
    obtain ⟨hx, -⟩ := hq.2 x xs h
    rw [enqueue_behind h, joining, if_neg (by simp [h]), formedHead, if_neg hx, List.cons_append]

theorem acceptSegment_heard {f : RxFrame} {s : State} {seg : Segment} (hq : QueueShaped s) (hs : seg.state = .queued)
    (hn : seg.number = s.motion.counter) :
    acceptSegment seg (heard f s) = { code := .accepted, detail := s.motion.counter.toNat, after := { heard f s with
      motion := { s.motion with queue := s.motion.queue ++ [joining (heard f s) seg],
                                counter := s.motion.counter + 1 } } } := by
  rw [acceptSegment, enqueue_shaped ((heard_queueShaped f s).mpr hq) hs, hn, heard_motion]

/-! ### The checks of a MOVE (R58) -/

theorem moveForm_iff {s : State} {p : List Byte} {extra : Nat} : moveForm s p extra = true ↔
    byteAt p 4 ≠ 0 ∧ byteAt p 4 < 16 ∧ (∀ i ∈ maskAxes (byteAt p 4), s.live i = true) ∧
      p.length = 5 + 4 * (maskAxes (byteAt p 4)).length + extra := by
  simp [moveForm, and_assoc]

/-- Every axis that a MOVE of the mask `l` looks at is referenced. -/
def movesKnown (s : State) (l : List (Fin 4)) : Prop :=
  (∀ i ∈ l, (s.axis i).referenced = true) ∧
    ∀ i, reachAxis? s = some i ∨ zoneAxis? s = some i → (s.axis i).referenced = true

theorem unreferenced_false {s : State} {o : Option (Fin 4)} :
    unreferenced s o = false ↔ ∀ i, o = some i → (s.axis i).referenced = true := by
  cases o <;> simp [unreferenced]

theorem movesKnown_iff {s : State} {l : List (Fin 4)} : movesKnown s l ↔
    (someAxis s l (fun a => !a.referenced) || unreferenced s (reachAxis? s) ||
      unreferenced s (zoneAxis? s)) = false := by
  have hmask : someAxis s l (fun a => !a.referenced) = false ↔ ∀ i ∈ l, (s.axis i).referenced = true := by
    simp [someAxis]
  rw [Bool.or_eq_false_iff, Bool.or_eq_false_iff, hmask, unreferenced_false, unreferenced_false, movesKnown, and_assoc]
  refine and_congr_right' ?_
  rw [← forall_and]
  exact forall_congr' fun _ => or_imp

section Blocked

variable {s : State} {l : List (Fin 4)}

theorem moveBlocked_busy (hf : ¬ (s.probes.change.active = false ∧ s.gate = .normal)) :
    moveBlocked s l = some .busy :=
  if_pos (by rwa [not_and_or, Bool.not_eq_false] at hf)

theorem moveBlocked_free (hf : s.probes.change.active = false ∧ s.gate = .normal) : moveBlocked s l =
    if 8 ≤ s.motion.queue.length then some .queueFull
    else if someAxis s l (fun a => !a.referenced) || unreferenced s (reachAxis? s) || unreferenced s (zoneAxis? s) then
      some .notReferenced
    else none :=
  if_neg (by rintro (h | h); exacts [by simp [hf.1] at h, h hf.2])

theorem moveBlocked_full (hf : s.probes.change.active = false ∧ s.gate = .normal) (hq : 8 ≤ s.motion.queue.length) :
    moveBlocked s l = some .queueFull := by
  rw [moveBlocked_free hf, if_pos hq]

theorem moveBlocked_unknown (hf : s.probes.change.active = false ∧ s.gate = .normal)
    (hq : s.motion.queue.length < 8) (hk : ¬ movesKnown s l) : moveBlocked s l = some .notReferenced := by
  rw [moveBlocked_free hf, if_neg (by omega), if_pos (by rwa [movesKnown_iff, Bool.not_eq_false] at hk)]

theorem moveBlocked_passed (hf : s.probes.change.active = false ∧ s.gate = .normal)
    (hq : s.motion.queue.length < 8) (hk : movesKnown s l) : moveBlocked s l = none := by
  rw [moveBlocked_free hf, if_neg (by omega), if_neg (by rw [movesKnown_iff.mp hk]; exact Bool.false_ne_true)]

end Blocked

/-- The form of a MOVE: its kind, its mask and its length. -/
def moveWellFormed (s : State) (p : List Byte) : Prop :=
  byteAt p 1 ≤ 1 ∧ byteAt p 4 ≠ 0 ∧ byteAt p 4 < 16 ∧ (∀ i ∈ maskAxes (byteAt p 4), s.live i = true) ∧
    p.length = 5 + 4 * (maskAxes (byteAt p 4)).length + (if byteAt p 1 = 1 then 4 else 0)

theorem moveWellFormed_iff {s : State} {p : List Byte} : moveWellFormed s p ↔
    byteAt p 1 ≤ 1 ∧ moveForm s p (if byteAt p 1 = 1 then 4 else 0) = true := by
  rw [moveForm_iff, moveWellFormed]

theorem runMove_position {f : RxFrame} {s : State} (h : byteAt f.payload 1 = 0) :
    runMove f s = runPosition f.payload s := by
  unfold runMove
  split
  · rfl
  · omega
  · exact absurd h ‹_›

theorem runMove_probe {f : RxFrame} {s : State} (h : byteAt f.payload 1 = 1) : runMove f s = runProbe f.payload s := by
  unfold runMove
  split
  · omega
  · rfl
  · exact absurd h ‹_›

theorem runMove_other {f : RxFrame} {s : State} (h : ¬ byteAt f.payload 1 ≤ 1) : runMove f s = refuse .badValue s := by
  unfold runMove
  split
  · omega
  · omega
  · rfl

theorem runMove_malformed {f : RxFrame} {s : State} (h : ¬ moveWellFormed s f.payload) :
    runMove f s = refuse .badValue s := by
  by_cases hk : byteAt f.payload 1 ≤ 1
  · rw [moveWellFormed_iff] at h
    rcases Nat.le_one_iff_eq_zero_or_eq_one.mp hk with h0 | h1
    · rw [runMove_position h0, runPosition]
      exact if_pos (by simpa [h0] using h)
    · rw [runMove_probe h1, runProbe]
      exact if_pos (by simpa [h1] using h)
  · exact runMove_other hk

theorem runPosition_formed {p : List Byte} {s : State} (h : moveForm s p 0 = true) : runPosition p s =
    match moveBlocked s (maskAxes (byteAt p 4)) with
    | some code => refuse code s
    | none =>
      if u16At p 2 = 0 then refuse .badValue s
      else if outOfSoftLimits s (maskAxes (byteAt p 4)) (moveTargets s p (startPoint s)) then refuse .outOfRange s
      else acceptSegment (newSegment s .room .position 0 (moveTargets s p (startPoint s)) none
        (min (u16At p 2) (maxSpeedOf s (maskAxes (byteAt p 4))))) s := by
  unfold runPosition
  exact (if_neg (by simp [h])).trans rfl

theorem runProbe_formed {p : List Byte} {s : State} (h : moveForm s p 4 = true) : runProbe p s =
    match moveBlocked s (maskAxes (byteAt p 4)) with
    | some code => refuse code s
    | none =>
      let distance := u32At p (5 + 4 * (maskAxes (byteAt p 4)).length)
      let speed := probeSpeed s (min (u16At p 2) (maxSpeedOf s (maskAxes (byteAt p 4)))) distance
      let targets := moveTargets s p (startPoint s)
      if speed = 0 then refuse .badValue s
      else if outOfSoftLimits s (maskAxes (byteAt p 4)) targets then refuse .outOfRange s
      else if noTravel s (startPoint s) targets then refuse .badValue s
      else acceptSegment
        (newSegment s .room .probe 0 targets (some (searchEnd s (startPoint s) targets distance)) speed) s := by
  unfold runProbe
  exact (if_neg (by simp [h])).trans rfl

theorem runMove_blocked {f : RxFrame} {s : State} {code : ReplyCode} (h : moveWellFormed s f.payload)
    (hb : moveBlocked s (maskAxes (byteAt f.payload 4)) = some code) : runMove f s = refuse code s := by
  obtain ⟨hk, hform⟩ := moveWellFormed_iff.mp h
  rcases Nat.le_one_iff_eq_zero_or_eq_one.mp hk with h0 | h1
  · rw [runMove_position h0, runPosition_formed (by simpa [h0] using hform), hb]
  · rw [runMove_probe h1, runProbe_formed (by simpa [h1] using hform), hb]

theorem outOfSoftLimits_iff {s : State} {l : List (Fin 4)} {v : Vector Int 4} : outOfSoftLimits s l v = true ↔
    ∃ i ∈ l, v.get i < (s.axis i).record.softMin ∨ (s.axis i).record.softMax < v.get i := by
  simp only [outOfSoftLimits, List.any_eq_true, Bool.not_eq_true', ← Bool.not_eq_true, within_iff]
  exact exists_congr fun i => and_congr_right' (by omega)

theorem outOfSoftLimits_false {s : State} {l : List (Fin 4)} {v : Vector Int 4} : ¬ outOfSoftLimits s l v = true ↔
    ∀ i ∈ l, (s.axis i).record.softMin ≤ v.get i ∧ v.get i ≤ (s.axis i).record.softMax := by
  simp only [outOfSoftLimits_iff, not_exists, not_and, not_or, not_lt]

/-- The raw targets as the statements of the MOVEs write them. -/
theorem moveTargets_eq (s : State) (p : List Byte) (start : Vector Int 4) : moveTargets s p start =
    tab4 fun i => if i ∈ maskAxes (byteAt p 4) then inverse s i (s32At p (5 + 4 * (maskAxes (byteAt p 4)).idxOf i))
      else start.get i := by
  simp only [mem_maskAxes]
  rfl

end Sys2Proof.Machine

/-! The acceptance of MOVE and REFERENCE. -/

namespace Sys2Proof.Machine

/-! ### MOVE of kind POSITION (R58, R59, R62) -/

section Position

variable {f : RxFrame} {s : State} (h0 : byteAt f.payload 1 = 0) (hform : moveForm s f.payload 0 = true)
  (hb : moveBlocked s (maskAxes (byteAt f.payload 4)) = none)

include h0 hform hb

theorem runMove_position_checked : runMove (f := f) s =
    if u16At f.payload 2 = 0 then refuse .badValue s
    else if outOfSoftLimits s (maskAxes (byteAt f.payload 4)) (moveTargets s f.payload (startPoint s)) then
      refuse .outOfRange s
    else acceptSegment (newSegment s .room .position 0 (moveTargets s f.payload (startPoint s)) none
      (min (u16At f.payload 2) (maxSpeedOf s (maskAxes (byteAt f.payload 4))))) s := by
  rw [runMove_position h0, runPosition_formed hform, hb]

end Position

/-- Settles O22: the checks in their order, then the segment at the tail of the queue. -/
theorem movePositionIsAcceptedAsASegment : Obligations.MovePositionIsAcceptedAsASegment := by
  constructor
  · intro cmd f s hcmd hc hm hs p mask named h start targets form free known
    have hexec : exec (cmd f) s = .next (command 9 runAccess runMove f s) := by
      rw [List.mem_cons, List.mem_singleton] at hcmd
      rcases hcmd with rfl | rfl <;> rfl
    have hrefuse {code : ReplyCode} (hr : runMove f h = refuse code h) :
        exec (cmd f) s = .next (answered 9 f code 0 h) :=
      hexec.trans (next_command (a := refuse code h) hc (runAccess_heard hm hs) hr)
    have hwell : moveWellFormed h f.payload ↔ form := by
      simp only [moveWellFormed, h, heard_live]
      rfl
    have hblocked {code : ReplyCode} (hf : form) (hb : moveBlocked s named = some code) :
        exec (cmd f) s = .next (answered 9 f code 0 h) :=
      hrefuse (runMove_blocked (hwell.mpr hf) ((heard_moveBlocked f s named).trans hb))
    have hstart : startPoint h = start := (heard_startPoint f s).trans rfl
    have htargets : moveTargets h p (startPoint h) = targets := by
      rw [moveTargets_eq, hstart]
      rfl
    refine ⟨fun hf => hrefuse (runMove_malformed fun hw => hf (hwell.mp hw)),
      fun hf hfree => hblocked hf (moveBlocked_busy hfree),
      fun hf hfree hq => hblocked hf (moveBlocked_full hfree hq),
      fun hf hfree hq hk => hblocked hf (moveBlocked_unknown hfree hq hk), fun hf hfree hq hk h0 => ?_⟩
    have hform : moveForm h f.payload 0 = true := by
      simpa [show byteAt f.payload 1 = 0 from h0] using (moveWellFormed_iff.mp (hwell.mpr hf)).2
    have hpass := (heard_moveBlocked f s named).trans (moveBlocked_passed hfree hq hk)
    have hrun := runMove_position_checked h0 hform hpass
    refine ⟨fun hu => hrefuse (hrun.trans (if_pos hu)), fun hu hout => hrefuse (hrun.trans ?_)⟩
    have hsoft : outOfSoftLimits h named targets = true :=
      outOfSoftLimits_iff.mpr (by simpa only [h, heard_axis] using hout)
    rw [if_neg hu, htargets]
    exact if_pos hsoft
  · intro f s hc hm hs p mask named h top start targets h0 hmask hlt hlive hlen hq hch hg hroom hknown hroles hu
      hsoft seg joins
    have hform : moveForm h f.payload 0 = true := by
      rw [heard_moveForm, moveForm_iff]
      exact ⟨hmask, hlt, hlive, hlen⟩
    have hb : moveBlocked h named = none :=
      (heard_moveBlocked f s named).trans (moveBlocked_passed ⟨hch, hg⟩ hroom ⟨hknown, hroles⟩)
    have hstart : startPoint h = start := (heard_startPoint f s).trans rfl
    have htargets : moveTargets h p (startPoint h) = targets := by
      rw [moveTargets_eq, hstart]
      rfl
    have hseg : newSegment h .room .position 0 targets none (min (u16At p 2) (maxSpeedOf h named)) = seg := by
      rw [heard_maxSpeedOf, newSegment, heard_motion]
      rfl
    have hin : ¬ outOfSoftLimits h named targets = true :=
      outOfSoftLimits_false.mpr (by simpa only [h, heard_axis] using hsoft)
    have hjoins : joining h seg = joins := by rw [joining, heard_motion]
    refine next_command (a := ⟨_, _, _⟩) hc (runAccess_heard hm hs) ((runMove_position_checked h0 hform hb).trans ?_)
    rw [if_neg hu, htargets]
    refine (if_neg hin).trans ((congrArg (acceptSegment · h) hseg).trans ?_)
    rw [acceptSegment_heard hq rfl rfl, hjoins]
    rfl

end Sys2Proof.Machine

/-! The acceptance of a MOVE of kind PROBE and of a REFERENCE. -/

namespace Sys2Proof.Machine

/-! ### MOVE of kind PROBE (R58 to R62) -/

theorem runMove_probe_checked {f : RxFrame} {s : State} (h1 : byteAt f.payload 1 = 1)
    (hform : moveForm s f.payload 4 = true) (hb : moveBlocked s (maskAxes (byteAt f.payload 4)) = none) :
    let distance := u32At f.payload (5 + 4 * (maskAxes (byteAt f.payload 4)).length)
    let speed := probeSpeed s (min (u16At f.payload 2) (maxSpeedOf s (maskAxes (byteAt f.payload 4)))) distance
    let targets := moveTargets s f.payload (startPoint s)
    runMove f s =
      if speed = 0 then refuse .badValue s
      else if outOfSoftLimits s (maskAxes (byteAt f.payload 4)) targets then refuse .outOfRange s
      else if noTravel s (startPoint s) targets then refuse .badValue s
      else acceptSegment
        (newSegment s .room .probe 0 targets (some (searchEnd s (startPoint s) targets distance)) speed) s := by
  intro distance speed targets
  rw [runMove_probe h1, runProbe_formed hform, hb]

theorem probeSpeed_none {s : State} {v d : Nat} (h : onHead? s = none) : probeSpeed s v d = 0 := by
  simp [probeSpeed, h]

theorem probeSpeed_some {s : State} {v d : Nat} {k : Fin 16} {r : ProbeRecord} (h : onHead? s = some (k, r)) :
    probeSpeed s v d = if 1 ≤ d ∧ d ≤ 2000000 then
      min v (min s.station.probeCap (isqrt (2 * s.station.stopDecel * r.allowance))) else 0 := by
  simp only [probeSpeed, h]
  rfl

theorem noTravel_iff {s : State} {a b : Vector Int 4} :
    noTravel s a b = true ↔ ¬ ∃ i, s.live i = true ∧ b.get i ≠ a.get i := by
  simp [noTravel]

theorem searchEnd_get {s : State} {a b : Vector Int 4} {d : Nat} {i : Fin 4} (h : s.live i = true) :
    (searchEnd s a b d).get i = max (s.axis i).record.softMin (min (s.axis i).record.softMax
      (b.get i + roundDiv (d * (b.get i - a.get i)) (pathLength s (deltas a b)))) := by
  simp only [searchEnd, tab4_get, h, if_true, deltas]
  rfl

/-- A speed of at most the root of a number has a square of at most it. -/
theorem sq_le_of_le_isqrt {v n : Nat} (h : v ≤ isqrt n) : v * v ≤ n :=
  (Nat.mul_self_le_mul_self h).trans (isqrt_bounds n).1

/-- Settles O23: the search needs a probe on the head, a distance and a speed, its targets inside and some travel. -/
theorem moveProbeIsAcceptedWithItsSearch : Obligations.MoveProbeIsAcceptedWithItsSearch := by
  intro f s hc hm hs p mask named h top distance start targets len h1 hmask hlt hlive hlen hch hg hroom hknown hroles
    inside travels
  have hform : moveForm h f.payload 4 = true := by
    rw [heard_moveForm, moveForm_iff]
    exact ⟨hmask, hlt, hlive, hlen.trans (Nat.add_right_comm 5 4 _)⟩
  have hb : moveBlocked h named = none :=
    (heard_moveBlocked f s named).trans (moveBlocked_passed ⟨hch, hg⟩ hroom ⟨hknown, hroles⟩)
  have hstart : startPoint h = start := (heard_startPoint f s).trans rfl
  have htargets : moveTargets h p (startPoint h) = targets := by
    rw [moveTargets_eq, hstart]
    rfl
  have hspeed : probeSpeed h (min (u16At p 2) (maxSpeedOf h named)) distance =
      probeSpeed s (min (u16At p 2) top) distance := by
    rw [heard_maxSpeedOf, heard_probeSpeed]
    rfl
  have hrun := runMove_probe_checked h1 hform hb
  rw [htargets, hstart] at hrun
  have hrefuse {code : ReplyCode} (hr : runMove f h = refuse code h) :
      exec (.moveProbe f) s = .next (answered 9 f code 0 h) :=
    next_command (a := refuse code h) hc (runAccess_heard hm hs) hr
  refine ⟨fun hnone => hrefuse (hrun.trans (if_pos (hspeed.trans (probeSpeed_none hnone)))),
    fun k r hk => ?_⟩
  intro speed good
  have hvalue := hspeed.trans (probeSpeed_some hk)
  have hmin : min (min (u16At p 2) top) (min s.station.probeCap (isqrt (2 * s.station.stopDecel * r.allowance))) =
    speed := rfl
  rw [hmin] at hvalue
  have hgood : probeSpeed h (min (u16At p 2) (maxSpeedOf h named)) distance ≠ 0 ↔ good := by
    rw [hvalue]
    simp only [good]
    split <;> omega
  have hsoft : ¬ outOfSoftLimits h named targets = true ↔ inside := by
    rw [outOfSoftLimits_false]
    simp only [h, heard_axis, inside]
  have htravel : noTravel h start targets = true ↔ ¬ travels := by
    rw [heard_noTravel, noTravel_iff]
  refine ⟨fun hno => hrefuse (hrun.trans (if_pos (not_not.mp fun hne => hno (hgood.mp hne)))), fun hyes hout => ?_,
    fun hyes hin hstill => ?_, fun hyes hin htr hq => ⟨searchEnd s start targets distance, ?_, fun i hi => ?_, ?_⟩⟩
  · exact hrefuse (hrun.trans ((if_neg (hgood.mpr hyes)).trans (if_pos (not_not.mp fun hn => hout (hsoft.mp hn)))))
  · exact hrefuse (hrun.trans ((if_neg (hgood.mpr hyes)).trans
      ((if_neg (hsoft.mpr hin)).trans (if_pos (htravel.mpr hstill)))))
  · exact sq_le_of_le_isqrt ((min_le_right _ _).trans (min_le_right _ _))
  · exact searchEnd_get hi
  · intro seg joins
    have hv : probeSpeed h (min (u16At p 2) (maxSpeedOf h named)) distance = speed :=
      hvalue.trans (if_pos ⟨hyes.1, hyes.2.1⟩)
    have hseg : newSegment h .room .probe 0 targets (some (searchEnd h start targets distance))
        (probeSpeed h (min (u16At p 2) (maxSpeedOf h named)) distance) = seg := by
      rw [hv, heard_searchEnd, newSegment, heard_motion]
    have hjoins : joining h seg = joins := by rw [joining, heard_motion]
    refine next_command (a := ⟨_, _, _⟩) hc (runAccess_heard hm hs) (hrun.trans ((if_neg (hgood.mpr hyes)).trans
      ((if_neg (hsoft.mpr hin)).trans ((if_neg fun hn => htravel.mp hn htr).trans
        ((congrArg (acceptSegment · h) hseg).trans ?_)))))
    rw [acceptSegment_heard hq rfl rfl, hjoins]
    rfl

/-! ### REFERENCE (R16, R63) -/

theorem reachClear_iff {s : State} : reachClear s = true ↔ ∃ r, reachAxis? s = some r ∧
    (s.axis r).referenced = true ∧ reachAtStart s r ≤ s.station.freeReach := by
  unfold reachClear
  cases h : reachAxis? s <;> simp

section Reference

variable {f : RxFrame} {s : State}

theorem runReference_busy (hl : f.payload.length = 2) (hf : ¬ (s.probes.change.active = false ∧ s.gate = .normal)) :
    runReference f s = refuse .busy s := by
  rw [not_and_or, Bool.not_eq_false] at hf
  rw [runReference, if_neg (not_not.mpr hl), if_pos hf]

theorem runReference_free (hl : f.payload.length = 2) (hf : s.probes.change.active = false ∧ s.gate = .normal) :
    runReference f s =
      if 8 ≤ s.motion.queue.length then refuse .queueFull s
      else match s.liveAxis? (byteAt f.payload 1) with
        | none => refuse .badValue s
        | some i => if !(s.axis i).record.setUp then refuse .badValue s
          else if (s.axis i).record.role = .zoneAxis ∧ reachClear s = false then refuse .notReferenced s
          else acceptSegment (newSegment s .room .reference i (startPoint s) none (s.axis i).record.refSpeed) s := by
  have hbusy : ¬ (s.probes.change.active = true ∨ s.gate ≠ .normal) := by simp [hf.1, hf.2]
  exact (if_neg (not_not.mpr hl)).trans ((if_neg hbusy).trans rfl)

theorem runReference_full (hl : f.payload.length = 2) (hf : s.probes.change.active = false ∧ s.gate = .normal)
    (hq : 8 ≤ s.motion.queue.length) : runReference f s = refuse .queueFull s := by
  rw [runReference_free hl hf, if_pos hq]

theorem runReference_unknown (hl : f.payload.length = 2) (hf : s.probes.change.active = false ∧ s.gate = .normal)
    (hq : s.motion.queue.length < 8)
    (hn : ∀ i : Fin 4, byteAt f.payload 1 = i.val → s.live i = true → (s.axis i).record.setUp = false) :
    runReference f s = refuse .badValue s := by
  rw [runReference_free hl hf, if_neg (by omega)]
  cases hi : s.liveAxis? (byteAt f.payload 1) with
  | none => rfl
  | some i =>
    obtain ⟨hb, hlive⟩ := liveAxis?_some_iff.mp hi
    exact if_pos (by simp [hn i hb hlive])

theorem runReference_axis (hl : f.payload.length = 2) (hf : s.probes.change.active = false ∧ s.gate = .normal)
    (hq : s.motion.queue.length < 8) {i : Fin 4} (hb : byteAt f.payload 1 = i.val) (hi : s.live i = true)
    (hs : (s.axis i).record.setUp = true) : runReference f s =
      if (s.axis i).record.role = .zoneAxis ∧ reachClear s = false then refuse .notReferenced s
      else acceptSegment (newSegment s .room .reference i (startPoint s) none (s.axis i).record.refSpeed) s := by
  rw [runReference_free hl hf, if_neg (by omega), liveAxis?_some hb hi]
  exact if_neg (by simp [hs])

end Reference

/-- Settles O24: the checks in their order, that of the zone axis under the condition on the reach axis. -/
theorem referenceIsAcceptedUnderItsReachCondition : Obligations.ReferenceIsAcceptedUnderItsReachCondition := by
  intro f s hc hm hs h free
  have hfree : (h.probes.change.active = false ∧ h.gate = .normal) ↔ free := by
    simp only [h, heard_probes, heard_gate, free]
  have hrefuse {code : ReplyCode} (hr : runReference f h = refuse code h) :
      exec (.reference f) s = .next (answered 10 f code 0 h) :=
    next_command (a := refuse code h) hc (runAccess_heard hm hs) hr
  refine ⟨fun hl => hrefuse (if_pos hl), fun hl hf => hrefuse (runReference_busy hl fun hn => hf (hfree.mp hn)),
    fun hl hf => ?_⟩
  have hf' := hfree.mpr hf
  intro start clear
  have hstart : startPoint h = start := (heard_startPoint f s).trans rfl
  have hclear : reachClear h = true ↔ clear := by
    rw [heard_reachClear, reachClear_iff]
    rfl
  have hunclear (hno : ¬ clear) : reachClear h = false := Bool.eq_false_iff.mpr fun hyes => hno (hclear.mp hyes)
  have hqueue : h.motion.queue = s.motion.queue := congrArg Sequencer.queue (heard_motion f s)
  refine ⟨fun hq => hrefuse (runReference_full hl hf' (by rwa [hqueue])), fun hq => ?_⟩
  have hq' : h.motion.queue.length < 8 := by rwa [hqueue]
  refine ⟨fun hn => hrefuse (runReference_unknown hl hf' hq' (by simpa only [h, heard_live, heard_axis] using hn)),
    fun i hb hi hset => ?_⟩
  have hrun := runReference_axis hl hf' hq' hb (by rwa [heard_live]) (by rwa [heard_axis])
  rw [heard_axis, hstart] at hrun
  refine ⟨fun hz hno => hrefuse (hrun.trans (if_pos ⟨hz, hunclear hno⟩)), fun hz hshape => ?_⟩
  · intro seg joins
    have hseg : newSegment h .room .reference i start none (s.axis i).record.refSpeed = seg := by
      rw [newSegment, heard_motion]
    have hjoins : joining h seg = joins := by rw [joining, heard_motion]
    have hpass : ¬ ((s.axis i).record.role = .zoneAxis ∧ reachClear h = false) := by
      rintro ⟨hzone, hfalse⟩
      rw [hclear.mpr (hz hzone)] at hfalse
      exact Bool.false_ne_true hfalse.symm
    refine next_command (a := ⟨_, _, _⟩) hc (runAccess_heard hm hs) (hrun.trans ((if_neg hpass).trans
      ((congrArg (acceptSegment · h) hseg).trans ?_)))
    rw [acceptSegment_heard hshape rfl rfl, hjoins]
    rfl

end Sys2Proof.Machine

/-! PROBE CHANGE: the checks in their order (R132) and the change that begins (R133). -/

namespace Sys2Proof.Machine

/-! ### Rack geometry (R130, R134) -/

theorem approachIx?_mem {s : State} {i : Fin 4} {j : Fin 3} (h : approachIx? s i = some j) : i ∈ approachAxes s := by
  unfold approachIx? at h
  split at h
  · rename_i k hk
    split at h
    · rename_i hlt
      exact List.idxOf_lt_length_iff.mp ((finOf_eq_some.mp hk).symm ▸ hlt)
    · cases h
  · cases h

theorem insertTarget_get (s : State) (p : Port) (j : Fin 3) : (insertTarget s p).get j =
    p.approach.get j + (if approachIx? s p.insertAxis = some j then p.insertDepth else 0) := by
  unfold insertTarget
  cases h : approachIx? s p.insertAxis with
  | none => simp
  | some k =>
    by_cases hk : k = j
    · subst hk
      simp [Vector.get_eq_getElem]
    · have hne : k.val ≠ j.val := fun hv => hk (Fin.ext hv)
      simp [hk, Vector.get_eq_getElem, Vector.getElem_set_ne _ _ hne]

/-- The approach point or the insert target of a port lies outside a soft limit of an approach axis. -/
def portOutside (s : State) (p : Port) : Prop :=
  ∃ (i : Fin 4) (j : Fin 3), approachIx? s i = some j ∧
    (p.approach.get j < (s.axis i).record.softMin ∨ (s.axis i).record.softMax < p.approach.get j ∨
      p.approach.get j + (if approachIx? s p.insertAxis = some j then p.insertDepth else 0) <
        (s.axis i).record.softMin ∨
      (s.axis i).record.softMax <
        p.approach.get j + (if approachIx? s p.insertAxis = some j then p.insertDepth else 0))

theorem outsideLimits_iff {s : State} {pt : Vector Int 3} : outsideLimits s pt = true ↔
    ∃ (i : Fin 4) (j : Fin 3), approachIx? s i = some j ∧
      (pt.get j < (s.axis i).record.softMin ∨ (s.axis i).record.softMax < pt.get j) := by
  rw [outsideLimits, List.any_eq_true]
  constructor
  · rintro ⟨i, -, hi⟩
    split at hi
    · rename_i j hj
      exact ⟨i, j, hj, by simpa using hi⟩
    · cases hi
  · rintro ⟨i, j, hj, hi⟩
    refine ⟨i, approachIx?_mem hj, ?_⟩
    simpa [hj] using hi

theorem portOutside_iff {s : State} {p : Port} :
    (outsideLimits s p.approach || outsideLimits s (insertTarget s p)) = true ↔ portOutside s p := by
  simp only [Bool.or_eq_true, outsideLimits_iff, insertTarget_get, portOutside]
  constructor
  · rintro (⟨i, j, hj, h⟩ | ⟨i, j, hj, h⟩)
    · exact ⟨i, j, hj, by tauto⟩
    · exact ⟨i, j, hj, by tauto⟩
  · rintro ⟨i, j, hj, h | h | h | h⟩
    · exact .inl ⟨i, j, hj, .inl h⟩
    · exact .inl ⟨i, j, hj, .inr h⟩
    · exact .inr ⟨i, j, hj, .inl h⟩
    · exact .inr ⟨i, j, hj, .inr h⟩

/-! ### The checks of a port (step 8 of R132) -/

section Port

variable {s : State} {z : Fin 16} {p : Port} {n : Nat}

theorem checkPort_noInsert (h : approachIx? s p.insertAxis = none) : checkPort s z p n = some (.badValue, n) :=
  if_pos (by simp [h])

theorem checkPort_insert (h : approachIx? s p.insertAxis ≠ none) : checkPort s z p n =
    if outsideLimits s p.approach || outsideLimits s (insertTarget s p) then some (.outOfRange, n)
    else if !ZoneSet.has (stationarySet s (rackTargets s p.approach)) z then some (.badValue, n)
    else none :=
  if_neg (by simpa using h)

theorem checkPort_outside (h : approachIx? s p.insertAxis ≠ none) (ho : portOutside s p) :
    checkPort s z p n = some (.outOfRange, n) := by
  rw [checkPort_insert h, if_pos (portOutside_iff.mpr ho)]

theorem checkPort_apart (h : approachIx? s p.insertAxis ≠ none) (ho : ¬ portOutside s p)
    (hz : ZoneSet.has (stationarySet s (rackTargets s p.approach)) z = false) :
    checkPort s z p n = some (.badValue, n) := by
  rw [checkPort_insert h, if_neg fun hn => ho (portOutside_iff.mp hn), hz]
  rfl

theorem checkPort_fit (h : approachIx? s p.insertAxis ≠ none) (ho : ¬ portOutside s p)
    (hz : ZoneSet.has (stationarySet s (rackTargets s p.approach)) z = true) : checkPort s z p n = none := by
  rw [checkPort_insert h, if_neg fun hn => ho (portOutside_iff.mp hn), hz]
  rfl

end Port

/-! ### The head and the ports (steps 7 and 8 of R132) -/

theorem configuredPort?_some {s : State} {home : Option (Fin 8)} {k : Fin 8} (h : home = some k)
    (hc : (s.probes.ports.get k).configured = true) : configuredPort? s home = some (k, s.probes.ports.get k) := by
  subst h
  exact if_pos hc

theorem configuredPort?_none {s : State} {home : Option (Fin 8)}
    (h : ∀ k, ¬ (home = some k ∧ (s.probes.ports.get k).configured = true)) : configuredPort? s home = none := by
  cases home with
  | none => rfl
  | some k => exact if_neg fun hc => h k ⟨rfl, hc⟩

/-- The probe on the head is the one that the head reads, and port `d` is its configured home. -/
def dropsInto (s : State) (d : Fin 8) : Prop :=
  ∃ old, ((onHead? s).map (·.2) = some old ∧ old.id = s.probes.identity) ∧
    (old.home = some d ∧ (s.probes.ports.get d).configured = true)

section Drop

variable {s : State} {dropCheck pickCheck : Fin 8 × Port → Option (ReplyCode × Nat)} {target : Fin 8 × Port}

theorem checkDrop_bare (hid : s.probes.identity = 0) : checkDrop s dropCheck pickCheck target =
    match pickCheck target with
    | some r => .answer r.1 r.2
    | none => .accept none target.1 :=
  (if_pos hid).trans rfl

theorem checkDrop_homeless (hid : s.probes.identity ≠ 0) (h : ∀ d, ¬ dropsInto s d) :
    checkDrop s dropCheck pickCheck target = .answer .badValue 1 := by
  unfold checkDrop
  rw [if_neg hid]
  cases hon : onHead? s with
  | none => rfl
  | some kr =>
    by_cases hold : kr.2.id = s.probes.identity
    · have hport : configuredPort? s kr.2.home = none :=
        configuredPort?_none fun d hd => h d ⟨kr.2, ⟨by rw [hon]; rfl, hold⟩, hd⟩
      simp [hold, hport]
    · simp [hold]

theorem checkDrop_homed (hid : s.probes.identity ≠ 0) {d : Fin 8} (h : dropsInto s d) :
    checkDrop s dropCheck pickCheck target =
      if lockState s ≠ .locked ∨ present s d then .answer .busy 1
      else
        match dropCheck (d, s.probes.ports.get d), pickCheck target with
        | some r, _ => .answer r.1 r.2
        | none, some r => .answer r.1 r.2
        | none, none => .accept (some d) target.1 := by
  obtain ⟨old, ⟨hon, hold⟩, hhome, hconf⟩ := h
  obtain ⟨⟨k, r⟩, hkr, rfl⟩ := Option.map_eq_some_iff.mp hon
  unfold checkDrop
  rw [if_neg hid, hkr]
  dsimp only
  rw [if_neg (not_not.mpr hold), configuredPort?_some hhome hconf] <;> rfl

theorem checkDrop_busy (hid : s.probes.identity ≠ 0) {d : Fin 8} (h : dropsInto s d)
    (hl : ¬ (lockState s = .locked ∧ present s d = false)) :
    checkDrop s dropCheck pickCheck target = .answer .busy 1 :=
  (checkDrop_homed hid h).trans (if_pos (by rwa [not_and_or, Bool.not_eq_false] at hl))

theorem checkDrop_loose (hid : s.probes.identity ≠ 0) {d : Fin 8} (h : dropsInto s d)
    (hl : lockState s = .locked ∧ present s d = false) :
    checkDrop s dropCheck pickCheck target =
      match dropCheck (d, s.probes.ports.get d), pickCheck target with
      | some r, _ => .answer r.1 r.2
      | none, some r => .answer r.1 r.2
      | none, none => .accept (some d) target.1 :=
  (checkDrop_homed hid h).trans ((if_neg (by simp [hl.1, hl.2])).trans rfl)

end Drop

/-! ### The target (steps 1 to 6 of R132) -/

section Target

variable {s : State} {p : List Byte} (hform : p.length = 2 ∧ byteAt p 1 ≠ 0)
  (hfree : s.probes.change.active = false ∧ motionState s = .idle ∧ s.motion.queue = [])

theorem checkChange_malformed (h : ¬ (p.length = 2 ∧ byteAt p 1 ≠ 0)) : checkChange s p = .answer .badValue 0 :=
  if_pos (by rwa [not_and_or, not_not] at h)

include hform

theorem checkChange_busy
    (h : ¬ (s.probes.change.active = false ∧ motionState s = .idle ∧ s.motion.queue = [])) :
    checkChange s p = .answer .busy 0 := by
  rw [not_and_or, not_and_or, Bool.not_eq_false] at h
  exact (if_neg (by simp [hform.1, hform.2])).trans (if_pos h)

include hfree

theorem checkChange_known : checkChange s p =
    match recordOf? s (byteAt p 1) with
    | none => .answer .badValue 7
    | some target =>
      if target.location = .onHead then .answer .done 0
      else if target.location ≠ .inPort then .answer .badValue 7
      else
        match configuredPort? s target.home with
        | none => .answer .badValue 7
        | some port =>
          match s.station.rackZone with
          | none => .answer .badValue 0
          | some z =>
            if (approachAxes s).length < 3 ∨ s.station.probeCap = 0 then .answer .badValue 0
            else checkDrop s (fun q => checkPort s z q.2 1) (fun q => checkPort s z q.2 7) port :=
  (if_neg (by simp [hform.1, hform.2])).trans ((if_neg (by simp [hfree.1, hfree.2.1, hfree.2.2])).trans rfl)

theorem checkChange_unheld (h : recordOf? s (byteAt p 1) = none) : checkChange s p = .answer .badValue 7 := by
  rw [checkChange_known hform hfree, h]

theorem checkChange_carried {r : ProbeRecord} (h : recordOf? s (byteAt p 1) = some r) (hl : r.location = .onHead) :
    checkChange s p = .answer .done 0 := by
  rw [checkChange_known hform hfree, h]
  exact if_pos hl

theorem checkChange_absent {r : ProbeRecord} (h : recordOf? s (byteAt p 1) = some r) (hl : r.location ≠ .onHead)
    (hn : r.location ≠ .inPort ∨ ∀ q, ¬ (r.home = some q ∧ (s.probes.ports.get q).configured = true)) :
    checkChange s p = .answer .badValue 7 := by
  rw [checkChange_known hform hfree, h]
  refine (if_neg hl).trans ?_
  by_cases hin : r.location = .inPort
  · rw [if_neg (not_not.mpr hin), configuredPort?_none (hn.resolve_left (not_not.mpr hin))]
  · exact if_pos hin

section Ready

variable {r : ProbeRecord} {q : Fin 8} (hr : recordOf? s (byteAt p 1) = some r) (hin : r.location = .inPort)
  (hq : r.home = some q ∧ (s.probes.ports.get q).configured = true)

include hr hin hq

theorem checkChange_ready : checkChange s p =
    match s.station.rackZone with
    | none => .answer .badValue 0
    | some z =>
      if (approachAxes s).length < 3 ∨ s.station.probeCap = 0 then .answer .badValue 0
      else checkDrop s (fun q => checkPort s z q.2 1) (fun q => checkPort s z q.2 7) (q, s.probes.ports.get q) := by
  rw [checkChange_known hform hfree, hr]
  dsimp only
  rw [if_neg (by simp [hin]), if_neg (by simp [hin]), configuredPort?_some hq.1 hq.2]

theorem checkChange_unable
    (h : ¬ (s.station.rackZone ≠ none ∧ 3 ≤ (approachAxes s).length ∧ s.station.probeCap ≠ 0)) :
    checkChange s p = .answer .badValue 0 := by
  rw [checkChange_ready hform hfree hr hin hq]
  cases hz : s.station.rackZone with
  | none => rfl
  | some z =>
    refine if_pos ?_
    by_contra hn
    exact h ⟨by simp [hz], by omega, fun h0 => hn (.inr h0)⟩

theorem checkChange_able {z : Fin 16} (hz : s.station.rackZone = some z)
    (h : 3 ≤ (approachAxes s).length ∧ s.station.probeCap ≠ 0) : checkChange s p =
      checkDrop s (fun q => checkPort s z q.2 1) (fun q => checkPort s z q.2 7) (q, s.probes.ports.get q) := by
  rw [checkChange_ready hform hfree hr hin hq, hz]
  exact if_neg (by omega)

end Ready

end Target

end Sys2Proof.Machine

/-! PROBE CHANGE: the change that begins (R133). -/

namespace Sys2Proof.Machine

/-! ### What a frame heard leaves of the rack's data -/

section Heard

variable (f : RxFrame) (s : State)

@[simp] theorem heard_recordOf? (n : Nat) : recordOf? (heard f s) n = recordOf? s n := by rw [heard_eq]; rfl
@[simp] theorem heard_configuredPort? (home : Option (Fin 8)) :
    configuredPort? (heard f s) home = configuredPort? s home := by rw [heard_eq]; rfl
@[simp] theorem heard_approachAxes : approachAxes (heard f s) = approachAxes s := by rw [heard_eq]; rfl
@[simp] theorem heard_approachIx? (i : Fin 4) : approachIx? (heard f s) i = approachIx? s i := by rw [heard_eq]; rfl
@[simp] theorem heard_outsideLimits (v : Vector Int 3) : outsideLimits (heard f s) v = outsideLimits s v := by
  rw [heard_eq]; rfl
@[simp] theorem heard_insertTarget (p : Port) : insertTarget (heard f s) p = insertTarget s p := by rw [heard_eq]; rfl
@[simp] theorem heard_rackTargets (v : Vector Int 3) : rackTargets (heard f s) v = rackTargets s v := by
  rw [heard_eq]; rfl
@[simp] theorem heard_bedPosition (v : Vector Int 4) : bedPosition (heard f s) v = bedPosition s v := by
  rw [heard_eq]; rfl
@[simp] theorem heard_stationarySet (v : Vector Int 4) : stationarySet (heard f s) v = stationarySet s v := by
  simp [stationarySet, unreferenced]
@[simp] theorem heard_checkPort (z : Fin 16) (p : Port) (n : Nat) :
    checkPort (heard f s) z p n = checkPort s z p n := by simp [checkPort]

@[simp] theorem heard_checkDrop (d c : Fin 8 × Port → Option (ReplyCode × Nat)) (t : Fin 8 × Port) :
    checkDrop (heard f s) d c t = checkDrop s d c t := by
  simp [checkDrop]

@[simp] theorem heard_checkChange (p : List Byte) : checkChange (heard f s) p = checkChange s p := by
  simp [checkChange]

end Heard

theorem runProbeChange_answer {f : RxFrame} {s : State} {code : ReplyCode} {n : Nat}
    (h : checkChange s f.payload = .answer code n) : runProbeChange f s = ⟨code, n, s⟩ := by
  rw [runProbeChange, h]

theorem runProbeChange_accept {f : RxFrame} {s : State} {drop : Option (Fin 8)} {pick : Fin 8}
    (h : checkChange s f.payload = .accept drop pick) :
    runProbeChange f s = ⟨.accepted, 0, acceptChange (byteAt f.payload 1) drop pick s⟩ := by
  rw [runProbeChange, h]

/-! ### The first phase (R133, R135, R137) -/

/-- A rack segment issued into an empty queue is head at once. -/
theorem issueTravel_queue {s : State} {p : Fin 8} (hq : s.motion.queue = []) :
    (issueTravel (some p) s).motion.queue = [formedHead s
      (newSegment s .probeUnit .rackTravel 0 (rackTargets s (s.probes.ports.get p).approach) none (travelSpeed s))] ∧
    (issueTravel (some p) s).motion.counter = s.motion.counter + 1 := by
  have h : issueTravel (some p) s = enqueue (newSegment s .probeUnit .rackTravel 0
    (rackTargets s (s.probes.ports.get p).approach) none (travelSpeed s)) s := rfl
  rw [h, enqueue_empty hq]
  exact ⟨rfl, rfl⟩

theorem approachAxes_congr {s t : State} (ha : t.axes = s.axes) (hn : t.axisCount = s.axisCount) :
    approachAxes t = approachAxes s := by
  have hlive : t.live = s.live := funext fun i => by rw [State.live, State.live, hn]
  simp only [approachAxes, axesOfKind, State.liveAxes, State.axis, hlive, ha]

theorem rackTargets_congr {s t : State} (ha : t.axes = s.axes) (hn : t.axisCount = s.axisCount) (pt : Vector Int 3) :
    rackTargets t pt = rackTargets s pt := by
  simp only [rackTargets, approachIx?, approachAxes_congr ha hn, State.axis, ha]

theorem travelSpeed_congr {s t : State} (ha : t.axes = s.axes) (hn : t.axisCount = s.axisCount) :
    travelSpeed t = travelSpeed s := by
  simp only [travelSpeed, approachAxes_congr ha hn, State.axis, ha]

theorem rackTargets_get (s : State) (pt : Vector Int 3) (i : Fin 4) : (rackTargets s pt).get i =
    match approachIx? s i with
    | some k => pt.get k
    | none => (s.axis i).demand := by
  rw [rackTargets, tab4_get] <;> rfl

/-- The one segment with which a change begins (R133, R134). -/
structure FirstSegment (s : State) (port : Fin 8) (seg : Segment) : Prop where
  number : seg.number = s.motion.counter
  issuer : seg.issuer = .probeUnit
  kind : seg.kind = .rackTravel
  state : seg.state = .waiting
  searchEnd : seg.searchEnd = none
  speed : seg.speed = travelSpeed s
  targets : seg.targets = rackTargets s (s.probes.ports.get port).approach

theorem firstSegment_formed {s t : State} {p : Fin 8} (ha : t.axes = s.axes) (hn : t.axisCount = s.axisCount)
    (hc : t.motion.counter = s.motion.counter)
    (hp : (t.probes.ports.get p).approach = (s.probes.ports.get p).approach) : FirstSegment s p (formedHead t
    (newSegment t .probeUnit .rackTravel 0 (rackTargets t (t.probes.ports.get p).approach) none (travelSpeed t))) where
  number := hc
  issuer := rfl
  kind := rfl
  state := rfl
  searchEnd := rfl
  speed := travelSpeed_congr ha hn
  targets := (rackTargets_congr ha hn _).trans (by rw [hp])

/-- The change record of a change that begins (R133). -/
def begunChange (s : State) (target : Nat) (drop : Option (Fin 8)) (pick : Fin 8) (ph : Phase) : Change :=
  { Change.idle s.probes.change.last with
    active := true, target := target, oldId := s.probes.identity, drop := drop, pick := some pick, phase := some ph }

/-- The ports as a change begins: every lid CLOSED but those of its two ports (R133). -/
def begunPorts (s : State) (drop : Option (Fin 8)) (pick : Fin 8) : Vector Port 8 :=
  tab8 fun k => if drop == some k || pick == k then s.probes.ports.get k
    else { s.probes.ports.get k with lidOpen := false }

theorem begunPorts_get (s : State) (drop : Option (Fin 8)) (pick k : Fin 8) : (begunPorts s drop pick).get k =
    if k = pick ∨ drop = some k then s.probes.ports.get k else { s.probes.ports.get k with lidOpen := false } := by
  rw [begunPorts, tab8_get]
  congr 1
  rw [Bool.or_eq_true, beq_iff_eq, beq_iff_eq, or_comm, eq_comm (a := k)]

/-- No record is left ON HEAD (R133). -/
def offHead (r : ProbeRecord) : ProbeRecord := if r.location = .onHead then { r with location := .unknown } else r

theorem acceptChange_dropping {s : State} {target : Nat} {d pick : Fin 8} (hq : s.motion.queue = [])
    (hid : s.probes.identity ≠ 0) :
    (acceptChange target (some d) pick s).probes = { s.probes with
      change := begunChange s target (some d) pick .travelDrop, ports := begunPorts s (some d) pick } ∧
    (acceptChange target (some d) pick s).motion.counter = s.motion.counter + 1 ∧
    ∃ seg, (acceptChange target (some d) pick s).motion.queue = [seg] ∧ FirstSegment s d seg := by
  set c : Change := { Change.idle s.probes.change.last with
    active := true, target := target, oldId := s.probes.identity, drop := some d, pick := some pick }
  set s1 := enterPhase .travelDrop none (closeLidsBut (fun p => some d == some p || pick == p) (setChange c s)) with hs1
  have hacc : acceptChange target (some d) pick s = issueTravel (some d) s1 := if_pos hid
  obtain ⟨hqueue, hcounter⟩ := issueTravel_queue (s := s1) (p := d) hq
  rw [hacc, issueTravel_probes, hqueue, hcounter]
  have happ : (s1.probes.ports.get d).approach = (s.probes.ports.get d).approach := by
    have hget : s1.probes.ports.get d = s.probes.ports.get d := by
      simp [s1, setChange]
    rw [hget]
  exact ⟨rfl, rfl, _, rfl, firstSegment_formed (t := s1) rfl rfl rfl happ⟩

theorem acceptChange_bare {s : State} {target : Nat} {pick : Fin 8} (hq : s.motion.queue = [])
    (hid : s.probes.identity = 0) :
    (acceptChange target none pick s).probes = { s.probes with
      change := begunChange s target none pick .travelPick, ports := begunPorts s none pick, unlockOut := true
      table := tab16 fun k => offHead (s.probes.table.get k) } ∧
    (acceptChange target none pick s).motion.counter = s.motion.counter + 1 ∧
    ∃ seg, (acceptChange target none pick s).motion.queue = [seg] ∧ FirstSegment s pick seg := by
  set c : Change := { Change.idle s.probes.change.last with
    active := true, target := target, oldId := s.probes.identity, drop := none, pick := some pick }
  set s1 := enterPhase .travelPick none (setLock true (mapProbes offHead
    (closeLidsBut (fun p => none == some p || pick == p) (setChange c s)))) with hs1
  have hacc : acceptChange target none pick s = issueTravel (some pick) s1 := if_neg (not_not.mpr hid)
  obtain ⟨hqueue, hcounter⟩ := issueTravel_queue (s := s1) (p := pick) hq
  rw [hacc, issueTravel_probes, hqueue, hcounter]
  have happ : (s1.probes.ports.get pick).approach = (s.probes.ports.get pick).approach := by
    have hget : s1.probes.ports.get pick = s.probes.ports.get pick := by
      simp [s1, setChange, setLock]
    rw [hget]
  have haxes : s1.axes = s.axes := by simp [s1, setChange, setLock]
  have hcount : s1.axisCount = s.axisCount := by simp [s1, setChange, setLock]
  have hmotion : s1.motion = s.motion := by simp [s1, setChange, setLock]
  refine ⟨rfl, by rw [hmotion], _, rfl, firstSegment_formed haxes hcount (by rw [hmotion]) happ⟩

end Sys2Proof.Machine

/-! PROBE CHANGE settled. -/

namespace Sys2Proof.Machine

/-- A fitting drop port and an unfit pick port. -/
theorem checkDrop_pick_unfit {s : State} {dropCheck pickCheck : Fin 8 × Port → Option (ReplyCode × Nat)}
    {target : Fin 8 × Port} {d : Fin 8} {r : ReplyCode × Nat} (hid : s.probes.identity ≠ 0) (h : dropsInto s d)
    (hl : lockState s = .locked ∧ present s d = false) (hd : dropCheck (d, s.probes.ports.get d) = none)
    (hp : pickCheck target = some r) : checkDrop s dropCheck pickCheck target = .answer r.1 r.2 := by
  rw [checkDrop_loose hid h hl, hd, hp]

theorem checkDrop_drop_unfit {s : State} {dropCheck pickCheck : Fin 8 × Port → Option (ReplyCode × Nat)}
    {target : Fin 8 × Port} {d : Fin 8} {r : ReplyCode × Nat} (hid : s.probes.identity ≠ 0) (h : dropsInto s d)
    (hl : lockState s = .locked ∧ present s d = false) (hd : dropCheck (d, s.probes.ports.get d) = some r) :
    checkDrop s dropCheck pickCheck target = .answer r.1 r.2 := by
  rw [checkDrop_loose hid h hl, hd]

theorem checkDrop_accept_both {s : State} {dropCheck pickCheck : Fin 8 × Port → Option (ReplyCode × Nat)}
    {target : Fin 8 × Port} {d : Fin 8} (hid : s.probes.identity ≠ 0) (h : dropsInto s d)
    (hl : lockState s = .locked ∧ present s d = false) (hd : dropCheck (d, s.probes.ports.get d) = none)
    (hp : pickCheck target = none) : checkDrop s dropCheck pickCheck target = .accept (some d) target.1 := by
  rw [checkDrop_loose hid h hl, hd, hp]

theorem FirstSegment.of_heard {f : RxFrame} {s : State} {d : Fin 8} {seg : Segment}
    (h : FirstSegment (heard f s) d seg) :
    seg.number = s.motion.counter ∧ seg.issuer = .probeUnit ∧ seg.kind = .rackTravel ∧ seg.state = .waiting ∧
      seg.searchEnd = none ∧ seg.speed = ((approachAxes s).map fun i => (s.axis i).record.maxSpeed).foldl max 0 ∧
      ∀ i, seg.targets.get i = match approachIx? s i with
        | some j => (s.probes.ports.get d).approach.get j
        | none => (s.axis i).demand := by
  refine ⟨by rw [h.number, heard_motion], h.issuer, h.kind, h.state, h.searchEnd, ?_, fun i => ?_⟩
  · rw [h.speed, travelSpeed, heard_approachAxes]
    simp only [heard_axis]
  · rw [h.targets, heard_rackTargets, rackTargets_get, heard_probes] <;> rfl

/-- Settles O44: the checks in their order, then the change with its first rack segment. -/
theorem probeChangeIsCheckedAndBegins : Obligations.ProbeChangeIsCheckedAndBegins := by
  intro f s hc hm hs p h form free port homed carried insert goal outside apart unfit fit known aims ready able drops
    loose chosen
  have hanswer {code : ReplyCode} {n : Nat} (hr : checkChange s p = .answer code n) :
      exec (.probeChange f) s = .next (answered 12 f code n h) :=
    next_command (a := ⟨code, n, h⟩) hc (runAccess_heard hm hs)
      (runProbeChange_answer ((heard_checkChange f s p).trans hr))
  have hunfit {z : Fin 16} {k : Fin 8} {code : ReplyCode} (n : Nat) (hz : s.station.rackZone = some z)
      (hu : unfit k code) : checkPort s z (port k) n = some (code, n) := by
    simp only [unfit] at hu
    split at hu
    · rename_i hi
      rw [hu, checkPort_noInsert hi]
    · rename_i hi
      split at hu
      · rename_i ho
        rw [hu, checkPort_outside hi ho]
      · rename_i ho
        rw [hu.2, checkPort_apart hi ho (hu.1 z hz)]
  have hfit {z : Fin 16} {k : Fin 8} (n : Nat) (hz : s.station.rackZone = some z) (hk : fit k) :
      checkPort s z (port k) n = none := by
    refine checkPort_fit hk.1 hk.2.1 ?_
    by_contra hn
    refine hk.2.2 fun z' hz' => ?_
    cases hz.symm.trans hz'
    exact Bool.eq_false_iff.mpr hn
  refine ⟨fun hf => hanswer (checkChange_malformed hf), fun hf hn => hanswer (checkChange_busy hf hn),
    fun hk hr => hanswer (checkChange_unheld hk.1 hk.2 hr),
    fun r ha hl => hanswer (checkChange_carried ha.1.1 ha.1.2 ha.2 hl),
    fun r ha hl hn => hanswer (checkChange_absent ha.1.1 ha.1.2 ha.2 hl hn), fun q hready => ?_⟩
  obtain ⟨⟨hform, hfree⟩, r, hrec, hin, hhome⟩ := hready
  have hcheck {z : Fin 16} (ha : able) (hz : s.station.rackZone = some z) :=
    checkChange_able hform hfree hrec hin hhome hz ha.2
  have hzone (ha : able) : ∃ z, s.station.rackZone = some z := Option.ne_none_iff_exists'.mp ha.1
  refine ⟨fun ha => hanswer (checkChange_unable hform hfree hrec hin hhome ha), fun ha hid hd => ?_,
    fun d ha hid hd hl => ?_, fun d code ha hid hd hl hu => ?_, fun drop code ha hch hu => ?_, fun drop ha hch hq => ?_⟩
  · obtain ⟨z, hz⟩ := hzone ha
    exact hanswer ((hcheck ha hz).trans (checkDrop_homeless hid hd))
  · obtain ⟨z, hz⟩ := hzone ha
    exact hanswer ((hcheck ha hz).trans (checkDrop_busy hid hd hl))
  · obtain ⟨z, hz⟩ := hzone ha
    exact hanswer ((hcheck ha hz).trans (checkDrop_drop_unfit (r := (code, 1)) hid hd hl (hunfit 1 hz hu)))
  · obtain ⟨z, hz⟩ := hzone ha
    cases drop with
    | none =>
      refine hanswer ((hcheck ha hz).trans ((checkDrop_bare hch).trans ?_))
      rw [hunfit 7 hz hu]
    | some d =>
      obtain ⟨hid, hd, hl, hdf⟩ := hch
      exact hanswer ((hcheck ha hz).trans
        (checkDrop_pick_unfit (r := (code, 7)) hid hd hl (hfit 1 hz hdf) (hunfit 7 hz hu)))
  · obtain ⟨z, hz⟩ := hzone ha
    have haccept (hr : checkChange s p = .accept drop q) : exec (.probeChange f) s =
        .next (answered 12 f .accepted 0 (acceptChange (byteAt p 1) drop q h)) :=
      next_command (a := ⟨_, _, _⟩) hc (runAccess_heard hm hs)
        (runProbeChange_accept ((heard_checkChange f s p).trans hr))
    have hempty : h.motion.queue = [] := (congrArg Sequencer.queue (heard_motion f s)).trans hfree.2.2
    cases drop with
    | none =>
      have hid : s.probes.identity = 0 := hch
      have hcheck' : checkChange s p = .accept none q := by
        rw [hcheck ha hz, checkDrop_bare hid, hfit 7 hz hq]
      obtain ⟨hprobes, hcounter, seg, hqueue, hseg⟩ :=
        acceptChange_bare (target := byteAt p 1) (pick := q) hempty (by rwa [heard_probes])
      refine ⟨_, haccept hcheck', motionOnly_acceptChange _ _ _ _, ?_, ?_, fun k => ?_, fun k => ?_, ?_, seg, hqueue,
        ?_⟩
      · rw [hprobes, if_pos hid, begunChange, heard_probes]
      · rw [hprobes, hid, beq_self_eq_true, Bool.or_true]
      · rw [hprobes, begunPorts_get, heard_probes]
      · rw [hprobes]
        simp only [tab16_get, hid, true_and, heard_probes, h]
        rfl
      · rw [hcounter, heard_motion]
      · exact hseg.of_heard
    | some d =>
      obtain ⟨hid, hd, hl, hdf⟩ := hch
      have hcheck' : checkChange s p = .accept (some d) q :=
        (hcheck ha hz).trans (checkDrop_accept_both hid hd hl (hfit 1 hz hdf) (hfit 7 hz hq))
      obtain ⟨hprobes, hcounter, seg, hqueue, hseg⟩ :=
        acceptChange_dropping (target := byteAt p 1) (d := d) (pick := q) hempty (by rwa [heard_probes])
      refine ⟨_, haccept hcheck', motionOnly_acceptChange _ _ _ _, ?_, ?_, fun k => ?_, fun k => ?_, ?_, seg, hqueue,
        ?_⟩
      · rw [hprobes, if_neg hid, begunChange, heard_probes]
      · rw [hprobes, beq_false_of_ne hid, Bool.or_false, heard_probes]
      · rw [hprobes, begunPorts_get, heard_probes]
      · rw [hprobes, heard_probes, if_neg fun hn => hid hn.1]
      · rw [hcounter, heard_motion]
      · exact hseg.of_heard

end Sys2Proof.Machine

/-! What the motion sequencer and the probe unit leave of the transmit slots: everything but CLAIM and RELEASE. -/

namespace Sys2Proof.Machine

/-- From `s` to `t` no slot but CLAIM and RELEASE has changed. -/
def OwnSlots (s t : State) : Prop := t.slots = { s.slots with claim := t.slots.claim, release := t.slots.release }

theorem OwnSlots.of_eq {s t : State} (h : t.slots = s.slots) : OwnSlots s t := by rw [OwnSlots, h]

theorem OwnSlots.refl (s : State) : OwnSlots s s := .of_eq rfl

theorem OwnSlots.trans {s t u : State} (h : OwnSlots s t) (k : OwnSlots t u) : OwnSlots s u := by
  rw [OwnSlots] at h k ⊢
  rw [k, h]

theorem OwnSlots.companions {s t : State} (h : OwnSlots s t) : t.slots.companions = s.slots.companions := by
  rw [OwnSlots] at h
  rw [h]

/-! ### The zone unit -/

theorem ownSlots_withdrawClaim (s : State) : OwnSlots s (withdrawClaim s) := by
  unfold withdrawClaim
  split
  · split
    · exact .refl s
    · rw [OwnSlots, unclaimHead_slots]
      rfl
  · exact .refl s

theorem ownSlots_headEndsClaim (s : State) : OwnSlots s (headEndsClaim s) := by
  rcases headEndsClaim_cases s with h | h | ⟨x, -, -, h⟩
  · rw [h]
    exact .refl s
  · rw [h]
    exact ownSlots_withdrawClaim s
  · rw [h]
    exact .refl s

theorem ownSlots_autoRelease (s : State) : OwnSlots s (autoRelease s) := by
  rw [OwnSlots, autoRelease_eq]

/-! ### The queue's head and the probe change -/

theorem ownSlots_removeHead (o : SegOutcome) (s : State) : OwnSlots s (removeHead o s) := by
  unfold removeHead
  split
  · exact .refl s
  · refine OwnSlots.trans ?_ (.of_eq (formHead_slots _))
    refine OwnSlots.trans ?_ (.of_eq (setQueue_slots _ _))
    refine OwnSlots.trans ?_ (ownSlots_headEndsClaim _)
    split <;> exact .refl _

@[simp] theorem takeDeferredExpiry_slots (s : State) : (takeDeferredExpiry s).slots = s.slots := by
  unfold takeDeferredExpiry
  split <;> rfl

@[simp] theorem settleLocations_slots (p : Bool) (s : State) : (settleLocations p s).slots = s.slots := by
  unfold settleLocations
  dsimp only
  split
  · exact setLocation_slots _ _ s
  · split
    · rfl
    · exact setLocation_slots _ _ s
  · exact setLocation_slots _ _ s
  · exact setLocation_slots _ _ s
  · rfl

@[simp] theorem failTaken_slots (c : ChangeCause) (n : Nat) (s : State) : (failTaken c n s).slots = s.slots := by
  unfold failTaken
  dsimp only
  split <;> simp [closeLids]

@[simp] theorem abortTaken_slots (c : ChangeCause) (p : Bool) (s : State) : (abortTaken c p s).slots = s.slots := by
  simp [abortTaken, closeLids]

theorem ownSlots_finishChange (s : State) : OwnSlots s (finishChange s) := by
  unfold finishChange
  dsimp only
  split
  · split
    · exact .refl s
    · exact ownSlots_autoRelease _
  · exact .refl s

theorem ownSlots_failEnded (c : ChangeCause) (n : Nat) (s : State) : OwnSlots s (failEnded c n s) :=
  (OwnSlots.of_eq (failTaken_slots c n s)).trans (ownSlots_finishChange _)

/-! ### The phases of a change -/

@[simp] theorem issueTravel_slots (p : Option (Fin 8)) (s : State) : (issueTravel p s).slots = s.slots := by
  cases p <;> simp [issueTravel, issueRack]

@[simp] theorem issueInsert_slots (p : Option (Fin 8)) (s : State) : (issueInsert p s).slots = s.slots := by
  cases p <;> simp [issueInsert, issueRack]

@[simp] theorem issueBack_slots (p : Option (Fin 8)) (s : State) : (issueBack p s).slots = s.slots := by
  cases p <;> simp [issueBack, issueRack]

@[simp] theorem commandLid_slots (p : Option (Fin 8)) (o : Bool) (s : State) : (commandLid p o s).slots = s.slots := by
  cases p <;> rfl

theorem ownSlots_beginClosePick (s : State) : OwnSlots s (beginClosePick s) := by
  have h : (enterPhase .closePick (some Config.lidTicks) (commandLid s.probes.change.pick false s)).slots =
      s.slots := by simp
  unfold beginClosePick
  dsimp only
  split
  · exact (OwnSlots.of_eq h).trans (ownSlots_finishChange _)
  · exact .of_eq h

theorem ownSlots_lockEnded (s : State) : OwnSlots s (lockEnded s) := by
  unfold lockEnded stretchEnded
  dsimp only
  split
  · exact .of_eq (by simp [beginIdentify])
  · exact (OwnSlots.of_eq (by simp)).trans (ownSlots_finishChange _)

theorem ownSlots_beginLock (s : State) : OwnSlots s (beginLock s) := by
  unfold beginLock
  dsimp only
  split
  · exact (OwnSlots.of_eq (by simp)).trans (ownSlots_lockEnded _)
  · exact .of_eq (by simp)

theorem beginOpenPick_slots (s : State) : (beginOpenPick s).slots = s.slots := by
  unfold beginOpenPick
  dsimp only
  split <;> simp [beginEngage]

theorem beginUnlock_slots (s : State) : (beginUnlock s).slots = s.slots := by
  unfold beginUnlock
  dsimp only
  split <;> simp [beginDetach]

theorem beginOpenDrop_slots (s : State) : (beginOpenDrop s).slots = s.slots := by
  unfold beginOpenDrop
  dsimp only
  split <;> simp [beginInsert]

theorem ownSlots_rackArrived (s : State) : OwnSlots s (rackArrived s) := by
  unfold rackArrived
  extract_lets s1
  refine OwnSlots.trans (t := s1) (.refl s) ?_
  split
  · exact .of_eq (beginOpenDrop_slots _)
  · exact .of_eq (beginUnlock_slots _)
  · exact .of_eq (beginOpenPick_slots _)
  · exact ownSlots_beginLock _
  · split
    · split
      · exact ownSlots_failEnded _ _ _
      · exact ownSlots_beginClosePick _
    · exact .refl _
  · exact .refl _

theorem ownSlots_afterRackEnd (o : SegOutcome) (s : State) : OwnSlots s (afterRackEnd o s) := by
  unfold afterRackEnd
  split
  · exact ownSlots_finishChange s
  · split
    · exact ownSlots_rackArrived s
    · exact ownSlots_failEnded _ _ s
    · exact ownSlots_failEnded _ _ s
    · exact ownSlots_failEnded _ _ s
    · exact ownSlots_failEnded _ _ s
    · exact ownSlots_failEnded _ _ s
    all_goals exact .refl s

/-! ### Ends and stops -/

theorem ownSlots_endHead (o : SegOutcome) (s : State) : OwnSlots s (endHead o s) := by
  unfold endHead
  split
  · exact .refl s
  · dsimp only
    refine OwnSlots.trans ?_ (ownSlots_autoRelease _)
    split
    · exact (ownSlots_removeHead o s).trans (ownSlots_afterRackEnd o _)
    · exact ownSlots_removeHead o s

theorem ownSlots_endAtOnce (o : SegOutcome) (s : State) : OwnSlots s (endAtOnce o s) :=
  (OwnSlots.of_eq (flushBehind_slots s)).trans (ownSlots_endHead o _)

@[simp] theorem changePowerLost_slots (c : ChangeCause) (s : State) : (changePowerLost c s).slots = s.slots := by
  unfold changePowerLost
  dsimp only
  split
  · split <;> simp
  · rfl

theorem ownSlots_powerCut (o : SegOutcome) (c : ChangeCause) (s : State) : OwnSlots s (powerCut o c s) :=
  ((OwnSlots.of_eq (by simp)).trans (ownSlots_endAtOnce _ _)).trans (ownSlots_finishChange _)

theorem ownSlots_motionFault (i : Fin 4) (c : FaultCause) (s : State) : OwnSlots s (motionFault i c s) := by
  rw [motionFault_eq]
  exact ownSlots_powerCut _ _ _

theorem ownSlots_raiseFaults (fs : List (Fin 4 × FaultCause)) (s : State) : OwnSlots s (raiseFaults fs s) := by
  induction fs generalizing s with
  | nil => exact .refl s
  | cons f fs ih => exact (ownSlots_motionFault f.1 f.2 s).trans (ih _)

/-! ### The servo sample -/

@[simp] theorem takeDemands_slots (s : State) : (takeDemands s).slots = s.slots := by
  unfold takeDemands
  split
  · split
    · rfl
    · dsimp only
      split <;> rfl
  · rfl

@[simp] theorem takeDemands_capture (s : State) : (takeDemands s).capture = s.capture := by
  unfold takeDemands
  split
  · split
    · rfl
    · dsimp only
      split <;> rfl
  · rfl

theorem ownSlots_endOfPeriod (s : State) : OwnSlots s (endOfPeriod s) := by
  unfold endOfPeriod
  split
  · exact .refl s
  · split
    · split
      · exact ownSlots_endHead _ s
      · exact .refl s
    · split
      · split
        · exact ownSlots_endAtOnce _ s
        · split
          · exact ownSlots_endHead _ s
          · exact .refl s
      · exact .refl s
    · exact .refl s

theorem motionOnly_endOfPeriod (s : State) : MotionOnly s (endOfPeriod s) := by
  unfold endOfPeriod
  split
  · exact .refl s
  · split
    · split
      · exact motionOnly_endHead _ s
      · exact .refl s
    · split
      · split
        · exact motionOnly_endAtOnce _ s
        · split
          · exact motionOnly_endHead _ s
          · exact .refl s
      · exact .refl s
    · exact .refl s

theorem motionOnly_powerCut (o : SegOutcome) (c : ChangeCause) (s : State) :
    MotionOnly (dropDrives s) (powerCut o c s) :=
  ((motionOnly_changePowerLost c _).trans (motionOnly_endAtOnce o _)).trans (motionOnly_finishChange _)

theorem motionFault_capture (i : Fin 4) (c : FaultCause) (s : State) : (motionFault i c s).capture = s.capture := by
  rw [motionFault_eq]
  exact (motionOnly_powerCut _ _ _).capture

theorem raiseFaults_capture (fs : List (Fin 4 × FaultCause)) (s : State) : (raiseFaults fs s).capture = s.capture := by
  induction fs generalizing s with
  | nil => rfl
  | cons f fs ih => exact (ih _).trans (motionFault_capture f.1 f.2 s)

/-- What the servo sample makes of the companion answers is what settling the pending requests makes of them. -/
theorem servo_companions (s : State) :
    (servo s).slots.companions = (settleAll (sampleRings s)).slots.companions := by
  unfold servo
  dsimp only
  rw [(ownSlots_endOfPeriod _).companions, sendDrives, State.mapAxes_slots, (ownSlots_raiseFaults _ _).companions,
    takeDemands_slots]

theorem servo_requests (s : State) :
    (servo s).capture.requests = (settleAll (sampleRings s)).capture.requests := by
  unfold servo
  dsimp only
  rw [(motionOnly_endOfPeriod _).capture, sendDrives, State.mapAxes_capture, raiseFaults_capture, takeDemands_capture]

end Sys2Proof.Machine

/-! Answering as companion: the settling of a request, its slot, and the pending requests at a servo sample. -/

namespace Sys2Proof.Machine

/-! ### Settling a request (R120, R121) -/

theorem settle_unserved {s : State} (t : Tick)
    (h : ∀ i, s.station.serveAxis = some i → s.live i = false ∨ (s.axis i).referenced = false) :
    settle s t = .answer .notReferenced 0 := by
  unfold settle
  split
  · rename_i i hi
    refine if_neg ?_
    rw [Bool.and_eq_true]
    rintro ⟨hl, hr⟩
    rcases h i hi with h | h
    · exact Bool.false_ne_true (h.symm.trans hl)
    · exact Bool.false_ne_true (h.symm.trans hr)
  · rfl

section Served

variable {s : State} {i : Fin 4} (t : Tick) (hi : s.station.serveAxis = some i) (hl : s.live i = true)
  (hr : (s.axis i).referenced = true)

include hi hl hr

theorem settle_served : settle s t = settleRing s i t := by
  simp only [settle, hi, hl, hr, Bool.and_self, if_true]

theorem settle_empty (h : (s.axis i).ring = []) : settle s t = .answer .beyondHistory 0 := by
  rw [settle_served t hi hl hr]
  simp [settleRing, h]

theorem settle_entries {o n : Sample} (ho : (s.axis i).ring.head? = some o) (hn : (s.axis i).ring.getLast? = some n) :
    settle s t =
      if Tick.earlier t o.tick then .answer .beyondHistory 0
      else if Tick.later t n.tick then .wait
      else .answer .ok (forward s i (interpolate t (s.axis i).ring) false).value := by
  rw [settle_served t hi hl hr]
  simp only [settleRing, ho, hn]

theorem settle_before {o : Sample} (ho : (s.axis i).ring.head? = some o) (he : Tick.earlier t o.tick = true) :
    settle s t = .answer .beyondHistory 0 := by
  cases hring : (s.axis i).ring with
  | nil => exact settle_empty t hi hl hr hring
  | cons a l =>
    obtain ⟨n, hn⟩ : ∃ n, (s.axis i).ring.getLast? = some n := by
      rw [hring]
      exact ⟨_, List.getLast?_eq_some_getLast (List.cons_ne_nil a l)⟩
    rw [settle_entries t hi hl hr ho hn, if_pos he]

end Served

theorem interpolate_cons {t : Tick} {a b : Sample} {rest : List Sample} (h : Tick.earlier t b.tick = false) :
    interpolate t (a :: b :: rest) = interpolate t (b :: rest) := by
  simp [interpolate, h]

/-- The raw value at an instant between two entries (R121). -/
theorem interpolate_between {t : Tick} {pre post : List Sample} {a b : Sample}
    (h : ∀ e ∈ pre ++ [a], Tick.earlier t e.tick = false) (hb : Tick.earlier t b.tick = true) :
    interpolate t (pre ++ a :: b :: post) =
      a.count + roundDiv ((b.count - a.count) * (t - a.tick).toNat) (b.tick - a.tick).toNat := by
  induction pre with
  | nil => simp [interpolate, hb]
  | cons x pre ih =>
    have htail : ∀ e ∈ pre ++ [a], Tick.earlier t e.tick = false := fun e he => h e (by simp_all)
    rw [← ih htail]
    cases pre with
    | nil => exact interpolate_cons (h a (by simp))
    | cons y pre => exact interpolate_cons (h y (by simp))

/-- The raw value at or after the newest entry (R121). -/
theorem interpolate_newest {t : Tick} {pre : List Sample} {a : Sample}
    (h : ∀ e ∈ pre ++ [a], Tick.earlier t e.tick = false) : interpolate t (pre ++ [a]) = a.count := by
  induction pre with
  | nil => rfl
  | cons x pre ih =>
    have htail : ∀ e ∈ pre ++ [a], Tick.earlier t e.tick = false := fun e he => h e (by simp_all)
    rw [← ih htail]
    cases pre with
    | nil => exact interpolate_cons (h a (by simp))
    | cons y pre => exact interpolate_cons (h y (by simp))

/-! ### The COMPANION slot (R122) -/

/-- The slot `i` holds an answer to the toucher `dest` for its point `n`. -/
def answersTo (s : State) (dest : Nat) (n : BitVec 16) (i : Fin 2) : Bool :=
  match (s.slots.companions.get i).frame with
  | some x => x.dest == dest && x.point == n
  | none => false

theorem answersTo_iff {s : State} {dest : Nat} {n : BitVec 16} {i : Fin 2} : answersTo s dest n i = true ↔
    ∃ x, (s.slots.companions.get i).frame = some x ∧ x.dest = dest ∧ x.point = n := by
  unfold answersTo
  cases (s.slots.companions.get i).frame <;> simp

theorem companionIds_find {p : Fin 2 → Bool} {i : Fin 2} (hi : p i = true) (hb : ∀ j, j < i → p j = false) :
    companionIds.find? p = some i := by
  rw [companionIds]
  fin_cases i
  · exact List.find?_cons_of_pos hi
  · rw [List.find?_cons_of_neg (by simp [hb 0 (by decide)])]
    exact List.find?_cons_of_pos hi

theorem companionIds_find_none {p : Fin 2 → Bool} (h : ∀ i, p i = false) : companionIds.find? p = none := by
  simp [companionIds, h]

theorem companionSlot_eq (s : State) (dest : Nat) (n : BitVec 16) : companionSlot s dest n =
    match companionIds.find? (answersTo s dest n) with
    | some i => some i
    | none => companionIds.find? fun i => (s.slots.companions.get i).frame.isNone := rfl

theorem companionSlot_congr {s t : State} (h : t.slots.companions = s.slots.companions) (dest : Nat) (n : BitVec 16) :
    companionSlot t dest n = companionSlot s dest n := by
  simp only [companionSlot, h]

/-! ### A TOUCH heard (R119, R120, R122) -/

theorem waitRequest_same {q : Request} {s : State} (h : s.capture.requests.any q.same = true) :
    waitRequest q s = mapCapture (fun c => { c with
      requests := s.capture.requests.map fun x => if q.same x then q else x }) s := if_pos h

theorem waitRequest_joins {q : Request} {s : State} (h : s.capture.requests.any q.same = false)
    (hl : s.capture.requests.length < 2) :
    waitRequest q s = mapCapture (fun c => { c with requests := s.capture.requests ++ [q] }) s :=
  (if_neg (by simp [h])).trans (if_pos hl)

theorem waitRequest_dropped {q : Request} {s : State} (h : s.capture.requests.any q.same = false)
    (hl : 2 ≤ s.capture.requests.length) : waitRequest q s = s :=
  (if_neg (by simp [h])).trans (if_neg (by omega))

theorem takeRequest_wait {q : Request} {s : State} (h : settle s q.instant = .wait) :
    takeRequest q s = waitRequest q s := by
  simp only [takeRequest, h]

theorem takeRequest_answer {q : Request} {s : State} {st : CompanionStatus} {v : Int}
    (h : settle s q.instant = .answer st v) : takeRequest q s = answerRequest q st v
      (mapCapture (fun c => { c with requests := c.requests.filter fun x => !q.same x }) s) := by
  simp only [takeRequest, h]

theorem placeAnswer_none {x : CompanionFrame} {s : State} (h : companionSlot s x.dest x.point = none) :
    placeAnswer x s = s := by
  simp only [placeAnswer, h]

theorem placeAnswer_some {x : CompanionFrame} {s : State} {i : Fin 2} (h : companionSlot s x.dest x.point = some i) :
    placeAnswer x s = { s with
      slots := { s.slots with
        companions := s.slots.companions.set i.val
          ((s.slots.companions.get i).put (inFlight s (.companion i)) takeLater x) } } := by
  simp only [placeAnswer, h]

/-- A COMPANION slot that takes an answer: an empty one holds it, a waiting frame is replaced, and a frame in flight
stays with the answer beside it (R122, R175). -/
theorem put_takeLater (flying : Bool) (x : CompanionFrame) (sl : Slot CompanionFrame) : sl.put flying takeLater x =
    if sl.frame.isNone then { frame := some x, amend := none }
    else if flying then { sl with amend := some x } else { sl with frame := some x } := by
  obtain ⟨frame, amend⟩ := sl
  cases frame with
  | none => rfl
  | some y =>
    cases flying with
    | false => rfl
    | true => cases amend <;> rfl

end Sys2Proof.Machine

/-! The pending requests at a servo sample, and the answers to a TOUCH. -/

namespace Sys2Proof.Machine

/-! ### The pending requests at a servo sample (R120) -/

/-- From `r` to `u` nothing but the capture unit and the slots has changed: requests are settled alike. -/
def AnswersOnly (r u : State) : Prop := u = { r with capture := u.capture, slots := u.slots }

theorem AnswersOnly.settle {r u : State} (h : AnswersOnly r u) (t : Tick) : settle u t = settle r t := by
  rw [AnswersOnly] at h
  rw [h]
  rfl

theorem AnswersOnly.inFlight {r u : State} (h : AnswersOnly r u) (id : SlotId) : inFlight u id = inFlight r id := by
  rw [AnswersOnly] at h
  rw [h]
  rfl

theorem answersOnly_placeAnswer {r u : State} (x : CompanionFrame) (h : AnswersOnly r u) :
    AnswersOnly r (placeAnswer x u) := by
  rw [AnswersOnly] at h ⊢
  unfold placeAnswer
  split
  · rw [h]
  · exact h

theorem settlePending_wait {q : Request} {s : State} (h : settle s q.instant = .wait) : settlePending q s = s := by
  simp only [settlePending, h]

theorem settlePending_answer {q : Request} {s : State} {st : CompanionStatus} {v : Int}
    (h : settle s q.instant = .answer st v) : settlePending q s =
      placeAnswer { dest := q.toucher, point := q.point, value := v, status := st }
        (mapCapture (fun c => { c with requests := c.requests.filter fun x => x != q }) s) := by
  simp only [settlePending, h, answerRequest]

theorem answersOnly_settlePending {r u : State} (q : Request) (h : AnswersOnly r u) :
    AnswersOnly r (settlePending q u) := by
  cases hs : settle u q.instant with
  | wait => rwa [settlePending_wait hs]
  | answer st v =>
    rw [settlePending_answer hs]
    refine answersOnly_placeAnswer _ ?_
    rw [AnswersOnly] at h ⊢
    rw [h]
    rfl

/-- A request stays pending through the settling of those of the list unless it is one that is answered. -/
theorem foldl_settlePending_requests {r : State} (l : List Request) {u : State} (h : AnswersOnly r u) :
    (l.foldl (fun s q => settlePending q s) u).capture.requests =
      u.capture.requests.filter fun x => decide (∀ q ∈ l, settle r q.instant ≠ .wait → x ≠ q) := by
  induction l generalizing u with
  | nil => simp
  | cons q l ih =>
    rw [List.foldl_cons, ih (answersOnly_settlePending q h)]
    cases hs : settle u q.instant with
    | wait =>
      rw [settlePending_wait hs]
      rw [h.settle] at hs
      simp [hs]
    | answer st v =>
      rw [settlePending_answer hs, placeAnswer_capture]
      rw [h.settle] at hs
      simp only [mapCapture_capture, List.filter_filter, List.forall_mem_cons, hs]
      refine List.filter_congr fun x _ => ?_
      by_cases hx : x = q <;> simp [hx]

theorem settleAll_requests (r : State) :
    (settleAll r).capture.requests = r.capture.requests.filter fun q => decide (settle r q.instant = .wait) := by
  rw [settleAll, foldl_settlePending_requests _ (u := r) rfl]
  refine List.filter_congr fun x hx => ?_
  rw [decide_eq_decide]
  constructor
  · intro h
    by_contra hne
    exact h x hx hne rfl
  · rintro hw q - hq rfl
    exact hq hw

/-- A placing of answers that does to the COMPANION slots what settling does to them, request by request, does it to
them for all. -/
theorem foldl_companions {r : State} {place : State → Request → State}
    (hp : ∀ u w q, AnswersOnly r u → w.slots.companions = u.slots.companions →
      (place w q).slots.companions = (settlePending q u).slots.companions)
    (l : List Request) {u w : State} (h : AnswersOnly r u) (hw : w.slots.companions = u.slots.companions) :
    (l.foldl place w).slots.companions = (l.foldl (fun s q => settlePending q s) u).slots.companions := by
  induction l generalizing u w with
  | nil => exact hw
  | cons q l ih => exact ih (answersOnly_settlePending q h) (hp u w q h hw)

@[simp] theorem advance_inFlight (t : Tick) (s : State) (id : SlotId) : inFlight (advance t s) id = inFlight s id := by
  simp [inFlight]

theorem sampleRings_eq (t : Tick) (s : State) : sampleRings (advance t s) = { advance t s with
    axes := tab4 fun i => if s.live i = true then appendSample t (s.axis i) else s.axis i } := by
  rw [sampleRings, advance_tick]
  rfl

/-- Settles O40: the settling of a request, the slot of its answer, and the pending requests at every servo sample. -/
theorem touchHeardIsAnsweredByTheRing : Obligations.TouchHeardIsAnsweredByTheRing := by
  refine ⟨⟨fun s t => ⟨settle_unserved t, fun i hi hl hr => ⟨settle_empty t hi hl hr,
    fun o ho => settle_before t hi hl hr ho, fun o n ho hn he hlate => ?_⟩⟩, ?_⟩, ?_, ?_,
    ⟨fun t pre post a b => interpolate_between, fun t pre a => interpolate_newest,
      fun s i t o n hi hl hr ho hn he hlate => ⟨?_, forward_natAbs s i _ false⟩⟩⟩
  · rw [settle_entries t hi hl hr ho hn, if_neg (by simp [he]), if_pos hlate]
  · intro f s hh h served q same
    have hserved {u : State} (hs : served) (hu : takeRequest q h = u) :
        exec (.touchReceived f) s = .next (settled u) := by
      obtain ⟨hlen, hj, hset⟩ := hs
      refine next_heard hh ((sized_of hlen _).trans ((if_pos ?_).trans hu))
      rw [Bool.and_eq_true, heard_station]
      exact ⟨hj, hset⟩
    have hreq : h.capture.requests = s.capture.requests := congrArg CaptureUnit.requests (heard_capture f s)
    have hsame : q.same = same := funext fun x => by
      rw [Request.same, BEq.comm (a := q.toucher), BEq.comm (a := q.point)]
    refine ⟨fun hno => ?_, fun hs hw hany hl => ?_, fun hs hw hany => ?_, fun hs hw hany hl => ?_,
      fun hs st v i ha hslot => ?_, fun hs st v ha hslot => ?_⟩
    · by_cases hlen : f.payload.length = 6
      · refine next_heard hh ((sized_of hlen _).trans (if_neg ?_))
        rw [Bool.and_eq_true, heard_station]
        exact fun hy => hno ⟨hlen, hy.1, hy.2⟩
      · exact next_heard hh (sized_other hlen _)
    · refine hserved hs ((takeRequest_wait hw).trans
        ((waitRequest_joins (by rwa [hsame, hreq]) (by rwa [hreq])).trans ?_))
      rw [mapCapture, hreq, heard_capture]
    · refine hserved hs ((takeRequest_wait hw).trans ((waitRequest_same (by rwa [hsame, hreq])).trans ?_))
      rw [mapCapture, hreq, hsame, heard_capture]
    · exact hserved hs ((takeRequest_wait hw).trans (waitRequest_dropped (by rwa [hsame, hreq]) (by rwa [hreq])))
    · intro x slot
      refine hserved hs ((takeRequest_answer ha).trans ((placeAnswer_some hslot).trans ?_))
      have hfree : inFlight h (.companion i) = false := not_inFlight ((heard_line_attempt f s).trans hh.noAttempt)
      have hput : (h.slots.companions.get i).put (inFlight h (.companion i)) takeLater x = slot := by
        rw [put_takeLater, hfree, heard_slots_companions] <;> rfl
      rw [← hsame, ← hput, ← heard_capture f s, ← heard_slots_companions f s]
      rfl
    · refine hserved hs ((takeRequest_answer ha).trans ((placeAnswer_none hslot).trans ?_))
      rw [mapCapture, hsame, heard_capture]
  · intro s dest n holds
    have hholds (i : Fin 2) : ¬ holds i ↔ answersTo s dest n i = false := by
      rw [← Bool.not_eq_true, answersTo_iff]
    refine ⟨fun i hi hb => ?_, fun hno => ⟨fun i hi hb => ?_, fun hfull => ?_⟩⟩
    · rw [companionSlot_eq, companionIds_find (answersTo_iff.mpr hi) fun j hj => (hholds j).mp (hb j hj)]
    · rw [companionSlot_eq, companionIds_find_none fun j => (hholds j).mp (hno j)]
      exact companionIds_find (by simp [hi]) fun j hj => by simpa [Option.isSome_iff_ne_none] using hb j hj
    · rw [companionSlot_eq, companionIds_find_none fun j => (hholds j).mp (hno j)]
      exact companionIds_find_none fun j => by simpa [Option.isSome_iff_ne_none] using hfull j
  · intro t s hs entries ring r place
    have hr : sampleRings (advance t s) = r := sampleRings_eq t s
    refine ⟨_, next_timed hs rfl, ?_, ?_⟩
    · rw [finish_requests, servo_requests, hr, settleAll_requests]
      rfl
    · rw [finish_eq, servo_companions, hr]
      refine (foldl_companions (r := r) (place := place) (fun u w q hu hw => ?_) _ (u := r) rfl rfl).symm
      cases ha : settle r q.instant with
      | wait =>
        rw [settlePending_wait (hu.settle _ ▸ ha), ← hw]
        simp only [place, ha]
      | answer st v =>
        set x : CompanionFrame := { dest := q.toucher, point := q.point, value := v, status := st }
        set u' := mapCapture (fun c => { c with requests := c.requests.filter fun x => x != q }) u with hu'
        rw [settlePending_answer (hu.settle _ ▸ ha)]
        have hfly (i : Fin 2) : inFlight u' (.companion i) = inFlight s (.companion i) :=
          (show inFlight u' _ = inFlight u _ from rfl).trans ((hu.inFlight _).trans (advance_inFlight t s _))
        have hslot : companionSlot u' x.dest x.point = companionSlot w q.toucher q.point :=
          (companionSlot_congr hw q.toucher q.point).symm
        simp only [place, ha]
        cases hi : companionSlot w q.toucher q.point with
        | none =>
          rw [placeAnswer_none (hslot.trans hi)]
          exact hw
        | some i =>
          rw [placeAnswer_some (hslot.trans hi)]
          simp only [put_takeLater, hfly, hw]
          rfl
  · rw [settle_entries t hi hl hr ho hn, if_neg (by simp [he]), if_neg (by simp [hlate])]

end Sys2Proof.Machine

/-! Reading back what a frame is built of: the bytes of a payload, field by field (spec/09, The frame). -/

namespace Sys2Proof.Machine

/-! ### The byte after those before it -/

theorem byteAt_append (a l : List Byte) (k : Nat) : byteAt (a ++ l) (k + a.length) = byteAt l k := by
  simp only [byteAt, List.getD_eq_getElem?_getD, List.getElem?_append_right (Nat.le_add_left _ _), Nat.add_sub_cancel]

theorem byteAt_append_left {a : List Byte} {k : Nat} (l : List Byte) (h : k < a.length) :
    byteAt (a ++ l) k = byteAt a k := by
  simp only [byteAt, List.getD_eq_getElem?_getD, List.getElem?_append_left h]

theorem u16At_append (a l : List Byte) (k : Nat) : u16At (a ++ l) (k + a.length) = u16At l k := by
  simp only [u16At, show k + a.length + 1 = (k + 1) + a.length by omega, byteAt_append]

theorem u24At_append (a l : List Byte) (k : Nat) : u24At (a ++ l) (k + a.length) = u24At l k := by
  simp only [u24At, u16At_append, show k + a.length + 2 = (k + 2) + a.length by omega, byteAt_append]

theorem u32At_append (a l : List Byte) (k : Nat) : u32At (a ++ l) (k + a.length) = u32At l k := by
  simp only [u32At, u16At_append, show k + a.length + 2 = (k + 2) + a.length by omega]

@[simp] theorem length_put8 (n : Nat) : (put8 n).length = 1 := rfl
@[simp] theorem length_put16 (n : Nat) : (put16 n).length = 2 := rfl
@[simp] theorem length_put24 (n : Nat) : (put24 n).length = 3 := rfl
@[simp] theorem length_put32 (n : Nat) : (put32 n).length = 4 := rfl
@[simp] theorem length_putS32 (x : Int) : (putS32 x).length = 4 := rfl
@[simp] theorem length_putBool (b : Bool) : (putBool b).length = 1 := rfl

/-! ### Past a field -/

section Past

variable (l : List Byte) (k n : Nat) (x : Int) (b : Bool)

@[simp] theorem byteAt_past_put8 : byteAt (put8 n ++ l) (k + 1) = byteAt l k := byteAt_append (put8 n) l k
@[simp] theorem byteAt_past_put16 : byteAt (put16 n ++ l) (k + 2) = byteAt l k := byteAt_append (put16 n) l k
@[simp] theorem byteAt_past_put24 : byteAt (put24 n ++ l) (k + 3) = byteAt l k := byteAt_append (put24 n) l k
@[simp] theorem byteAt_past_put32 : byteAt (put32 n ++ l) (k + 4) = byteAt l k := byteAt_append (put32 n) l k
@[simp] theorem byteAt_past_putS32 : byteAt (putS32 x ++ l) (k + 4) = byteAt l k := byteAt_append (putS32 x) l k
@[simp] theorem byteAt_past_putBool : byteAt (putBool b ++ l) (k + 1) = byteAt l k := byteAt_append (putBool b) l k

@[simp] theorem u16At_past_put8 : u16At (put8 n ++ l) (k + 1) = u16At l k := u16At_append (put8 n) l k
@[simp] theorem u16At_past_put16 : u16At (put16 n ++ l) (k + 2) = u16At l k := u16At_append (put16 n) l k
@[simp] theorem u16At_past_put32 : u16At (put32 n ++ l) (k + 4) = u16At l k := u16At_append (put32 n) l k
@[simp] theorem u16At_past_putS32 : u16At (putS32 x ++ l) (k + 4) = u16At l k := u16At_append (putS32 x) l k
@[simp] theorem u16At_past_putBool : u16At (putBool b ++ l) (k + 1) = u16At l k := u16At_append (putBool b) l k

@[simp] theorem u24At_past_put16 : u24At (put16 n ++ l) (k + 2) = u24At l k := u24At_append (put16 n) l k

@[simp] theorem u32At_past_put8 : u32At (put8 n ++ l) (k + 1) = u32At l k := u32At_append (put8 n) l k
@[simp] theorem u32At_past_put16 : u32At (put16 n ++ l) (k + 2) = u32At l k := u32At_append (put16 n) l k
@[simp] theorem u32At_past_put32 : u32At (put32 n ++ l) (k + 4) = u32At l k := u32At_append (put32 n) l k
@[simp] theorem u32At_past_putS32 : u32At (putS32 x ++ l) (k + 4) = u32At l k := u32At_append (putS32 x) l k
@[simp] theorem u32At_past_putBool : u32At (putBool b ++ l) (k + 1) = u32At l k := u32At_append (putBool b) l k

end Past

/-! ### A field -/

section Field

variable (l : List Byte) (n : Nat) (x : Int) (b : Bool)

@[simp] theorem byteAt_put8 : byteAt (put8 n ++ l) 0 = n % 256 := by simp [byteAt, put8]

@[simp] theorem byteAt_putBool : byteAt (putBool b ++ l) 0 = b.toNat := by
  rw [putBool, byteAt_put8]
  cases b <;> rfl

@[simp] theorem u16At_put16 : u16At (put16 n ++ l) 0 = n % 65536 := by
  have h : u16At (put16 n ++ l) 0 = n / 256 % 256 * 256 + n % 256 := by simp [u16At, byteAt, put16]
  omega

@[simp] theorem u24At_put24 : u24At (put24 n ++ l) 0 = n % 16777216 := by
  have h : u24At (put24 n ++ l) 0 = (n / 65536 % 256 * 256 + n / 256 % 256) * 256 + n % 256 := by
    simp [u24At, u16At, byteAt, put24, put16]
  omega

@[simp] theorem u32At_put32 : u32At (put32 n ++ l) 0 = n % 4294967296 := by
  have h : u32At (put32 n ++ l) 0 = n / 65536 % 65536 * 65536 + n % 65536 := by
    rw [u32At, put32, List.append_assoc, u16At_put16, u16At_past_put16, u16At_put16]
  omega

@[simp] theorem ofNat_u32At_putS32 : BitVec.ofNat 32 (u32At (putS32 x ++ l) 0) = BitVec.ofInt 32 x := by
  rw [putS32, u32At_put32, Nat.mod_eq_of_lt (BitVec.isLt _), BitVec.ofNat_toNat, BitVec.setWidth_eq]

@[simp] theorem byteAt_put8_last : byteAt (put8 n) 0 = n % 256 := byteAt_put8 [] n
@[simp] theorem byteAt_putBool_last : byteAt (putBool b) 0 = b.toNat := byteAt_putBool [] b
@[simp] theorem u16At_put16_last : u16At (put16 n) 0 = n % 65536 := u16At_put16 [] n
@[simp] theorem u32At_put32_last : u32At (put32 n) 0 = n % 4294967296 := u32At_put32 [] n
@[simp] theorem ofNat_u32At_putS32_last : BitVec.ofNat 32 (u32At (putS32 x) 0) = BitVec.ofInt 32 x :=
  ofNat_u32At_putS32 [] x

end Field

/-! ### Codes -/

theorem Motion.code_mod (x : Motion) :
    x.code % 256 = [Motion.idle, .waiting, .moving, .held, .faulted, .disabled].idxOf x := by cases x <;> rfl
theorem Permit.code_mod (x : Permit) : x.code % 256 = [Permit.none, .valid, .lapsed].idxOf x := by cases x <;> rfl
theorem LineState.code_mod (x : LineState) : x.code % 256 = x.code := by cases x <;> rfl
theorem AxisKind.code_mod (x : AxisKind) : x.code % 256 = [AxisKind.linear, .angular].idxOf x := by cases x <;> rfl
theorem Role.code_mod (x : Role) : x.code % 256 = [Role.other, .zoneAxis, .reachAxis].idxOf x := by cases x <;> rfl
theorem EndState.code_mod (x : EndState) : x.code % 256 = [EndState.none, .atMin, .atMax, .atBoth].idxOf x := by
  cases x <;> rfl
theorem Quality.code_mod (x : Quality) : x.code % 256 = [Quality.fresh, .stale, .absent].idxOf x := by cases x <;> rfl
theorem ChannelState.code_mod (x : ChannelState) :
    x.code % 256 = [ChannelState.unused, .settling, .valid, .held, .faulted].idxOf x := by cases x <;> rfl
theorem PeerStanding.code_mod (x : PeerStanding) :
    x.code % 256 = [PeerStanding.neverHeard, .heard, .gone].idxOf x := by cases x <;> rfl
theorem Location.code_mod (x : Location) : x.code % 256 = [Location.onHead, .inPort, .absent, .unknown].idxOf x := by
  cases x <;> rfl
theorem LidState.code_mod (x : LidState) : x.code % 256 = [LidState.closed, .opening, .opened, .closing].idxOf x := by
  cases x <;> rfl
theorem LockState.code_mod (x : LockState) : x.code % 256 = [LockState.locked, .unlocked, .moving].idxOf x := by
  cases x <;> rfl
theorem ChangeOutcome.code_mod (x : ChangeOutcome) :
    x.code % 256 = [ChangeOutcome.done, .failed, .aborted].idxOf x := by cases x <;> rfl
theorem ChangeCause.code_mod (x : ChangeCause) : x.code % 256 = x.code := by cases x <;> rfl
theorem PointState.code_mod (x : PointState) : x.code % 256 = [PointState.awaiting, .ready, .offered].idxOf x := by
  cases x <;> rfl
theorem PointFlags.code_lt (f : PointFlags) : f.code < 256 := by
  have h (b : Bool) : b.toNat ≤ 1 := Bool.toNat_le b
  have := h f.clamped
  have := h f.mapOutside
  have := h f.thermalStale
  have := h f.thermalAbsent
  have := h f.unqualified
  have := h f.companionPresent
  have := h f.companionMissing
  have := h f.decelerating
  rw [PointFlags.code]
  omega

end Sys2Proof.Machine

/-! The contents of STATUS, section by section (R197 to R204). -/

namespace Sys2Proof.Machine

/-! ### Which sections and indices there are (R197) -/

theorem statusContent_station (s : State) (n : Nat) : statusContent s 0 n =
    if n = 0 then some (stationRunning s) else if n = 1 then some (stationSetup s) else none := rfl
theorem statusContent_axis (s : State) (n : Nat) : statusContent s 1 n = (s.liveAxis? n).map (axisStatus s) := rfl
theorem statusContent_zones (s : State) (n : Nat) : statusContent s 2 n =
    if n = 16 then some (viewStatus s) else (finOf 16 n).map (zoneStatus s) := rfl
theorem statusContent_channel (s : State) (n : Nat) : statusContent s 3 n =
    if n = 16 then some (workStatus s) else (finOf 16 n).map (channelStatus s) := rfl
theorem statusContent_probe (s : State) (n : Nat) : statusContent s 4 n = (finOf 16 n).map (probeStatus s) := rfl
theorem statusContent_port (s : State) (n : Nat) : statusContent s 5 n =
    if n = 8 then some (headStatus s) else (finOf 8 n).map (portStatus s) := rfl
theorem statusContent_points (s : State) (n : Nat) : statusContent s 6 n = (finOf 16 n).map (pointsStatus s) := rfl
theorem statusContent_other (s : State) (k n : Nat) : statusContent s (k + 7) n = none := rfl

theorem finOf_isSome {k n : Nat} : (finOf k n).isSome = true ↔ n < k := by
  rw [Option.isSome_iff_ne_none, ne_eq, finOf_eq_none, not_le]

theorem liveAxis?_isSome {s : State} {n : Nat} : (s.liveAxis? n).isSome = true ↔ n < 4 ∧ n < s.axisCount := by
  rw [Option.isSome_iff_exists]
  constructor
  · rintro ⟨i, hi⟩
    obtain ⟨rfl, hl⟩ := liveAxis?_some_iff.mp hi
    exact ⟨i.isLt, by simpa [State.live] using hl⟩
  · rintro ⟨h4, hc⟩
    exact ⟨⟨n, h4⟩, liveAxis?_some_iff.mpr ⟨rfl, by simpa [State.live] using hc⟩⟩

theorem statusContent_isSome (s : State) (sect index : Nat) : (statusContent s sect index).isSome = true ↔
    (sect = 0 ∧ index ≤ 1) ∨ (sect = 1 ∧ index < 4 ∧ index < s.axisCount) ∨ (sect = 2 ∧ index ≤ 16) ∨
    (sect = 3 ∧ index ≤ 16) ∨ (sect = 4 ∧ index ≤ 15) ∨ (sect = 5 ∧ index ≤ 8) ∨ (sect = 6 ∧ index ≤ 15) := by
  match sect with
  | 0 =>
    rw [statusContent_station]
    split_ifs <;> simp <;> omega
  | 1 =>
    rw [statusContent_axis, Option.isSome_map, liveAxis?_isSome]
    omega
  | 2 =>
    rw [statusContent_zones]
    split_ifs with h
    · simp [h]
    · rw [Option.isSome_map, finOf_isSome]
      omega
  | 3 =>
    rw [statusContent_channel]
    split_ifs with h
    · simp [h]
    · rw [Option.isSome_map, finOf_isSome]
      omega
  | 4 =>
    rw [statusContent_probe, Option.isSome_map, finOf_isSome]
    omega
  | 5 =>
    rw [statusContent_port]
    split_ifs with h
    · simp [h]
    · rw [Option.isSome_map, finOf_isSome]
      omega
  | 6 =>
    rw [statusContent_points, Option.isSome_map, finOf_isSome]
    omega
  | k + 7 =>
    rw [statusContent_other]
    simp

/-! ### The lengths -/

theorem length_stationRunning (s : State) : (stationRunning s).length = 24 := by simp [stationRunning]
theorem length_stationSetup (s : State) : (stationSetup s).length = 24 := by simp [stationSetup]
theorem length_axisStatus (s : State) (i : Fin 4) : (axisStatus s i).length = 23 := by simp [axisStatus]
theorem length_zoneStatus (s : State) (z : Fin 16) : (zoneStatus s z).length = 9 := by simp [zoneStatus]
theorem length_claimStatus (c : Claim) : (claimStatus c).length = 3 := by cases c <;> rfl
theorem length_viewStatus (s : State) : (viewStatus s).length = 22 := by
  simp [viewStatus, length_claimStatus, ids16]
theorem length_channelStatus (s : State) (c : Fin 16) : (channelStatus s c).length = 13 := by simp [channelStatus]
theorem length_workStatus (s : State) : (workStatus s).length = 18 := by simp [workStatus]
theorem length_threeS32 (v : Vector Int 3) : (v.toList.flatMap putS32).length = 12 := by simp
theorem length_probeStatus (s : State) (k : Fin 16) : (probeStatus s k).length = 24 := by simp [probeStatus]
theorem length_portStatus (s : State) (p : Fin 8) : (portStatus s p).length = 21 := by simp [portStatus]
theorem length_lastStatus (r : Option ChangeResult) : (lastStatus r).length = 3 := by cases r <;> rfl
theorem length_headStatus (s : State) : (headStatus s).length = 13 := by simp [headStatus, length_lastStatus]
theorem length_pointsStatus (s : State) (i : Fin 16) :
    (pointsStatus s i).length = if i.val < s.capture.points.length then 11 else 3 := by
  unfold pointsStatus
  split_ifs with h
  · rw [List.getElem?_eq_getElem h]
    simp [pointStatus]
  · rw [List.getElem?_eq_none (by omega)]
    simp

theorem statusContent_length {s : State} {sect index : Nat} {c : List Byte} (h : statusContent s sect index = some c) :
    (sect = 0 → c.length = 24) ∧ (sect = 1 → c.length = 23) ∧
    (sect = 2 → c.length = if index = 16 then 22 else 9) ∧ (sect = 3 → c.length = if index = 16 then 18 else 13) ∧
    (sect = 4 → c.length = 24) ∧ (sect = 5 → c.length = if index = 8 then 13 else 21) ∧
    (sect = 6 → c.length = if index < s.capture.points.length then 11 else 3) := by
  refine ⟨?_, ?_, ?_, ?_, ?_, ?_, ?_⟩
  all_goals rintro rfl
  · rw [statusContent_station] at h
    split_ifs at h <;> cases h
    exacts [length_stationRunning s, length_stationSetup s]
  · rw [statusContent_axis, Option.map_eq_some_iff] at h
    obtain ⟨i, -, rfl⟩ := h
    exact length_axisStatus s i
  · rw [statusContent_zones] at h
    split_ifs at h ⊢
    · cases h
      exact length_viewStatus s
    · obtain ⟨z, -, rfl⟩ := Option.map_eq_some_iff.mp h
      exact length_zoneStatus s z
  · rw [statusContent_channel] at h
    split_ifs at h ⊢
    · cases h
      exact length_workStatus s
    · obtain ⟨z, -, rfl⟩ := Option.map_eq_some_iff.mp h
      exact length_channelStatus s z
  · rw [statusContent_probe, Option.map_eq_some_iff] at h
    obtain ⟨i, -, rfl⟩ := h
    exact length_probeStatus s i
  · rw [statusContent_port] at h
    split_ifs at h ⊢
    · cases h
      exact length_headStatus s
    · obtain ⟨z, -, rfl⟩ := Option.map_eq_some_iff.mp h
      exact length_portStatus s z
  · rw [statusContent_points, Option.map_eq_some_iff] at h
    obtain ⟨i, hi, rfl⟩ := h
    rw [finOf_eq_some.mp hi]
    exact length_pointsStatus s i

end Sys2Proof.Machine

/-! The fields of STATUS at their places (R198 to R204). -/

namespace Sys2Proof.Machine

@[simp] theorem u16At_put8_put8 (m n : Nat) (l : List Byte) :
    u16At (put8 m ++ (put8 n ++ l)) 0 = m % 256 * 256 + n % 256 := by simp [u16At, byteAt, put8]

theorem orNone_eq {k : Nat} (x : Option (Fin k)) : orNone x = (x.map fun i => i.val).getD 255 := by cases x <;> rfl

theorem orNone_mod {k : Nat} (hk : k ≤ 256) (x : Option (Fin k)) :
    orNone x % 256 = (x.map fun i => i.val).getD 255 := by
  cases x with
  | none => rfl
  | some i => exact Nat.mod_eq_of_lt (i.isLt.trans_le hk)

section Fields

variable {s : State} {c : List Byte}

theorem stationRunning_fields (h : statusContent s 0 0 = some c) (hm : s.station.mode ≠ .offline) :
    byteAt c 0 = (if s.station.mode = .run then 1 else 0) ∧ byteAt c 1 = s.station.controller % 256 ∧
    byteAt c 2 = [Motion.idle, .waiting, .moving, .held, .faulted, .disabled].idxOf (motionState s) ∧
    byteAt c 3 = [Permit.none, .valid, .lapsed].idxOf s.motion.permit ∧ u16At c 4 = s.station.permitTime % 65536 ∧
    u16At c 6 = permitLeft s % 65536 ∧
    byteAt c 8 = (if joined s = true then 3 else s.line.state.code) ∧ byteAt c 9 = s.line.failures % 256 ∧
    byteAt c 10 = s.line.mutes % 256 ∧ u32At c 11 = s.line.lastSof.toNat ∧
    byteAt c 15 = (if s.overrun = true then 1 else 0) ∧ byteAt c 16 = s.faultPending.toNat ∧
    byteAt c 17 = s.pins.driveEnable.toNat ∧ byteAt c 18 = s.axisCount % 256 ∧ byteAt c 19 = s.motion.counter.toNat ∧
    byteAt c 20 = s.motion.queue.length % 256 ∧ byteAt c 21 = s.capture.points.length % 256 ∧
    u16At c 22 = s.capture.counter.toNat := by
  cases h
  have hmode : s.station.mode.code % 256 = if s.station.mode = .run then 1 else 0 := by
    cases hs : s.station.mode <;> simp_all [Mode.code]
  have hline : statusLine s % 256 = if joined s = true then 3 else s.line.state.code := by
    rw [statusLine]
    split
    · rfl
    · exact LineState.code_mod _
  have hover : s.overrun.toNat = if s.overrun = true then 1 else 0 := by cases s.overrun <;> rfl
  have hsof := s.line.lastSof.isLt
  have hseg := s.motion.counter.isLt
  have hpt := s.capture.counter.isLt
  simp [stationRunning, hmode, hline, hover, Motion.code_mod, Permit.code_mod]
  omega

theorem stationSetup_fields (h : statusContent s 0 1 = some c) :
    u16At c 0 = s.station.accel % 65536 ∧ u16At c 2 = s.station.stopDecel % 65536 ∧
    u16At c 4 = s.station.probeCap % 65536 ∧ Holds32 c 6 s.station.halfWidth ∧ Holds32 c 10 s.station.freeReach ∧
    byteAt c 14 = (s.station.rackZone.map fun k => k.val).getD 255 ∧ u16At c 15 = s.thermal.mask.toNat ∧
    byteAt c 17 = s.thermal.shift % 256 ∧ byteAt c 18 = s.station.companion % 256 ∧
    u32At c 19 = s.station.serveSet.toNat ∧
    byteAt c 23 = (s.station.serveAxis.map fun k => k.val).getD 255 := by
  cases h
  have hmask := s.thermal.mask.isLt
  have hserve := s.station.serveSet.isLt
  simp [stationSetup, Holds32, orNone_mod]
  omega

theorem axisStatus_fields {i : Fin 4} (h : statusContent s 1 i.val = some c) :
    let a := s.axis i
    byteAt c 0 = a.record.setUp.toNat ∧ byteAt c 1 = [AxisKind.linear, .angular].idxOf a.record.kind ∧
    byteAt c 2 = [Role.other, .zoneAxis, .reachAxis].idxOf a.record.role ∧ byteAt c 3 = a.referenced.toNat ∧
    byteAt c 4 = [EndState.none, .atMin, .atMax, .atBoth].idxOf (endState s i) ∧
    Holds32 c 5 a.position ∧ Holds32 c 9 a.demand ∧ Holds32 c 13 (if ampOn s = true then a.followErr else 0) ∧
    Holds32 c 17 (scaleFigure s i).value ∧
    byteAt c 21 = [Quality.fresh, .stale, .absent].idxOf (scaleFigure s i).quality ∧
    byteAt c 22 = a.ring.length % 256 := by
  rw [statusContent_axis, Option.map_eq_some_iff] at h
  obtain ⟨j, hj, rfl⟩ := h
  obtain rfl : i = j := Fin.ext (liveAxis?_some_iff.mp hj).1
  simp [axisStatus, Holds32, AxisKind.code_mod, Role.code_mod, EndState.code_mod, Quality.code_mod]

theorem holdAge_eq (s : State) (h : Hold) : holdAge s h = min 65535 ((s.uptime - h.since) / 10000) := rfl

theorem zoneStatus_fields {z : Fin 16} (h : statusContent s 2 z.val = some c) :
    byteAt c 0 = ((s.zones.view.get z).map fun h => h.holder).getD 0 % 256 ∧
    byteAt c 1 = standingCode (s.zones.view.get z) ∧
    u16At c 2 = ((s.zones.view.get z).map (holdAge s)).getD 0 ∧
    (∀ k : Fin 15, z.val = k.val + 1 → Holds32 c 4 (s.zones.boundaries.get k) ∧
      byteAt c 8 = (s.zones.loaded.get k).toNat) ∧
    (z = 0 → u32At c 4 = 0 ∧ byteAt c 8 = 0) := by
  rw [statusContent_zones, if_neg (by omega), Option.map_eq_some_iff] at h
  obtain ⟨y, hy, rfl⟩ := h
  obtain rfl : z = y := Fin.ext (finOf_eq_some.mp hy)
  have hholder : holderCode (s.zones.view.get z) = ((s.zones.view.get z).map fun h => h.holder).getD 0 := by
    cases s.zones.view.get z <;> rfl
  have hstanding : standingCode (s.zones.view.get z) % 256 = standingCode (s.zones.view.get z) := by
    cases s.zones.view.get z with
    | none => rfl
    | some x =>
      simp only [standingCode]
      split <;> rfl
  have hage : ((s.zones.view.get z).map (holdAge s)).getD 0 % 65536 =
      ((s.zones.view.get z).map (holdAge s)).getD 0 := by
    refine Nat.mod_eq_of_lt ?_
    cases s.zones.view.get z with
    | none => exact Nat.zero_lt_succ _
    | some x =>
      simp only [Option.map_some, Option.getD_some, holdAge_eq]
      omega
  refine ⟨?_, ?_, ?_, fun k hk => ?_, ?_⟩
  · simp [zoneStatus, hholder]
  · simpa [zoneStatus] using hstanding
  · simpa [zoneStatus] using hage
  · have hb : boundaryOf s z = s.zones.boundaries.get k := by
      simp [boundaryOf, hk, Vector.get_eq_getElem]
    have hl : boundaryLoaded s z = s.zones.loaded.get k := by
      simp [boundaryLoaded, hk, Vector.get_eq_getElem]
    simp [zoneStatus, Holds32, hb, hl]
  · rintro rfl
    simp [zoneStatus, boundaryOf, boundaryLoaded, putS32]

end Fields

end Sys2Proof.Machine

/-! The fields of STATUS at their places, continued, and the answer to a QUERY. -/

namespace Sys2Proof.Machine

section Fields

variable {s : State} {c : List Byte}

/-- One byte per entry: the byte of an entry stands at its index. -/
theorem byteAt_flatMap_put8 (f : Fin 16 → Nat) (l : List Byte) (z : Fin 16) :
    byteAt ((ids16.flatMap fun z => put8 (f z)) ++ l) z.val = f z % 256 := by
  fin_cases z <;> simp [ids16]

theorem length_flatMap_put8 (f : Fin 16 → Nat) : (ids16.flatMap fun z => put8 (f z)).length = 16 := by
  simp [ids16]

theorem claimStatus_fields (x : Claim) (l : List Byte) :
    (byteAt (claimStatus x ++ l) 0, u16At (claimStatus x ++ l) 1) = match x with
      | .none => (0, 0)
      | .queued y _ => (1, y.toNat)
      | .window y _ => (2, y.toNat) := by
  cases x with
  | none => simp [claimStatus]
  | queued y e =>
    have := y.isLt
    simp [claimStatus, Nat.mod_eq_of_lt this]
  | window y b =>
    have := y.isLt
    simp [claimStatus, Nat.mod_eq_of_lt this]

theorem has_allFirm (s : State) (z : Fin 16) :
    (allFirm s).getLsbD z.val = (s.zones.view.get z).any fun h => h.standing == .firm := by
  have h : ZoneSet.has (allFirm s) z = (standingCode (s.zones.view.get z) == 2) := by
    rw [allFirm, viewZones, zoneSet_has]
  refine h.trans ?_
  cases s.zones.view.get z with
  | none => rfl
  | some x => cases hx : x.standing <;> simp [standingCode, hx]

theorem viewStatus_fields (h : statusContent s 2 16 = some c) :
    (∀ z : Fin 16, byteAt c z.val = ((s.zones.view.get z).map fun h => h.holder).getD 0 % 256 ∧
      (BitVec.ofNat 16 (u16At c 16)).getLsbD z.val = (s.zones.view.get z).any fun h => h.standing == .firm) ∧
    (byteAt c 18, u16At c 19) = (match s.zones.claim with
      | .none => (0, 0)
      | .queued x _ => (1, x.toNat)
      | .window x _ => (2, x.toNat)) ∧
    byteAt c 21 = ([0, 1, 2] : List (Fin 3)).countP fun k => (s.slots.objects.get k).frame.isSome := by
  cases h
  set objects := objectIds.countP fun i => (s.slots.objects.get i).frame.isSome with hobjects
  set view := ids16.flatMap fun z => put8 (holderCode (s.zones.view.get z)) with hview
  set tail := claimStatus s.zones.claim ++ put8 objects with htail
  have hc : viewStatus s = view ++ (put16 (allFirm s).toNat ++ tail) := by
    simp [viewStatus, hview, htail, hobjects]
  have hlen : view.length = 16 := length_flatMap_put8 _
  have hcount : objects % 256 = objects :=
    Nat.mod_eq_of_lt ((List.countP_le_length).trans_lt (by decide : objectIds.length < 256))
  rw [hc]
  refine ⟨fun z => ⟨?_, ?_⟩, ?_, ?_⟩
  · rw [hview, byteAt_flatMap_put8]
    cases s.zones.view.get z <;> rfl
  · have hfirm : u16At (view ++ (put16 (allFirm s).toNat ++ tail)) (0 + view.length) = (allFirm s).toNat := by
      rw [u16At_append, u16At_put16, Nat.mod_eq_of_lt (allFirm s).isLt]
    rw [hlen] at hfirm
    rw [hfirm, BitVec.ofNat_toNat, BitVec.setWidth_eq]
    exact has_allFirm s z
  · rw [← claimStatus_fields s.zones.claim (put8 objects)]
    have h0 : byteAt (view ++ (put16 (allFirm s).toNat ++ tail)) ((0 + 2) + view.length) = byteAt tail 0 := by
      rw [byteAt_append, byteAt_past_put16]
    have h1 : u16At (view ++ (put16 (allFirm s).toNat ++ tail)) ((1 + 2) + view.length) = u16At tail 1 := by
      rw [u16At_append, u16At_past_put16]
    simp only [hlen, Nat.reduceAdd] at h0 h1
    rw [h0, h1]
  · have h3 : byteAt (view ++ (put16 (allFirm s).toNat ++ tail)) (((0 + (claimStatus s.zones.claim).length) + 2) +
        view.length) = objects := by
      rw [byteAt_append, byteAt_past_put16, htail, byteAt_append, byteAt_put8_last, hcount]
    simp only [hlen, length_claimStatus, Nat.reduceAdd] at h3
    exact h3

theorem channelStatus_fields {n : Fin 16} (h : statusContent s 3 n.val = some c) :
    let ch := s.thermal.channels.get n
    byteAt c 0 = (s.thermal.mask.getLsbD n.val).toNat ∧
    byteAt c 1 = [ChannelState.unused, .settling, .valid, .held, .faulted].idxOf ch.state ∧ Holds32 c 2 ch.average ∧
    Holds32 c 6 ch.last ∧ byteAt c 10 = ch.rejects % 256 ∧ byteAt c 11 = ch.heldAge % 256 ∧
    byteAt c 12 = ch.settle % 256 := by
  rw [statusContent_channel, if_neg (by omega), Option.map_eq_some_iff] at h
  obtain ⟨y, hy, rfl⟩ := h
  obtain rfl : n = y := Fin.ext (finOf_eq_some.mp hy)
  simp [channelStatus, Holds32, ChannelState.code_mod]

theorem workStatus_fields (h : statusContent s 3 16 = some c) :
    let t := s.thermal
    byteAt c 0 = [Source.localChannels, .peer].idxOf t.source ∧ Holds32 c 1 (workFigure s).value ∧
    byteAt c 5 = [Quality.fresh, .stale, .absent].idxOf (workFigure s).quality ∧ Holds32 c 6 t.alphaW ∧
    byteAt c 10 = t.peerStation % 256 ∧ byteAt c 11 = [PeerStanding.neverHeard, .heard, .gone].idxOf t.peer.standing ∧
    Holds32 c 12 t.peer.figure ∧ byteAt c 16 = [Quality.fresh, .stale, .absent].idxOf t.peer.quality ∧
    byteAt c 17 = t.publish.toNat := by
  cases h
  have hsource : (if s.thermal.source = .peer then 1 else 0) % 256 =
      [Source.localChannels, .peer].idxOf s.thermal.source := by
    cases s.thermal.source <;> rfl
  simp [workStatus, Holds32, Quality.code_mod, PeerStanding.code_mod, hsource]

theorem flatMap_putS32 (v : Vector Int 3) :
    v.toList.flatMap putS32 = putS32 (v.get 0) ++ (putS32 (v.get 1) ++ putS32 (v.get 2)) := by
  have hv : v.toList = [v.get 0, v.get 1, v.get 2] := by
    refine List.ext_getElem (by simp) fun i hi _ => ?_
    have h3 : i < 3 := by simpa using hi
    interval_cases i <;> rfl
  rw [hv]
  simp

theorem probeStatus_fields {k : Fin 16} (h : statusContent s 4 k.val = some c) :
    let r := s.probes.table.get k
    byteAt c 0 = r.id % 256 ∧ byteAt c 1 = (r.home.map fun k => k.val).getD 255 ∧
    byteAt c 2 = [Location.onHead, .inPort, .absent, .unknown].idxOf r.location ∧ Holds32 c 3 (r.tip.get 0) ∧
    Holds32 c 7 (r.tip.get 1) ∧ Holds32 c 11 (r.tip.get 2) ∧ u32At c 15 = r.allowance % 4294967296 ∧
    byteAt c 19 = r.qualified.toNat ∧ u32At c 20 = r.touches % 4294967296 := by
  rw [statusContent_probe, Option.map_eq_some_iff] at h
  obtain ⟨y, hy, rfl⟩ := h
  obtain rfl : k = y := Fin.ext (finOf_eq_some.mp hy)
  simp [probeStatus, Holds32, orNone_mod, Location.code_mod, flatMap_putS32]

theorem portStatus_fields {p : Fin 8} (h : statusContent s 5 p.val = some c) :
    let r := s.probes.ports.get p
    byteAt c 0 = r.configured.toNat ∧ Holds32 c 1 (r.approach.get 0) ∧ Holds32 c 5 (r.approach.get 1) ∧
    Holds32 c 9 (r.approach.get 2) ∧ byteAt c 13 = r.insertAxis.val ∧ Holds32 c 14 r.insertDepth ∧
    byteAt c 18 = r.lidOpen.toNat ∧ byteAt c 19 = [LidState.closed, .opening, .opened, .closing].idxOf (lidState s p) ∧
    byteAt c 20 = (present s p).toNat := by
  rw [statusContent_port, if_neg (by omega), Option.map_eq_some_iff] at h
  obtain ⟨y, hy, rfl⟩ := h
  obtain rfl : p = y := Fin.ext (finOf_eq_some.mp hy)
  have haxis : (s.probes.ports.get p).insertAxis.val % 256 = (s.probes.ports.get p).insertAxis.val := by omega
  simp [portStatus, Holds32, LidState.code_mod, flatMap_putS32, haxis]

theorem phaseNumber_code (x : Change) : x.phaseNumber % 256 = match x.phase with
    | none => 0
    | some ph => [Phase.travelDrop, .openDrop, .insert, .unlock, .detach, .closeDrop, .travelPick, .openPick, .engage,
        .lock, .identify, .withdraw, .closePick].idxOf ph + 1 := by
  rw [Change.phaseNumber]
  cases x.phase with
  | none => rfl
  | some ph => cases ph <;> rfl

theorem headStatus_fields (h : statusContent s 5 8 = some c) :
    let x := s.probes.change
    byteAt c 0 = s.probes.unlockOut.toNat ∧ byteAt c 1 = [LockState.locked, .unlocked, .moving].idxOf (lockState s) ∧
    byteAt c 2 = s.probes.identity % 256 ∧ byteAt c 3 = x.active.toNat ∧ byteAt c 4 = x.target % 256 ∧
    byteAt c 5 = x.oldId % 256 ∧ byteAt c 6 = (x.drop.map fun k => k.val).getD 255 ∧
    byteAt c 7 = (x.pick.map fun k => k.val).getD 255 ∧ byteAt c 8 = x.phaseNumber % 256 ∧
    byteAt c 9 = x.deferred.code ∧ (x.last = none → byteAt c 10 = 255) ∧
    ∀ r, x.last = some r → byteAt c 10 = [ChangeOutcome.done, .failed, .aborted].idxOf r.outcome ∧
      byteAt c 11 = r.phase % 256 ∧ byteAt c 12 = r.cause.code := by
  cases h
  intro x
  have hnone : x.last = none → byteAt (headStatus s) 10 = 255 := fun hl => by
    simp [headStatus, lastStatus, show s.probes.change.last = none from hl]
  have hsome (r : ChangeResult) (hl : x.last = some r) :
      byteAt (headStatus s) 10 = [ChangeOutcome.done, .failed, .aborted].idxOf r.outcome ∧
        byteAt (headStatus s) 11 = r.phase % 256 ∧ byteAt (headStatus s) 12 = r.cause.code := by
    simp [headStatus, lastStatus, show s.probes.change.last = some r from hl, ChangeOutcome.code_mod,
      ChangeCause.code_mod]
  refine ⟨?_, ?_, ?_, ?_, ?_, ?_, ?_, ?_, ?_, ?_, hnone, hsome⟩
  all_goals simp [headStatus, LockState.code_mod, orNone_mod, ChangeCause.code_mod, x]

theorem pointsStatus_fields {i : Fin 16} (h : statusContent s 6 i.val = some c) :
    byteAt c 0 = s.capture.points.length % 256 ∧ u16At c 1 = s.capture.counter.toNat ∧
    ∀ r, s.capture.points[i.val]? = some r →
      u16At c 3 = r.number.toNat ∧ byteAt c 5 = r.segment.toNat ∧ byteAt c 6 = r.probe % 256 ∧
      byteAt c 7 = r.flags.code ∧ byteAt c 8 = [PointState.awaiting, .ready, .offered].idxOf r.state ∧
      byteAt c 9 = (if r.state = .awaiting then r.expected else 0) % 256 ∧ byteAt c 10 = r.announced.toNat := by
  rw [statusContent_points, Option.map_eq_some_iff] at h
  obtain ⟨y, hy, rfl⟩ := h
  obtain rfl : i = y := Fin.ext (finOf_eq_some.mp hy)
  have hcounter := s.capture.counter.isLt
  refine ⟨by simp [pointsStatus], ?_, fun r hr => ?_⟩
  · simp [pointsStatus, Nat.mod_eq_of_lt hcounter]
  · have hnumber := r.number.isLt
    have hsegment := r.segment.isLt
    simp [pointsStatus, hr, pointStatus, PointState.code_mod, Nat.mod_eq_of_lt hnumber, Nat.mod_eq_of_lt hsegment,
      Nat.mod_eq_of_lt r.flags.code_lt]

end Fields

end Sys2Proof.Machine

/-! The answer to a QUERY (R170, R172, R197). -/

namespace Sys2Proof.Machine

section Query

variable {f : RxFrame} {s : State}

@[simp] theorem heard_overrunSince (f : RxFrame) (s : State) : (heard f s).overrunSince = s.overrunSince := by
  simp [heard]

theorem heard_addressed (f : RxFrame) (s : State) (n : Nat) :
    addressed (heard f s) n = true ↔ n = s.line.number ∨ n = 0 := by
  simp [addressed]

theorem heard_repliesHeld (f : RxFrame) (s : State) :
    repliesHeld (heard f s) = true ↔ s.slots.replies.get 0 ≠ none ∧ s.slots.replies.get 1 ≠ none := by
  simp [repliesHeld, Option.isSome_iff_ne_none]

/-- A QUERY that names the station comes to what it answers. -/
theorem next_query {u : State} (hh : Hears 18 f s) (hp : f.payload ≠ [])
    (ha : byteAt f.payload 0 = s.line.number ∨ byteAt f.payload 0 = 0) (hu : answerQuery f (heard f s) = u) :
    (.next (query f s) : Host.Outcome State Fault Refusal) = .next (settled u) := by
  refine next_heard hh ((if_neg hp).trans ((if_neg ?_).trans hu))
  rw [Bool.not_eq_true', Bool.not_eq_false]
  exact (heard_addressed f s _).mpr ha

theorem answerQuery_status {c : List Byte} (hl : f.payload.length = 3)
    (hc : statusContent s (byteAt f.payload 1) (byteAt f.payload 2) = some c) : answerQuery f s =
      buildStatus f.sender.toNat (byteAt f.payload 1) (byteAt f.payload 2) c s := by
  unfold answerQuery
  dsimp only
  rw [if_neg (not_not.mpr hl), hc]

theorem answerQuery_refused (h : ¬ (f.payload.length = 3 ∧
    ∃ c, statusContent s (byteAt f.payload 1) (byteAt f.payload 2) = some c)) :
    answerQuery f s = refuseQuery f.sender.toNat s := by
  unfold answerQuery
  dsimp only
  by_cases hl : f.payload.length = 3
  · rw [if_neg (not_not.mpr hl)]
    cases hc : statusContent s (byteAt f.payload 1) (byteAt f.payload 2) with
    | none => rfl
    | some c => exact absurd ⟨hl, c, hc⟩ h
  · rw [if_pos hl]

theorem buildStatus_held {sender sect index : Nat} {c : List Byte} (h : s.slots.status ≠ none) :
    buildStatus sender sect index c s = setOverrun s := if_pos (by simpa [Option.isSome_iff_ne_none] using h)

theorem buildStatus_free {sender sect index : Nat} {c : List Byte} (h : s.slots.status = none) :
    buildStatus sender sect index c s = { s with
      slots := { s.slots with status := some { dest := sender, sect := sect, index := index, content := c } }
      overrunSince := if sect = 0 ∧ index = 0 then false else s.overrunSince } := by
  unfold buildStatus
  dsimp only
  rw [if_neg (by simp [h])]
  split <;> rfl

end Query

/-- Settles O55: the ranges, lengths and fields of the sections, and the QUERY answered, refused or turned away. -/
theorem queriesAreAnsweredByOneStatus : Obligations.QueriesAreAnsweredByOneStatus := by
  unfold Obligations.QueriesAreAnsweredByOneStatus
  intro holds32 place holder
  refine ⟨?_, statusContent_isSome, fun s sect index c h => statusContent_length h,
    fun s c h hm => stationRunning_fields h hm, fun s c h => stationSetup_fields h, fun s i c h => axisStatus_fields h,
    fun s z c h => ?_, fun s c h => viewStatus_fields h, fun s n c h => channelStatus_fields h,
    fun s c h => workStatus_fields h, fun s k c h => probeStatus_fields h, fun s p c h => portStatus_fields h,
    fun s c h => ?_, fun s i c h => pointsStatus_fields h⟩
  · intro cmd f s hcmd hh hp ha h sect index overrun good
    have hexec : exec (cmd f) s = .next (query f s) := by
      simp only [List.mem_cons, List.not_mem_nil, or_false] at hcmd
      rcases hcmd with rfl | rfl | rfl | rfl | rfl | rfl | rfl <;> rfl
    have hstatus : h.slots.status = s.slots.status := heard_slots_status f s
    refine ⟨fun c hl hc hfree => ?_, fun hgood hheld => ?_, fun hbad hfree => ?_, fun hbad h0 h1 => ?_⟩
    · refine hexec.trans (next_query hh hp ha ((answerQuery_status hl hc).trans ((buildStatus_free ?_).trans ?_)))
      · rw [hstatus, hfree]
      · rw [heard_overrunSince]
    · obtain ⟨hl, c, hc⟩ := hgood
      refine hexec.trans (next_query hh hp ha ((answerQuery_status hl hc).trans (buildStatus_held ?_)))
      rwa [hstatus]
    · refine hexec.trans (next_query hh hp ha ((answerQuery_refused hbad).trans (if_neg ?_)))
      rw [heard_repliesHeld]
      tauto
    · exact hexec.trans (next_query hh hp ha ((answerQuery_refused hbad).trans
        (if_pos ((heard_repliesHeld f s).mpr ⟨h0, h1⟩))))
  · obtain ⟨h0, h1, h2, h3, h4⟩ := zoneStatus_fields h
    refine ⟨h0, h1.trans ?_, h2.trans ?_, h3, h4⟩
    · cases s.zones.view.get z <;> rfl
    · cases s.zones.view.get z <;> rfl
  · obtain ⟨h0, h1, h2, h3, h4, h5, h6, h7, h8, h9⟩ := headStatus_fields h
    refine ⟨h0, h1, h2, h3, h4, h5, h6, h7, (h8.trans (phaseNumber_code _)).trans ?_, h9⟩
    cases s.probes.change.phase <;> rfl

end Sys2Proof.Machine

/-! The payloads of the fifteen slots (spec/09, Payloads) and the order of their selection (R173). -/

namespace Sys2Proof.Machine

/-! ### Codes -/

theorem CompanionStatus.code_mod (x : CompanionStatus) :
    x.code % 256 = [CompanionStatus.ok, .beyondHistory, .notReferenced].idxOf x := by cases x <;> rfl
theorem ReplyCode.code_mod (x : ReplyCode) : x.code % 256 =
    [ReplyCode.accepted, .done, .wrongState, .badValue, .outOfRange, .notReferenced, .busy, .queueFull,
      .notController].idxOf x := by cases x <;> rfl
theorem FaultCause.code_mod (x : FaultCause) : x.code % 256 =
    [FaultCause.encoder, .overrange, .endMin, .endMax, .following, .notFound].idxOf x := by cases x <;> rfl
theorem SegKind.code_mod (x : SegKind) : x.code % 256 =
    [SegKind.position, .probe, .reference, .rackTravel, .rackInsert].idxOf x := by cases x <;> rfl
theorem SegOutcome.code_mod (x : SegOutcome) : x.code % 256 =
    [SegOutcome.arrived, .unsettled, .touched, .missed, .halted, .lapsed, .collision, .conflict, .motionFault,
      .drivesOff].idxOf x := by cases x <;> rfl
theorem ChangeCause.code_mod_idxOf (x : ChangeCause) : x.code % 256 =
    [ChangeCause.none, .collision, .lidFault, .lockFault, .dropFault, .presenceFault, .pickFault, .wrongProbe,
      .settleFault, .conflict, .motionFault, .drivesOff, .halted, .mute, .lapsed].idxOf x := by cases x <;> rfl

/-- Each flag of a point is one bit of its byte. -/
theorem PointFlags.testBit_code (f : PointFlags) (k : Nat) (b : Bool)
    (h : (k, b) ∈ [(7, f.clamped), (6, f.mapOutside), (5, f.thermalStale), (4, f.thermalAbsent), (3, f.unqualified),
      (2, f.companionPresent), (1, f.companionMissing), (0, f.decelerating)]) : f.code.testBit k = b := by
  have hle (b : Bool) : b.toNat ≤ 1 := Bool.toNat_le b
  have h7 := hle f.clamped
  have h6 := hle f.mapOutside
  have h5 := hle f.thermalStale
  have h4 := hle f.thermalAbsent
  have h3 := hle f.unqualified
  have h2 := hle f.companionPresent
  have h1 := hle f.companionMissing
  have h0 := hle f.decelerating
  have hbit (x : Bool) : (x.toNat = 1) ↔ x = true := by cases x <;> simp
  simp only [List.mem_cons, Prod.mk.injEq, List.not_mem_nil, or_false] at h
  rw [Bool.eq_iff_iff, Nat.testBit_eq_decide_div_mod_eq, decide_eq_true_eq, PointFlags.code]
  rcases h with ⟨rfl, rfl⟩ | ⟨rfl, rfl⟩ | ⟨rfl, rfl⟩ | ⟨rfl, rfl⟩ | ⟨rfl, rfl⟩ | ⟨rfl, rfl⟩ | ⟨rfl, rfl⟩ | ⟨rfl, rfl⟩
  all_goals rw [← hbit]; omega

/-! ### Runs of signed values -/

theorem length_flatMap_putS32 (l : List Int) : (l.flatMap putS32).length = 4 * l.length := by
  induction l with
  | nil => rfl
  | cons x l ih =>
    rw [List.flatMap_cons, List.length_append, ih, length_putS32, List.length_cons]
    omega

/-- The value at an index of a run of signed values stands at four times that index. -/
theorem holds32_flatMap {l : List Int} {j : Nat} {v : Int} (h : l[j]? = some v) (tail : List Byte) :
    Holds32 (l.flatMap putS32 ++ tail) (4 * j) v := by
  induction l generalizing j with
  | nil => cases h
  | cons x l ih =>
    rw [List.flatMap_cons, List.append_assoc]
    cases j with
    | zero =>
      cases h
      exact ofNat_u32At_putS32 _ _
    | succ j =>
      rw [Holds32, show 4 * (j + 1) = 4 * j + 4 by omega, u32At_past_putS32]
      exact ih h

/-! ### The slots -/

section Payloads

variable (s : State) (sof : Tick)

theorem ageBytes_length (n : Nat) (t u : Tick) : (ageBytes n t u).length = 3 := by
  unfold ageBytes
  dsimp only
  split <;> rfl

theorem ageBytes_age {n : Nat} {t u : Tick} (l : List Byte) (h : (t - u).toNat < 16777216) :
    u24At (ageBytes n t u ++ l) 0 = (t - u).toNat := by
  rw [ageBytes, if_pos h, u24At_put24, Nat.mod_eq_of_lt h]

theorem carries_touch : Carries s sof .touch s.slots.touch (fun f p => p.length = 6 ∧ u16At p 0 = f.point.toNat ∧
    ((sof - f.captureTick).toNat < 16777216 → u24At p 2 = (sof - f.captureTick).toNat) ∧
    byteAt p 5 = f.probe % 256) := by
  unfold Carries
  cases h : s.slots.touch with
  | none => simp [slotPayload, h]
  | some f =>
    refine ⟨put16 f.point.toNat ++ (ageBytes s.freeIx sof f.captureTick ++ put8 f.probe), ?_, ?_, ?_,
      fun hage => ?_, ?_⟩
    · simp [slotPayload, h]
    · simp [ageBytes_length]
    · rw [u16At_put16, Nat.mod_eq_of_lt f.point.isLt]
    · rw [u24At_past_put16 _ 0, ageBytes_age _ hage]
    · have hlast := byteAt_append (ageBytes s.freeIx sof f.captureTick) (put8 f.probe) 0
      rw [ageBytes_length] at hlast
      rw [byteAt_past_put16 _ 3]
      exact hlast.trans (byteAt_put8_last _)

theorem carries_object (i : Fin 3) : Carries s sof (.object i) (s.slots.objects.get i).frame fun f p => p.length = 3 ∧
    byteAt p 0 = f.claimant % 256 ∧ u16At p 1 = f.zones.toNat := by
  unfold Carries
  cases h : (s.slots.objects.get i).frame with
  | none => simp [slotPayload, h]
  | some f =>
    have hz := f.zones.isLt
    exact ⟨_, by rw [slotPayload, h]; rfl, by simp, by simp, by simp [Nat.mod_eq_of_lt hz]⟩

theorem carries_hello : Carries s sof .hello (if s.slots.hello = true then some () else none) (fun _ p => p.length = 2 ∧
    byteAt p 0 = s.axisCount % 256 ∧ (s.station.mode = .setup → byteAt p 1 = 0) ∧
    (s.station.mode = .run → byteAt p 1 = 1)) := by
  unfold Carries
  cases h : s.slots.hello with
  | false => simp [slotPayload, h]
  | true =>
    refine ⟨_, by rw [slotPayload, h]; rfl, by simp, by simp, fun hm => ?_, fun hm => ?_⟩
    · simp [hm, Mode.code]
    · simp [hm, Mode.code]

theorem carries_release :
    Carries s sof .release s.slots.release.frame (fun x p => p.length = 2 ∧ u16At p 0 = x.toNat) := by
  unfold Carries
  cases h : s.slots.release.frame with
  | none => simp [slotPayload, h]
  | some x =>
    have hx := x.isLt
    exact ⟨_, by rw [slotPayload, h]; rfl, by simp, by simp [Nat.mod_eq_of_lt hx]⟩

theorem carries_claim : Carries s sof .claim s.slots.claim (fun x p => p.length = 2 ∧ u16At p 0 = x.toNat) := by
  unfold Carries
  cases h : s.slots.claim with
  | none => simp [slotPayload, h]
  | some x =>
    have hx := x.isLt
    exact ⟨_, by rw [slotPayload, h]; rfl, by simp, by simp [Nat.mod_eq_of_lt hx]⟩

theorem carries_companion (i : Fin 2) :
    Carries s sof (.companion i) (s.slots.companions.get i).frame fun f p => p.length = 8 ∧
      byteAt p 0 = f.dest % 256 ∧ u16At p 1 = f.point.toNat ∧ Holds32 p 3 f.value ∧
      byteAt p 7 = [CompanionStatus.ok, .beyondHistory, .notReferenced].idxOf f.status := by
  unfold Carries
  cases h : (s.slots.companions.get i).frame with
  | none => simp [slotPayload, h]
  | some f =>
    have hp := f.point.isLt
    exact ⟨_, by rw [slotPayload, h]; rfl, by simp, by simp, by simp [Nat.mod_eq_of_lt hp], by simp [Holds32],
      by simp [CompanionStatus.code_mod]⟩

/-- The bytes of the companion value that ends a POINT. -/
def companionBytes (v : Option Int) : List Byte :=
  match v with
  | some x => putS32 x
  | none => []

theorem length_companionBytes (v : Option Int) : (companionBytes v).length = if v.isSome = true then 4 else 0 := by
  cases v <;> rfl

theorem slotPayload_point {f : PointFrame} (h : s.slots.point = some f) : slotPayload s sof .point =
    some (put16 f.number.toNat ++ put8 f.segment.toNat ++ put8 f.probe ++ put8 f.flags.code ++ put8 f.mask.toNat ++
      f.coords.flatMap putS32 ++ companionBytes f.companion) := by
  rw [slotPayload, h]
  rfl

theorem carries_point : Carries s sof .point s.slots.point (fun f p =>
    p.length = 6 + 4 * f.coords.length + (if f.companion.isSome = true then 4 else 0) ∧
    u16At p 0 = f.number.toNat ∧ byteAt p 2 = f.segment.toNat ∧ byteAt p 3 = f.probe % 256 ∧ byteAt p 4 < 256 ∧
    (∀ k b, (k, b) ∈ [(7, f.flags.clamped), (6, f.flags.mapOutside), (5, f.flags.thermalStale),
        (4, f.flags.thermalAbsent), (3, f.flags.unqualified), (2, f.flags.companionPresent),
        (1, f.flags.companionMissing), (0, f.flags.decelerating)] → (byteAt p 4).testBit k = b) ∧
    byteAt p 5 = f.mask.toNat ∧ (∀ j v, f.coords[j]? = some v → Holds32 p (6 + 4 * j) v) ∧
    ∀ v, f.companion = some v → Holds32 p (6 + 4 * f.coords.length) v) := by
  unfold Carries
  cases h : s.slots.point with
  | none => simp [slotPayload, h]
  | some f =>
    set tail := companionBytes f.companion with htail
    have hlen : tail.length = if f.companion.isSome = true then 4 else 0 := length_companionBytes _
    have hn := f.number.isLt
    have hseg := f.segment.isLt
    have hmask : f.mask.toNat < 256 := f.mask.isLt.trans_le (by decide)
    have hflags : f.flags.code % 256 = f.flags.code := Nat.mod_eq_of_lt f.flags.code_lt
    have hpast (k : Nat) (v : Int) (hv : Holds32 (f.coords.flatMap putS32 ++ tail) k v) :
        Holds32 (put16 f.number.toNat ++ (put8 f.segment.toNat ++ (put8 f.probe ++ (put8 f.flags.code ++
          (put8 f.mask.toNat ++ (f.coords.flatMap putS32 ++ tail)))))) (6 + k) v := by
      rw [Holds32, show 6 + k = ((((k + 1) + 1) + 1) + 1) + 2 by omega, u32At_past_put16, u32At_past_put8,
        u32At_past_put8, u32At_past_put8, u32At_past_put8]
      exact hv
    refine ⟨put16 f.number.toNat ++ (put8 f.segment.toNat ++ (put8 f.probe ++ (put8 f.flags.code ++
      (put8 f.mask.toNat ++ (f.coords.flatMap putS32 ++ tail))))), ?_, ?_, ?_, ?_, ?_, ?_, fun k b hkb => ?_, ?_,
      fun j v hj => hpast _ v (holds32_flatMap hj tail), fun v hv => hpast _ v ?_⟩
    · rw [slotPayload_point s sof h]
      simp only [htail, List.append_assoc]
    · simp only [List.length_append, length_put16, length_put8, length_flatMap_putS32, hlen]
      omega
    · simp [Nat.mod_eq_of_lt hn]
    · simp [Nat.mod_eq_of_lt hseg]
    · simp
    · simp [Nat.mod_lt]
    · simpa [hflags] using f.flags.testBit_code k b hkb
    · simp [Nat.mod_eq_of_lt hmask]
    · have hcoords := length_flatMap_putS32 f.coords
      have hlast := u32At_append (f.coords.flatMap putS32) tail 0
      rw [hcoords, Nat.zero_add] at hlast
      rw [Holds32, hlast, htail, hv]
      exact ofNat_u32At_putS32_last v

theorem carries_reply (i : Fin 2) : Carries s sof (.reply i) (s.slots.replies.get i) fun f p => p.length = 5 ∧
    byteAt p 0 = f.dest % 256 ∧ byteAt p 1 = f.kind % 256 ∧
    byteAt p 2 = [ReplyCode.accepted, .done, .wrongState, .badValue, .outOfRange, .notReferenced, .busy, .queueFull,
      .notController].idxOf f.code ∧
    u16At p 3 = f.detail % 65536 := by
  unfold Carries
  cases h : s.slots.replies.get i with
  | none => simp [slotPayload, h]
  | some f =>
    exact ⟨_, by rw [slotPayload, h]; rfl, by simp, by simp, by simp, by simp [ReplyCode.code_mod], by simp⟩

theorem carries_temp : Carries s sof .temp s.slots.temp.frame (fun f p => p.length = 5 ∧ Holds32 p 0 f.value ∧
    byteAt p 4 = [Quality.fresh, .stale, .absent].idxOf f.quality) := by
  unfold Carries
  cases h : s.slots.temp.frame with
  | none => simp [slotPayload, h]
  | some f =>
    exact ⟨_, by rw [slotPayload, h]; rfl, by simp, by simp [Holds32], by simp [Quality.code_mod]⟩

theorem carries_status : Carries s sof .status s.slots.status (fun f p => byteAt p 0 = f.dest % 256 ∧
    byteAt p 1 = f.sect % 256 ∧ byteAt p 2 = f.index % 256 ∧ 3 ≤ p.length ∧ p.drop 3 = f.content) := by
  unfold Carries
  cases h : s.slots.status with
  | none => simp [slotPayload, h]
  | some f =>
    exact ⟨_, by rw [slotPayload, h]; rfl, by simp, by simp, by simp, by simp; omega, by simp [put8]⟩

end Payloads

end Sys2Proof.Machine

/-! The end of MUTE and of LISTEN, the beginning of an attempt, and the payloads of the slots. -/

namespace Sys2Proof.Machine

/-! ### The payload of a NOTICE (spec/09, Notice details) -/

theorem carries_notice (s : State) (sof : Tick) : Carries s sof .notice s.slots.notice fun f p =>
    byteAt p 1 = f.count % 256 ∧ byteAt p 0 = f.notice.latchIx.val + 1 ∧
      p.drop 2 = f.notice.detail ∧ p.length = 2 + f.notice.detail.length := by
  unfold Carries
  cases h : s.slots.notice with
  | none => simp [slotPayload, h]
  | some f =>
    have hk : f.notice.kindCode % 256 = f.notice.latchIx.val + 1 := by
      rw [Notice.kindCode]
      omega
    exact ⟨_, by rw [slotPayload, h]; rfl, by simp, by simp [hk], by simp [put8], by simp; omega⟩

/-- A byte behind the two that begin a NOTICE. -/
theorem byteAt_drop {p : List Byte} {n k : Nat} : byteAt p (n + k) = byteAt (p.drop n) k := by
  simp only [byteAt, List.getD_eq_getElem?_getD, List.getElem?_drop]

theorem u16At_drop {p : List Byte} {n k : Nat} : u16At p (n + k) = u16At (p.drop n) k := by
  rw [u16At, u16At, byteAt_drop, Nat.add_assoc, byteAt_drop]

/-! ### The order of the slots (R173) -/

theorem slotPayload_isSome (s : State) (sof : Tick) (id : SlotId) :
    (slotPayload s sof id).isSome = occupied s id := by
  unfold occupied
  cases id
  case hello => rfl
  all_goals simp [slotPayload]

theorem mayOffer_joined {s : State} (h : joined s = true) (id : SlotId) : mayOffer s id = occupied s id := by
  simp [mayOffer, h]

theorem find_first {l pre post : List SlotId} {p : SlotId → Bool} {id : SlotId} (hl : l = pre ++ id :: post)
    (hpre : ∀ j ∈ pre, p j = false) (hid : p id = true) : l.find? p = some id := by
  rw [hl, List.find?_append, List.find?_eq_none.mpr fun j hj => by simp [hpre j hj], Option.none_or,
    List.find?_cons_of_pos hid]

theorem mem_slotOrder (id : SlotId) : id ∈ slotOrder := by
  cases id
  case object i => fin_cases i <;> decide
  case companion i => fin_cases i <;> decide
  case reply i => fin_cases i <;> decide
  all_goals decide

theorem classOf_kind (id : SlotId) : classOf id.kind = some id.cls := by
  cases id <;> rfl

theorem SlotId.cls_lt (id : SlotId) : id.cls < 8 := by
  cases id <;> simp [SlotId.cls]

/-- A stuff bit falls before the end of a tag only where six of its first bits are equal (R152, R154). -/
theorem tagBits_eq : ∀ c < 8, ∀ n < 31, 1 ≤ n → c ≠ 0 →
    tagBits c n = if (c = 3 ∧ n = 30) ∨ (c = 4 ∧ n = 1) ∨ (c = 7 ∧ 28 ≤ n) then 10 else 9 := by
  decide

theorem SlotId.cls_ne_zero (id : SlotId) : id.cls ≠ 0 := by
  cases id <;> simp [SlotId.cls]

@[simp] theorem advance_bitTicks (t : Tick) (s : State) : bitTicks (advance t s) = bitTicks s := by
  simp [bitTicks]

/-! ### Attempts (R154, R160, R173) -/

theorem mapLine_advance_attempt {t : Tick} {s : State} {id : SlotId} (h : selectSlot (advance t s) = some id) :
    beginAttempt (advance t s) = mapLine (fun l => { l with
      attempt := some
        { slot := id, kind := id.kind, payload := (slotPayload (advance t s) t id).getD [], sof := t, withdrawn := false
          tagSent := (advance t s).uptime + bitTicks s * tagBits id.cls s.line.number }
      lastSof := t, quiet := 0, idleAt := none
      state := if l.state = .listenAnnouncing then .listenAnnouncing else .arbitrating }) (advance t s) := by
  simp only [beginAttempt, h, advance_tick, advance_bitTicks, advance_line, Line.progress_number]

end Sys2Proof.Machine

namespace Sys2Proof.Machine

/-! ### Settling O47 -/

/-- A byte of the detail of a NOTICE, at its place in the payload (spec/09, Payloads). -/
theorem byteAt_detail {p d : List Byte} (h : p.drop 2 = d) (k : Nat) : byteAt p (k + 2) = byteAt d k := by
  rw [Nat.add_comm, byteAt_drop, h]

theorem u16At_detail {p d : List Byte} (h : p.drop 2 = d) (k : Nat) : u16At p (k + 2) = u16At d k := by
  rw [Nat.add_comm, u16At_drop, h]

/-- The payload `p` of a NOTICE carries `n` in its kind and its detail (spec/09, Payloads). -/
def NoticeLayout (n : Notice) (p : List Byte) : Prop :=
  match n with
  | .driveChange high => p.length = 3 ∧ byteAt p 0 = 1 ∧ byteAt p 2 = high.toNat
  | .motionFault axis cause => p.length = 4 ∧ byteAt p 0 = 2 ∧ byteAt p 2 = axis.val ∧
    byteAt p 3 = [FaultCause.encoder, .overrange, .endMin, .endMax, .following, .notFound].idxOf cause
  | .collision segment kind probe => p.length = 5 ∧ byteAt p 0 = 3 ∧ byteAt p 2 = segment.toNat ∧
    byteAt p 3 = [SegKind.position, .probe, .reference, .rackTravel, .rackInsert].idxOf kind ∧
    byteAt p 4 = probe % 256
  | .zoneConflict station zones late => p.length = 6 ∧ byteAt p 0 = 4 ∧ byteAt p 2 = station % 256 ∧
    u16At p 3 = zones.toNat ∧ byteAt p 5 = late.toNat
  | .probeChangeEnd target r => p.length = 7 ∧ byteAt p 0 = 5 ∧ byteAt p 2 = target % 256 ∧
    byteAt p 3 = [ChangeOutcome.done, .failed, .aborted].idxOf r.outcome ∧ byteAt p 4 = r.phase % 256 ∧
    byteAt p 5 = [ChangeCause.none, .collision, .lidFault, .lockFault, .dropFault, .presenceFault, .pickFault,
      .wrongProbe, .settleFault, .conflict, .motionFault, .drivesOff, .halted, .mute, .lapsed].idxOf r.cause ∧
    byteAt p 6 = r.idRead % 256
  | .permitLapsed hello => p.length = 3 ∧ byteAt p 0 = 6 ∧ byteAt p 2 = hello.toNat
  | .segmentEnd number outcome flushed => p.length = 5 ∧ byteAt p 0 = 7 ∧ byteAt p 2 = number.toNat ∧
    byteAt p 3 = [SegOutcome.arrived, .unsettled, .touched, .missed, .halted, .lapsed, .collision, .conflict,
      .motionFault, .drivesOff].idxOf outcome ∧
    byteAt p 4 = flushed % 256
  | .thermal channel state => p.length = 4 ∧ byteAt p 0 = 8 ∧ byteAt p 2 = channel.val ∧
    byteAt p 3 = [ChannelState.unused, .settling, .valid, .held, .faulted].idxOf state
  | .lineRejoined mutes ms => p.length = 5 ∧ byteAt p 0 = 9 ∧ byteAt p 2 = mutes % 256 ∧ u16At p 3 = ms % 65536

theorem noticeLayout {n : Notice} {p : List Byte} (hk : byteAt p 0 = n.latchIx.val + 1) (hd : p.drop 2 = n.detail)
    (hl : p.length = 2 + n.detail.length) : NoticeLayout n p := by
  have hb := byteAt_detail hd
  have hu := u16At_detail hd
  cases n with
  | driveChange high => exact ⟨hl, hk, by simp [hb 0, Notice.detail]⟩
  | motionFault axis cause =>
    refine ⟨hl, hk, ?_, ?_⟩
    · have := axis.isLt
      simp [hb 0, Notice.detail]; omega
    · simp [hb 1, Notice.detail, FaultCause.code_mod]
  | collision segment kind probe =>
    refine ⟨hl, hk, ?_, ?_, ?_⟩
    · simp [hb 0, Notice.detail, Nat.mod_eq_of_lt segment.isLt]
    · simp [hb 1, Notice.detail, SegKind.code_mod]
    · simp [hb 2, Notice.detail]
  | zoneConflict station zones late =>
    refine ⟨hl, hk, ?_, ?_, ?_⟩
    · simp [hb 0, Notice.detail]
    · simp [hu 1, Notice.detail, Nat.mod_eq_of_lt (BitVec.isLt zones)]
    · simp [hb 3, Notice.detail]
  | probeChangeEnd target r =>
    refine ⟨hl, hk, ?_, ?_, ?_, ?_, ?_⟩
    · simp [hb 0, Notice.detail]
    · simp [hb 1, Notice.detail, ChangeOutcome.code_mod]
    · simp [hb 2, Notice.detail]
    · simp [hb 3, Notice.detail, ChangeCause.code_mod_idxOf]
    · simp [hb 4, Notice.detail]
  | permitLapsed hello => exact ⟨hl, hk, by simp [hb 0, Notice.detail]⟩
  | segmentEnd number outcome flushed =>
    refine ⟨hl, hk, ?_, ?_, ?_⟩
    · simp [hb 0, Notice.detail, Nat.mod_eq_of_lt number.isLt]
    · simp [hb 1, Notice.detail, SegOutcome.code_mod]
    · simp [hb 2, Notice.detail]
  | thermal channel state =>
    refine ⟨hl, hk, ?_, ?_⟩
    · have := channel.isLt
      simp [hb 0, Notice.detail]; omega
    · simp [hb 1, Notice.detail, ChannelState.code_mod]
  | lineRejoined mutes ms =>
    refine ⟨hl, hk, ?_, ?_⟩
    · simp [hb 0, Notice.detail]
    · simp [hu 1, Notice.detail]

theorem muteExpire_due {s : State} {d : Nat} (hl : s.line.state = .mute) (hd : s.line.muteTimer = some d)
    (hle : d ≤ s.uptime) : muteExpire s =
      { s with line := { s.line with state := .listenIntegrating, failures := 0, muteTimer := none } } :=
  if_pos ⟨hl, by rw [due_some hd]; exact decide_eq_true hle⟩

theorem muteExpire_early {s : State} (h : s.line.state ≠ .mute ∨ ∀ d, s.line.muteTimer = some d → s.uptime < d) :
    muteExpire s = s := by
  refine if_neg fun ⟨hl, hd⟩ => h.elim (· hl) fun he => ?_
  simp [not_due he] at hd

/-- An attempt with the line IDLE takes the first occupied slot in order (R154, R173). -/
theorem beginAttempt_idle {s : State} {id : SlotId} {pre post : List SlotId} {payload : List Byte}
    (hi : s.line.state = .idle) (ho : slotOrder = pre ++ id :: post) (hp : ∀ j ∈ pre, occupied s j = false)
    (hs : slotPayload s s.tick id = some payload) :
    beginAttempt s = { s with line := { s.line with
        state := .arbitrating, lastSof := s.tick, quiet := 0, idleAt := none
        attempt := some
          { slot := id, kind := id.kind, payload := payload, sof := s.tick, withdrawn := false
            tagSent := s.uptime + bitTicks s * tagBits id.cls s.line.number } } } := by
  have hj : joined s = true := by rw [joined, hi]; rfl
  have hsel : selectSlot s = some id :=
    find_first ho (fun j hj' => by rw [mayOffer_joined hj, hp j hj'])
      (by rw [mayOffer_joined hj, ← slotPayload_isSome _ s.tick, hs]; rfl)
  simp only [beginAttempt, hsel, hs, mapLine, hi]
  rfl

theorem beginAttempt_empty {s : State} (h : ∀ id, occupied s id = false) : beginAttempt s = s := by
  have hsel : selectSlot s = none := List.find?_eq_none.mpr fun id _ => by simp [mayOffer, h id]
  simp only [beginAttempt, hsel]

theorem not_joined_announcing {s : State} (h : s.line.state = .listenAnnouncing) : joined s = false := by
  rw [joined, h]; rfl

/-- While announcing only the HELLO is offered (R160). -/
theorem beginAttempt_announcing {s : State} (hl : s.line.state = .listenAnnouncing) (hh : s.slots.hello = true) :
    beginAttempt s = { s with line := { s.line with
        lastSof := s.tick, quiet := 0, idleAt := none
        attempt := some
          { slot := .hello, kind := 3, payload := put8 s.axisCount ++ put8 s.station.mode.code, sof := s.tick
            withdrawn := false, tagSent := s.uptime + bitTicks s * tagBits 2 s.line.number } } } := by
  have hj := not_joined_announcing hl
  have hother (id : SlotId) (hid : id ≠ .hello) : mayOffer s id = false := by simp [mayOffer, hj, hid]
  have hsel : selectSlot s = some .hello := find_first (pre := [.touch, .object 0, .object 1, .object 2]) rfl
    (fun j hm => hother j (by rintro rfl; simp at hm)) (by simp [mayOffer, occupied, slotPayload, hh, hl])
  simp only [beginAttempt, hsel, slotPayload, hh, if_pos, Option.getD_some, mapLine, hl]
  rw [← hl]
  rfl

theorem beginAttempt_silent {s : State} (hl : s.line.state = .listenAnnouncing) (hh : s.slots.hello = false) :
    beginAttempt s = s := by
  have hj := not_joined_announcing hl
  have hsel : selectSlot s = none := List.find?_eq_none.mpr fun id _ => by
    by_cases hid : id = .hello
    · simp [hid, mayOffer, occupied, slotPayload, hh]
    · simp [mayOffer, hj, hid]
  simp only [beginAttempt, hsel]

theorem lineIdle_of_idle {s : State} (hi : s.line.state = .idle) (ha : s.line.attempt = none) : lineIdle s = true := by
  simp [lineIdle, hi, ha]

theorem lineIdle_announcing {s : State} (hl : s.line.state = .listenAnnouncing) :
    lineIdle s = (s.line.attempt.isNone && s.due s.line.idleAt) := by
  simp [lineIdle, hl, show (LineState.listenAnnouncing == LineState.idle) = false from rfl]

/-- What ATTEMPT_START does once time has passed (R154, R173). -/
def startAttempt (s : State) : State := if lineIdle s then beginAttempt s else s

theorem exec_attemptStart {t : Tick} {s u : State} (hr : s.inReset = false) (h : startAttempt (advance t s) = u) :
    exec (.attemptStart t) s = .next (finish u) :=
  next_timed hr h

theorem startAttempt_none {s : State} (h : s.line.attempt ≠ none ∨
    (s.line.state ≠ .idle ∧ s.line.state ≠ .listenAnnouncing) ∨ (s.line.state = .listenAnnouncing ∧
      (s.slots.hello = false ∨ ∀ d, s.line.idleAt = some d → s.uptime < d))) : startAttempt s = s := by
  rcases h with ha | ⟨hi, hl⟩ | ⟨hl, hh | hd⟩
  · refine if_neg ?_
    simp [lineIdle, Option.isNone_eq_false_iff.mpr (Option.isSome_iff_ne_none.mpr ha)]
  · refine if_neg ?_
    simp [lineIdle, hi, hl]
  · rw [startAttempt, beginAttempt_silent hl hh, ite_self]
  · refine if_neg ?_
    simp [lineIdle_announcing hl, not_due hd]

/-- Time does not enter or leave a state of the line in which the station is not joined. -/
theorem advance_lineState_iff {t : Tick} {s : State} {x : LineState} (hx : x.joined = false) :
    (advance t s).line.state = x ↔ s.line.state = x := by
  rw [advance_line]
  exact Line.progress_state_eq_iff _ _ x hx

theorem advance_lineNumber (t : Tick) (s : State) : (advance t s).line.number = s.line.number := by simp

/-- Settles O47: the line by what each command does to it, the payload of every slot by the layout of its bytes. -/
theorem listenEndsByQuietAndAttemptsBegin : Obligations.ListenEndsByQuietAndAttemptsBegin := by
  refine ⟨fun t s hr => ⟨?_, ?_, ?_, ?_, ?_, ?_, ?_, ?_⟩, rfl, mem_slotOrder, by decide, classOf_kind,
    fun id n h1 h30 => tagBits_eq id.cls id.cls_lt n (by omega) h1 id.cls_ne_zero, fun s sof => ?_⟩
  · intro d hl hd hle
    exact next_timed hr (muteExpire_due ((advance_lineState_iff rfl).mpr hl) (by simp [hd]) hle)
  · intro h
    refine next_timed hr (muteExpire_early (h.imp (mt (advance_lineState_iff rfl).mp) fun hd d he => hd d ?_))
    simpa using he
  · intro hl
    exact next_timed hr (if_pos ((advance_lineState_iff rfl).mpr hl))
  · intro hl
    exact next_timed hr (if_neg (mt (advance_lineState_iff rfl).mp hl))
  · intro id pre post payload hi ha ho hp hs
    refine exec_attemptStart hr ((if_pos (lineIdle_of_idle hi ha)).trans ?_)
    rw [← advance_tick t s] at hs
    rw [beginAttempt_idle hi ho hp hs, advance_tick, advance_bitTicks, advance_lineNumber]
  · intro hi ha hn
    exact exec_attemptStart hr ((if_pos (lineIdle_of_idle hi ha)).trans (beginAttempt_empty hn))
  · intro d hl ha hd hle hh
    have hi : lineIdle (advance t s) = true := by
      rw [lineIdle_announcing hl, ha, due_some hd, decide_eq_true hle]
      rfl
    refine exec_attemptStart hr ((if_pos hi).trans ?_)
    rw [beginAttempt_announcing hl hh, advance_tick, advance_bitTicks, advance_lineNumber]
    rfl
  · intro h
    exact exec_attemptStart hr (startAttempt_none h)
  · refine ⟨carries_touch s sof, carries_object s sof, carries_hello s sof, carries_release s sof, carries_claim s sof,
      carries_companion s sof, carries_point s sof, carries_reply s sof, carries_temp s sof, carries_status s sof, ?_⟩
    have hn := carries_notice s sof
    unfold Carries at hn ⊢
    cases h : s.slots.notice with
    | none => simpa only [h] using hn
    | some f =>
      simp only [h] at hn ⊢
      obtain ⟨p, hp, hc, hk, hd, hlen⟩ := hn
      exact ⟨p, hp, hc, noticeLayout hk hd hlen⟩

end Sys2Proof.Machine

/-! The bits of a frame: what a stuffed sequence is to its receiver (spec/08, The frame on the line). -/

namespace Sys2Proof.Machine

/-! ### Numbers and bits -/

@[simp] theorem bitsOf_length (w n : Nat) : (bitsOf w n).length = w := by
  induction w with
  | zero => rfl
  | succ w ih => simp [bitsOf, ih]

theorem foldl_bitsOf (w n a : Nat) :
    (bitsOf w n).foldl (fun n b => 2 * n + b.toNat) a = a * 2 ^ w + n % 2 ^ w := by
  induction w generalizing a with
  | zero => simp [bitsOf, Nat.mod_one]
  | succ w ih =>
    rw [bitsOf, List.foldl_cons, ih, Nat.toNat_testBit, Nat.mod_pow_succ]
    ring

theorem bitsNat_bitsOf {w n : Nat} (h : n < 2 ^ w) : bitsNat (bitsOf w n) = n := by
  rw [bitsNat, foldl_bitsOf, Nat.mod_eq_of_lt h]
  omega

/-- The last bit of a number stands alone at the end of its field. -/
theorem bitsOf_succ_last (w n : Nat) : bitsOf (w + 1) n = bitsOf w (n / 2) ++ [n % 2 == 1] := by
  induction w with
  | zero => simp [bitsOf, Nat.testBit_zero, beq_eq_decide]
  | succ w ih => rw [bitsOf, ih, bitsOf, Nat.testBit_succ, List.cons_append]

/-- The bits of the bytes of a payload. -/
theorem length_flatMap_bitsOf (payload : List Byte) :
    (payload.flatMap fun b => bitsOf 8 b.toNat).length = 8 * payload.length := by
  induction payload with
  | nil => rfl
  | cons b l ih => simp [ih]; omega

theorem bytesOf_flatMap (payload : List Byte) :
    bytesOf payload.length (payload.flatMap fun b => bitsOf 8 b.toNat) = payload := by
  induction payload with
  | nil => rfl
  | cons b l ih =>
    have hb : bitsNat (bitsOf 8 b.toNat) = b.toNat := bitsNat_bitsOf b.isLt
    rw [List.length_cons, List.flatMap_cons, bytesOf, List.take_left' (bitsOf_length 8 _),
      List.drop_left' (bitsOf_length 8 _), ih, hb, BitVec.ofNat_toNat, BitVec.setWidth_eq]

/-! ### Stuffing as the receiver meets it (R152)

A transmitter inserts a stuff bit behind the bit that makes it due, a receiver removes it before the bit that follows it.
`sent` is the transmitted sequence cut after a frame bit, so that the two agree on every initial part of the frame bits. -/

/-- The run that counts for the next frame bit: none behind a stuff bit. -/
def cleared (run : Option (Bool × Nat)) : Option (Bool × Nat) :=
  match stuffDue run with
  | some _ => none
  | none => run

/-- The stuff bit that is due after a run. -/
def dueBit (run : Option (Bool × Nat)) : List Bool :=
  match stuffDue run with
  | some p => [!p]
  | none => []

/-- The run after one more frame bit. -/
def runNext (run : Option (Bool × Nat)) (b : Bool) : Option (Bool × Nat) := some (b, runAfter (cleared run) b)

/-- The run after frame bits. -/
def runOf (run : Option (Bool × Nat)) (bits : List Bool) : Option (Bool × Nat) := bits.foldl runNext run

/-- Frame bits as they are sent after a run, up to the last frame bit: each stuff bit stands before the next frame
bit. -/
def sent (run : Option (Bool × Nat)) : List Bool → List Bool
  | [] => []
  | b :: rest => dueBit run ++ b :: sent (runNext run b) rest

theorem runOf_append (run : Option (Bool × Nat)) (xs ys : List Bool) :
    runOf run (xs ++ ys) = runOf (runOf run xs) ys := List.foldl_append

theorem sent_append (run : Option (Bool × Nat)) (xs ys : List Bool) :
    sent run (xs ++ ys) = sent run xs ++ sent (runOf run xs) ys := by
  induction xs generalizing run with
  | nil => rfl
  | cons b xs ih => simp only [List.cons_append, sent, runOf, List.foldl_cons, ih, List.append_assoc]

theorem stuff_cons (run : Option (Bool × Nat)) (b : Bool) (xs : List Bool) (h : stuffDue run = none) :
    stuff run (b :: xs) = b :: (dueBit (runNext run b) ++ stuff (cleared (runNext run b)) xs) := by
  have hc : cleared run = run := by simp only [cleared, h]
  rw [runNext, hc, stuff]
  split
  next h6 => rw [h6]; rfl
  next h6 => simp [dueBit, cleared, stuffDue, h6]

theorem stuffDue_cleared (run : Option (Bool × Nat)) : stuffDue (cleared run) = none := by
  cases h : stuffDue run with
  | none => rw [cleared, h]; exact h
  | some p => rw [cleared, h]; rfl

theorem runNext_cleared (run : Option (Bool × Nat)) (b : Bool) : runNext (cleared run) b = runNext run b := by
  have h : cleared (cleared run) = cleared run := by
    rw [cleared.eq_1 (cleared run), stuffDue_cleared]
  rw [runNext, h, runNext]

/-- A stuffed sequence is the sequence as its receiver takes it, and the stuff bit then due. -/
theorem dueBit_append_stuff (run : Option (Bool × Nat)) (xs : List Bool) :
    dueBit run ++ stuff (cleared run) xs = sent run xs ++ dueBit (runOf run xs) := by
  induction xs generalizing run with
  | nil => simp [stuff, sent, runOf]
  | cons b xs ih =>
    rw [stuff_cons _ _ _ (stuffDue_cleared run), runNext_cleared, ih]
    simp [sent, runOf]

theorem stuff_eq_sent (xs : List Bool) : stuff none xs = sent none xs ++ dueBit (runOf none xs) :=
  dueBit_append_stuff none xs

/-- Frame bits behind a stuffed sequence are sent as they are, the stuff bit due before them with that sequence. -/
theorem stuff_append_last (xs : List Bool) (b : Bool) (rest : List Bool) :
    stuff none xs ++ b :: rest = sent none (xs ++ [b]) ++ rest := by
  rw [stuff_eq_sent, sent_append]
  simp [sent]

/-- A receiver takes back the frame bits that were sent, whatever follows them (R150, R152). -/
theorem takeBits_sent (run : Option (Bool × Nat)) (xs rest : List Bool) :
    takeBits xs.length run (sent run xs ++ rest) = .ok { bits := xs, run := runOf run xs, rest := rest } := by
  induction xs generalizing run with
  | nil => cases rest <;> rfl
  | cons b xs ih =>
    have hread : ∀ r, stuffDue r = none →
        takeBits (xs.length + 1) r (b :: (sent (runNext r b) xs ++ rest)) =
          .ok { bits := b :: xs, run := runOf (runNext r b) xs, rest := rest } := by
      intro r hr
      have hc : some (b, runAfter r b) = runNext r b := by simp only [runNext, cleared, hr]
      simp only [takeBits, hr, hc, ih]
    cases h : stuffDue run with
    | none =>
      simp only [sent, dueBit, h, List.nil_append, List.cons_append, List.length_cons, hread run h]
      rfl
    | some p =>
      have hn := runNext_cleared run b
      simp only [cleared, h] at hn
      simp only [sent, dueBit, h, List.cons_append, List.nil_append, List.length_cons, takeBits, Bool.not_eq_self,
        if_false]
      rw [← hn]
      exact (hread none rfl).trans (by rw [hn]; rfl)

/-! ### The length of a stuffed sequence (R152) -/

theorem length_le_stuff (run : Option (Bool × Nat)) (xs : List Bool) : xs.length ≤ (stuff run xs).length := by
  induction xs generalizing run with
  | nil => simp
  | cons b xs ih =>
    have h1 := ih none
    have h2 := ih (some (b, runAfter run b))
    rw [stuff]
    split <;> simp <;> omega

/-- The bits of a run that count. -/
def runCount (run : Option (Bool × Nat)) : Nat := (run.map Prod.snd).getD 0

theorem runAfter_le (run : Option (Bool × Nat)) (b : Bool) : runAfter run b ≤ runCount run + 1 := by
  cases run with
  | none => simp [runAfter]
  | some r =>
    obtain ⟨p, n⟩ := r
    simp only [runAfter, runCount, Option.map_some, Option.getD_some]
    split <;> omega

/-- Each stuff bit answers for six frame bits, those of the run before the sequence among them. -/
theorem stuff_length_le (run : Option (Bool × Nat)) (xs : List Bool) :
    6 * (stuff run xs).length ≤ 7 * xs.length + runCount run := by
  induction xs generalizing run with
  | nil => simp [stuff]
  | cons b xs ih =>
    have h1 := ih none
    have h2 := ih (some (b, runAfter run b))
    have hr := runAfter_le run b
    simp only [runCount, Option.map_none, Option.getD_none, Option.map_some, Option.getD_some] at h1 h2 hr ⊢
    rw [stuff]
    split <;> simp only [List.length_cons] <;> omega

/-! ### Runs of equal bits on the line (R152) -/

/-- After `m` bits equal to `p`, no run in the bits that follow is longer than seven. -/
def RunsBounded (p : Bool) (m : Nat) : List Bool → Prop
  | [] => True
  | b :: rest => (if b = p then m + 1 else 1) ≤ 7 ∧ RunsBounded b (if b = p then m + 1 else 1) rest

/-- The bits on the line that end with `p` and `m` equal bits, as `stuff` counts them: the run may begin with a stuff
bit, which it does not count. -/
def LineRun (run : Option (Bool × Nat)) (p : Bool) (m : Nat) : Prop :=
  match run with
  | none => m ≤ 1
  | some (q, n) => q = p ∧ m ≤ n + 1 ∧ n ≤ 5

theorem runsBounded_stuff (run : Option (Bool × Nat)) (p : Bool) (m : Nat) (xs : List Bool) (h : LineRun run p m) :
    RunsBounded p m (stuff run xs) := by
  induction xs generalizing run p m with
  | nil => exact trivial
  | cons b xs ih =>
    have hrun : (if b = p then m + 1 else 1) ≤ runAfter run b + 1 ∧ runAfter run b ≤ 6 := by
      cases run with
      | none => simp only [LineRun] at h; simp only [runAfter]; split <;> omega
      | some r =>
        obtain ⟨q, n⟩ := r
        obtain ⟨rfl, hm, hn⟩ := h
        simp only [runAfter, eq_comm (a := q)]
        split <;> omega
    rw [stuff]
    split
    next h6 =>
      refine ⟨by omega, ?_, ih none _ _ ?_⟩
      · simp
      · simp [LineRun]
    next h6 => exact ⟨by omega, ih _ _ _ ⟨rfl, hrun.1, by omega⟩⟩

theorem RunsBounded.suffix {p : Bool} {m : Nat} {pre l : List Bool} (h : RunsBounded p m (pre ++ l)) :
    ∃ q k, RunsBounded q k l := by
  induction pre generalizing p m with
  | nil => exact ⟨p, m, h⟩
  | cons b pre ih => exact ih h.2

theorem RunsBounded.not_replicate {p b : Bool} {m : Nat} {l : List Bool}
    (h : RunsBounded p m (List.replicate 8 b ++ l)) : False := by
  simp only [List.replicate, List.cons_append, List.nil_append, RunsBounded, if_true] at h
  split at h <;> omega

/-- Eight bits of the line in a row are not all equal. -/
theorem mem_of_stuff {bits pre mid post : List Bool} (h : stuff none bits = pre ++ mid ++ post) (hl : mid.length = 8)
    (b : Bool) : b ∈ mid := by
  by_contra hb
  have hall : mid = List.replicate 8 (!b) :=
    List.eq_replicate_iff.mpr ⟨hl, fun c hc => by rw [Bool.eq_not]; rintro rfl; exact hb hc⟩
  have hbound := runsBounded_stuff none true 0 bits (Nat.zero_le 1)
  rw [h, hall, List.append_assoc] at hbound
  obtain ⟨q, k, hk⟩ := hbound.suffix
  exact hk.not_replicate

end Sys2Proof.Machine

/-! What a receiver makes of the frames a transmitter sends (spec/08, The frame on the line). -/

namespace Sys2Proof.Machine

/-- The 19 bits before the payload: start of frame, tag, kind and length (R150). -/
def headerBits (cls sender kind len : Nat) : List Bool :=
  false :: bitsOf 3 cls ++ bitsOf 5 sender ++ bitsOf 5 kind ++ bitsOf 5 len

section
variable {cls sender kind len : Nat} (hc : cls < 8) (hs : sender < 32) (hk : kind < 32)

@[simp] theorem headerBits_length (cls sender kind len : Nat) : (headerBits cls sender kind len).length = 19 := by
  simp [headerBits]

theorem takeBits_header (cls sender kind len : Nat) (rest : List Bool) :
    takeBits 19 none (sent none (headerBits cls sender kind len) ++ rest) =
      .ok { bits := headerBits cls sender kind len, run := runOf none (headerBits cls sender kind len)
            rest := rest } :=
  headerBits_length cls sender kind len ▸ takeBits_sent none (headerBits cls sender kind len) rest

/-- The fields of a header, each at its place. -/
theorem headerBits_fields (cls sender kind len : Nat) :
    ((headerBits cls sender kind len).drop 1).take 3 = bitsOf 3 cls ∧
    ((headerBits cls sender kind len).drop 4).take 5 = bitsOf 5 sender ∧
    ((headerBits cls sender kind len).drop 9).take 5 = bitsOf 5 kind ∧
    ((headerBits cls sender kind len).drop 14).take 5 = bitsOf 5 len :=
  ⟨rfl, rfl, rfl, rfl⟩

theorem frameBody_eq (cls sender kind : Nat) (payload : List Byte) :
    false :: frameBody cls sender kind payload =
      headerBits cls sender kind payload.length ++ payload.flatMap fun b => bitsOf 8 b.toNat := by
  simp [frameBody, headerBits]

/-- A length above 28 is an error as soon as its field is complete. -/
theorem receiveBits_long (h28 : 28 < len) (h32 : len < 32) (rest : List Bool) :
    receiveBits (sent none (headerBits cls sender kind len) ++ rest) = .error .length := by
  obtain ⟨-, -, -, hl⟩ := headerBits_fields cls sender kind len
  simp only [receiveBits, receiveChecked, takeBits_header, hl, bitsNat_bitsOf (show len < 2 ^ 5 from h32), if_pos h28]

include hc hs hk in
/-- What a receiver has of a sent header, payload and check, whatever follows (R150). -/
theorem receiveChecked_sent (payload : List Byte) (hl : payload.length ≤ 28) (check : BitVec 16) (rest : List Bool) :
    let bits := false :: frameBody cls sender kind payload ++ bitsOf 16 check.toNat
    receiveChecked (sent none bits ++ rest) =
      if check = checkOf (frameBody cls sender kind payload) then
        .ok { frame := { cls := cls, sender := sender, kind := kind, payload := payload }
              run := runOf none bits, rest := rest }
      else .error .check := by
  intro bits
  obtain ⟨hfc, hfs, hfk, hfl⟩ := headerBits_fields cls sender kind payload.length
  have hlen := length_flatMap_bitsOf payload
  have hbits : bits = headerBits cls sender kind payload.length ++
      ((payload.flatMap fun b => bitsOf 8 b.toNat) ++ bitsOf 16 check.toNat) := by
    rw [← List.append_assoc, ← frameBody_eq]
  have hbody : ((payload.flatMap fun b => bitsOf 8 b.toNat) ++ bitsOf 16 check.toNat).length =
      8 * payload.length + 16 := by
    rw [List.length_append, hlen, bitsOf_length]
  have hcover : (headerBits cls sender kind payload.length).drop 1 ++ (payload.flatMap fun b => bitsOf 8 b.toNat) =
      frameBody cls sender kind payload := by
    have h := congrArg (List.drop 1) (frameBody_eq cls sender kind payload)
    rw [List.drop_append_of_le_length (by simp)] at h
    exact h.symm
  have hrun : runOf (runOf none (headerBits cls sender kind payload.length))
      ((payload.flatMap fun b => bitsOf 8 b.toNat) ++ bitsOf 16 check.toNat) = runOf none bits := by
    rw [hbits]
    exact (runOf_append none _ _).symm
  have hchk : BitVec.ofNat 16 (bitsNat (bitsOf 16 check.toNat)) = check := by
    rw [bitsNat_bitsOf check.isLt, BitVec.ofNat_toNat, BitVec.setWidth_eq]
  rw [← hrun, hbits, sent_append, List.append_assoc, receiveChecked, takeBits_header]
  simp only [hfl, bitsNat_bitsOf (show payload.length < 2 ^ 5 by omega), if_neg (show ¬28 < payload.length by omega)]
  rw [← hbody, takeBits_sent]
  simp only [← hlen, List.take_left, List.drop_left, hchk, hcover, hfc, hfs, hfk,
    bitsNat_bitsOf (show cls < 2 ^ 3 from hc), bitsNat_bitsOf (show sender < 2 ^ 5 from hs),
    bitsNat_bitsOf (show kind < 2 ^ 5 from hk), bytesOf_flatMap, ne_eq, ite_not, eq_comm (a := check)]

end

/-- The stuff bit due after the check is removed before the acknowledge slot. -/
theorem receiveEnd_due (f : LineFrame) (run : Option (Bool × Nat)) (ack : Bool) (tail : List Bool) :
    receiveEnd { frame := f, run := run, rest := dueBit run ++ ack :: tail } = receiveTail f (ack :: tail) := by
  cases h : stuffDue run <;> simp [receiveEnd, dueBit, h]

theorem receiveTail_end (f : LineFrame) (ack : Bool) : receiveTail f (ack :: List.replicate 7 true) = .ok f := rfl

theorem receiveTail_dominant (f : LineFrame) (ack : Bool) {tail : List Bool}
    (h : ∃ i, i < 7 ∧ tail[i]? = some false) : receiveTail f (ack :: tail) = .error .format := by
  obtain ⟨i, hi, ht⟩ := h
  refine if_pos (List.any_eq_true.mpr ⟨false, ?_, rfl⟩)
  exact List.mem_of_getElem? (i := i) (by rw [List.getElem?_take_of_lt hi, ht])

set_option maxRecDepth 8000 in
/-- The check register over the nine digits (R153). -/
theorem checkOf_digits : checkOf ((List.range 9).flatMap fun i => bitsOf 8 (49 + i)) = 0x29B1 := by decide

/-- Settles O51: the receiver takes back field by field what `sent` says of the stuffed sequence. -/
theorem receiverTakesExactlyWhatIsSent : Obligations.ReceiverTakesExactlyWhatIsSent := by
  refine ⟨fun cls sender kind payload ack hc hs hk hl => ?_, fun bits pre mid post h h8 =>
      ⟨mem_of_stuff h h8 true, mem_of_stuff h h8 false⟩, fun cls sender kind len rest _ _ _ h28 h32 => ?_,
    fun cls sender kind len rest _ _ _ h28 h32 => ?_, fun cls sender kind payload check rest hc hs hk hl => ?_,
    fun rest => rfl, checkOf_digits⟩
  · intro bits
    have hsent := stuff_eq_sent (stuffable (frameBody cls sender kind payload))
    have hend (tail : List Bool) : receiveBits (bits ++ ack :: tail) =
        receiveTail { cls := cls, sender := sender, kind := kind, payload := payload } (ack :: tail) := by
      rw [receiveBits, show bits = _ from hsent, List.append_assoc, stuffable,
        receiveChecked_sent hc hs hk payload hl, if_pos rfl]
      exact receiveEnd_due _ _ _ _
    have hlen : (stuffable (frameBody cls sender kind payload)).length = 35 + 8 * payload.length := by
      simp only [stuffable, frameBody_eq, List.length_append, headerBits_length, length_flatMap_bitsOf, bitsOf_length]
      omega
    have hmin := length_le_stuff none (stuffable (frameBody cls sender kind payload))
    have hmax := stuff_length_le none (stuffable (frameBody cls sender kind payload))
    rw [hlen] at hmin hmax
    refine ⟨(hend _).trans (receiveTail_end _ ack), rfl, hmin, ?_, fun tail h =>
      (hend tail).trans (receiveTail_dominant _ ack h)⟩
    simp only [runCount, Option.map_none, Option.getD_none] at hmax
    change (stuff none (stuffable (frameBody cls sender kind payload))).length ≤ _
    omega
  · rw [stuff_eq_sent, List.append_assoc]
    exact receiveBits_long h28 h32 _
  · rw [stuff_append_last, List.append_assoc _ (bitsOf 4 _), ← bitsOf_succ_last]
    exact receiveBits_long h28 h32 rest
  · intro body rcvd
    have hrcvd : rcvd = sent none (false :: body ++ bitsOf 16 check.toNat) ++ rest := by
      rw [bitsOf_succ_last 15 check.toNat, ← List.append_assoc]
      exact stuff_append_last _ _ rest
    have hchecked := receiveChecked_sent hc hs hk payload hl check rest
    refine ⟨fun hne => ?_, ?_⟩ <;> rw [hrcvd]
    · rw [receiveBits, hchecked, if_neg hne]
    · rw [checkedSender, hchecked]
      change _ = if check = checkOf (frameBody cls sender kind payload) then some sender else none
      split_ifs <;> rfl

end Sys2Proof.Machine

/-! What auto-release and the end of the head do, written out: the reasoning rules for every cause that stops or ends a
segment. -/

namespace Sys2Proof.Machine

/-! ### Auto-release beside what it does not read (R81, R100) -/

theorem autoRelease_ite (s : State) : autoRelease s =
    if firmZones s &&& ~~~keepSet s = 0 ∨ joined s = false then s
    else { freeHeldBy s.line.number (firmZones s &&& ~~~keepSet s) s with
      slots := { s.slots with
        release := s.slots.release.put (inFlight s .release) uniteZones (firmZones s &&& ~~~keepSet s) } } := by
  unfold autoRelease releaseZones
  rfl

theorem autoRelease_latchNotice (n : Notice) (s : State) :
    autoRelease (latchNotice n s) = latchNotice n (autoRelease s) := by
  rw [autoRelease_ite s, apply_ite (latchNotice n)]
  exact autoRelease_ite (latchNotice n s)

theorem autoRelease_setChange (c : Change) (s : State) : autoRelease (setChange c s) = setChange c (autoRelease s) := by
  rw [autoRelease_ite s, apply_ite (setChange c)]
  exact autoRelease_ite (setChange c s)

/-- The state with another view of the bed and another RELEASE slot. -/
def withView (v : Vector (Option Hold) 16) (sl : Slot ZoneSet) (s : State) : State :=
  { s with zones := { s.zones with view := v }, slots := { s.slots with release := sl } }

/-- A zone of the stationary set that is still FIRM to the station stays in the stationary set, whatever else has left
the view. -/
theorem has_stationarySet_withView {v : Vector (Option Hold) 16} {sl : Slot ZoneSet} {s : State} {pos : Vector Int 4}
    {z : Fin 16} (h : ZoneSet.has (stationarySet s pos) z = true)
    (hf : ZoneSet.has (firmZones (withView v sl s)) z = true) :
    ZoneSet.has (stationarySet (withView v sl s) pos) z = true := by
  have hr : reachAxis? (withView v sl s) = reachAxis? s := rfl
  have hz : zoneAxis? (withView v sl s) = zoneAxis? s := rfl
  have hu (o : Option (Fin 4)) : unreferenced (withView v sl s) o = unreferenced s o := rfl
  unfold stationarySet at h ⊢
  rw [hr]
  cases hra : reachAxis? s with
  | none => simp [hra] at h
  | some r =>
    simp only [hra, hu, hz] at h ⊢
    split
    · exact hf
    · rename_i hn
      rw [if_neg hn] at h
      exact h

theorem has_keepSet_withView {v : Vector (Option Hold) 16} {sl : Slot ZoneSet} {s : State} {z : Fin 16}
    (h : ZoneSet.has (keepSet s) z = true) (hf : ZoneSet.has (firmZones (withView v sl s)) z = true) :
    ZoneSet.has (keepSet (withView v sl s)) z = true := by
  have hd : demands (withView v sl s) = demands s := rfl
  have hm : (withView v sl s).station.mode = s.station.mode := rfl
  have hq : (withView v sl s).motion.queue = s.motion.queue := rfl
  unfold keepSet at h ⊢
  rw [hm, hd, hq]
  split
  · rename_i hset
    simp [hset] at h
  · rename_i hset
    rw [if_neg hset, ZoneSet.has_or, Bool.or_eq_true] at h
    rw [ZoneSet.has_or, Bool.or_eq_true]
    refine h.imp (fun hst => has_stationarySet_withView hst hf) fun hn => ?_
    cases hseg : s.motion.queue with
    | nil => simp [hseg] at hn
    | cons seg rest =>
      simp only [hseg] at hn ⊢
      cases hne : seg.needed with
      | some x => rw [hne] at hn; exact hn
      | none =>
        simp only [hne, Option.getD_none] at hn ⊢
        have hr : reachAxis? (withView v sl s) = reachAxis? s := rfl
        unfold neededSet at hn ⊢
        rw [hd, hr]
        cases hk : seg.kind
        case reference =>
          simp only [hk] at hn ⊢
          split
          · rename_i h0
            simp [h0] at hn
          · rename_i h0
            rw [if_neg h0] at hn
            exact has_stationarySet_withView hn hf
        all_goals
          simp only [hk] at hn ⊢
          exact hn

/-- A second auto-release in a row finds nothing to free. -/
theorem autoRelease_autoRelease (s : State) : autoRelease (autoRelease s) = autoRelease s := by
  cases hj : joined s with
  | false => rw [autoRelease_unjoined hj, autoRelease_unjoined hj]
  | true =>
    refine if_pos (.inl (ZoneSet.eq_zero_iff.mpr fun z => ?_))
    rw [Bool.eq_false_iff]
    intro hz
    obtain ⟨hfirm, hkeep⟩ := has_and_compl.mp hz
    have hfirst := autoRelease_kept hj hfirm
    rw [autoRelease_eq] at hfirm hkeep
    exact Bool.eq_false_iff.mp hkeep (has_keepSet_withView hfirst hfirm)

/-- The end of a change releases what auto-release would have released before it. -/
theorem endChange_autoRelease (r : ChangeResult) (s : State) : endChange r (autoRelease s) = endChange r s := by
  simp only [endChange, autoRelease_probes, autoRelease_latchNotice, autoRelease_setChange, autoRelease_autoRelease]

theorem autoRelease_endChange (r : ChangeResult) (s : State) : autoRelease (endChange r s) = endChange r s :=
  autoRelease_autoRelease _

/-- The end of a change, by the fields it sets (R146). -/
theorem endChange_eq (r : ChangeResult) (s : State) : endChange r s =
    latchNotice (.probeChangeEnd s.probes.change.target r)
      (setChange (Change.idle s.probes.change.last) (autoRelease s)) := by
  simp only [endChange, autoRelease_latchNotice, autoRelease_setChange]

end Sys2Proof.Machine

namespace Sys2Proof.Machine

/-! ### The claim that a head leaves (R90, R155) -/

/-- The claim as the end of the head leaves it: one made for this head is withdrawn, or outlives it in flight. -/
def endedClaim (s : State) : State :=
  match s.zones.claim with
  | .queued zones false =>
    if inFlight s .claim then setClaim (.queued zones true) (holdWithdrawal s)
    else setClaim .none { s with slots := { s.slots with claim := none } }
  | _ => s

/-- `endedClaim` changes the claim, its slot and the attempt in flight only. -/
theorem endedClaim_eq (s : State) : endedClaim s = { s with
    zones := { s.zones with claim := (endedClaim s).zones.claim }
    slots := { s.slots with claim := (endedClaim s).slots.claim }
    line := { s.line with attempt := (endedClaim s).line.attempt } } := by
  unfold endedClaim
  split
  · split <;> rfl
  · rfl

/-- What happens to the own claim does not depend on the segments that are about to leave. -/
theorem setQueue_headEndsClaim (q : List Segment) (s : State) :
    setQueue q (headEndsClaim s) = setQueue q (endedClaim s) := by
  unfold headEndsClaim endedClaim
  cases hc : s.zones.claim with
  | queued x o =>
    cases o with
    | true => rfl
    | false =>
      by_cases hf : inFlight s .claim = true
      · simp only [hf, if_true]
      · simp only [hf]
        rw [withdrawClaim_queued hc (by simpa using hf)]
        rfl
  | none => rfl
  | window x b => rfl

theorem endedClaim_motion (s : State) : (endedClaim s).motion = s.motion := by rw [endedClaim_eq]
theorem endedClaim_probes (s : State) : (endedClaim s).probes = s.probes := by rw [endedClaim_eq]
theorem endedClaim_notices (s : State) : (endedClaim s).notices = s.notices := by rw [endedClaim_eq]

/-- The segments `q` are what is left of the queue; the claim is left as the head's end leaves it. -/
def headGone (q : List Segment) (s : State) : State := setQueue q (endedClaim s)

@[simp] theorem headGone_queue (q : List Segment) (s : State) : (headGone q s).motion.queue = q := rfl
@[simp] theorem headGone_motion (q : List Segment) (s : State) :
    (headGone q s).motion = { s.motion with queue := q } := by rw [headGone, setQueue, endedClaim_motion]
@[simp] theorem headGone_probes (q : List Segment) (s : State) : (headGone q s).probes = s.probes :=
  endedClaim_probes s
@[simp] theorem headGone_notices (q : List Segment) (s : State) : (headGone q s).notices = s.notices :=
  endedClaim_notices s

theorem headGone_zones (q : List Segment) (s : State) :
    (headGone q s).zones = { s.zones with claim := (headGone q s).zones.claim } := by
  rw [headGone, endedClaim_eq]
  rfl

theorem headGone_slots (q : List Segment) (s : State) :
    (headGone q s).slots = { s.slots with claim := (headGone q s).slots.claim } := by
  rw [headGone, endedClaim_eq]
  rfl

theorem headGone_line (q : List Segment) (s : State) :
    (headGone q s).line = { s.line with attempt := (headGone q s).line.attempt } := by
  rw [headGone, endedClaim_eq]
  rfl

/-- Which segments stood in the queue makes no difference once they have left. -/
theorem headGone_setQueue (q q' : List Segment) (s : State) : headGone q (setQueue q' s) = headGone q s := by
  have hc : (setQueue q' s).zones.claim = s.zones.claim := rfl
  have hf : inFlight (setQueue q' s) .claim = inFlight s .claim := rfl
  unfold headGone endedClaim
  rw [hc, hf]
  split
  · split <;> rfl
  · rfl

/-- The claim record that the head's end leaves (R90, R155). -/
theorem headGone_claim (q : List Segment) (s : State) : (headGone q s).zones.claim = match s.zones.claim with
    | .queued x false => if inFlight s .claim = true then .queued x true else .none
    | c => c := by
  change (endedClaim s).zones.claim = _
  unfold endedClaim
  cases hc : s.zones.claim with
  | queued x o => cases o <;> by_cases hf : inFlight s .claim = true <;> simp [hf, setClaim, hc]
  | none => simpa using hc
  | window x b => simpa using hc

theorem headGone_claimSlot (q : List Segment) (s : State) : (headGone q s).slots.claim = match s.zones.claim with
    | .queued _ false => if inFlight s .claim = true then s.slots.claim else none
    | _ => s.slots.claim := by
  change (endedClaim s).slots.claim = _
  unfold endedClaim
  cases hc : s.zones.claim with
  | queued x o => cases o <;> by_cases hf : inFlight s .claim = true <;> simp [hf, setClaim, holdWithdrawal]
  | none => rfl
  | window x b => rfl

theorem motionOnly_headGone (q : List Segment) (s : State) : MotionOnly s (headGone q s) := by
  have hsame (t : State) (ht : t = { s with
      zones := { s.zones with claim := t.zones.claim }, slots := { s.slots with claim := t.slots.claim }
      line := { s.line with attempt := t.line.attempt } }) : MotionOnly s (setQueue q t) := by
    rw [ht]
    constructor <;> rfl
  exact hsame _ (endedClaim_eq s)

/-! ### The head leaves (R56, R64, R75) -/

/-- SEGMENT END of a segment of the room, latched as the segment leaves with outcome `o` (R75). -/
def segmentEnds (o : SegOutcome) (seg : Segment) (s : State) : State :=
  if seg.issuer = .room then latchNotice (.segmentEnd seg.number o seg.flushed) s else s

theorem removeHead_eq {o : SegOutcome} {s : State} {seg : Segment} {rest : List Segment}
    (hq : s.motion.queue = seg :: rest) : removeHead o s = formHead (headGone rest (segmentEnds o seg s)) := by
  simp only [removeHead, hq, setQueue_headEndsClaim]
  rfl

/-- The last segment of the queue leaves. -/
theorem removeHead_last {o : SegOutcome} {s : State} {seg : Segment} (hq : s.motion.queue = [seg]) :
    removeHead o s = headGone [] (segmentEnds o seg s) := by
  rw [removeHead_eq hq, formHead_nil rfl]

/-- The head as a flush of `n` segments behind it leaves it (R75). -/
def counted (n : Nat) (seg : Segment) : Segment := { seg with flushed := min 7 (seg.flushed + n) }

theorem flushBehind_eq {s : State} {seg : Segment} {rest : List Segment} (hq : s.motion.queue = seg :: rest) :
    flushBehind s = setQueue [counted rest.length seg] s := flushBehind_cons hq

theorem endHead_eq {o : SegOutcome} {s : State} {seg : Segment} {rest : List Segment}
    (hq : s.motion.queue = seg :: rest) : endHead o s =
      autoRelease (if seg.issuer = .probeUnit then afterRackEnd o (removeHead o s) else removeHead o s) := by
  simp only [endHead, hq]

/-- The head ends at once with the queue flushed: what `endAtOnce` makes of a segment of the room (R73, R75). -/
theorem endAtOnce_room {o : SegOutcome} {s : State} {seg : Segment} {rest : List Segment}
    (hq : s.motion.queue = seg :: rest) (hi : seg.issuer = .room) : endAtOnce o s = autoRelease (headGone []
      (latchNotice (.segmentEnd seg.number o (min 7 (seg.flushed + rest.length))) s)) := by
  have hi' : (counted rest.length seg).issuer = .room := hi
  rw [endAtOnce, flushBehind_eq hq, endHead_eq rfl, removeHead_last rfl, hi', segmentEnds, if_pos hi',
    if_neg (by decide)]
  exact congrArg autoRelease (headGone_setQueue [] _
    (latchNotice (.segmentEnd seg.number o (min 7 (seg.flushed + rest.length))) s))

/-- The same of a segment of the probe unit, which learns the outcome (R134). -/
theorem endAtOnce_rack {o : SegOutcome} {s : State} {seg : Segment} {rest : List Segment}
    (hq : s.motion.queue = seg :: rest) (hi : seg.issuer = .probeUnit) :
    endAtOnce o s = autoRelease (afterRackEnd o (headGone [] s)) := by
  have hi' : (counted rest.length seg).issuer = .probeUnit := hi
  have hn : (counted rest.length seg).issuer ≠ .room := by rw [hi']; decide
  rw [endAtOnce, flushBehind_eq hq, endHead_eq rfl, removeHead_last rfl, if_pos hi', segmentEnds, if_neg hn,
    headGone_setQueue]

theorem endAtOnce_nil {o : SegOutcome} {s : State} (hq : s.motion.queue = []) : endAtOnce o s = s := by
  simp only [endAtOnce, flushBehind_nil hq, endHead, hq]

/-! ### Controlled stops (R70, R72 to R74) -/

theorem controlledStop_nil {o : SegOutcome} {s : State} (hq : s.motion.queue = []) : controlledStop o s = s := by
  simp only [controlledStop, hq]

/-- A STOPPING head keeps its outcome, and the queue behind it is flushed. -/
theorem controlledStop_stopping {o : SegOutcome} {s : State} {seg : Segment} {rest : List Segment} (ho : o ≠ .touched)
    (hq : s.motion.queue = seg :: rest) (hs : seg.state = .stopping) :
    controlledStop o s = autoRelease (setQueue [counted rest.length seg] s) := by
  simp only [controlledStop, hq, hs, if_neg ho, flushBehind_eq hq]

theorem not_atRest_of_shedding {seg : Segment} (h : Shedding seg) : (seg.traj.arrived || atRest seg) = false := by
  obtain ⟨-, ha, hu, hs⟩ := h
  have h0 : seg.traj.u ≠ 0 := by omega
  rcases hs with hk | hl
  · simp [ha, atRest, h0, hk]
  · simp [ha, atRest, h0, hl]

/-- A MOVING head with speed to shed goes STOPPING. -/
theorem controlledStop_shedding {o : SegOutcome} {s : State} {seg : Segment} {rest : List Segment} (ho : o ≠ .touched)
    (hq : s.motion.queue = seg :: rest) (hs : Shedding seg) :
    controlledStop o s = autoRelease (setQueue [stopMoving o (counted rest.length seg)] s) := by
  simp only [controlledStop, hq, hs.1, if_neg ho, flushBehind_eq hq, not_atRest_of_shedding hs, Bool.false_eq_true,
    if_false]
  rfl

theorem atRest_of_speedless {seg : Segment} (h : Speedless seg) :
    (seg.state = .waiting ∨ seg.state = .claiming) ∨
      (seg.state = .moving ∧ (seg.traj.arrived || atRest seg) = true) := by
  rcases h with h | h | ⟨hm, ha | hu | ⟨hk, hs⟩⟩
  · exact .inl (.inl h)
  · exact .inl (.inr h)
  · exact .inr ⟨hm, by simp [ha]⟩
  · exact .inr ⟨hm, by simp [atRest, hu]⟩
  · exact .inr ⟨hm, by simp [atRest, hk, hs]⟩

/-- A head without speed to shed ends at once. -/
theorem controlledStop_speedless {o : SegOutcome} {s : State} {seg : Segment} {rest : List Segment} (ho : o ≠ .touched)
    (hq : s.motion.queue = seg :: rest) (hs : Speedless seg) : controlledStop o s = endAtOnce o s := by
  rw [endAtOnce]
  rcases atRest_of_speedless hs with (h | h) | ⟨hm, hr⟩
  · simp only [controlledStop, hq, h, if_neg ho]
  · simp only [controlledStop, hq, h, if_neg ho]
  · simp only [controlledStop, hq, hm, if_neg ho, hr, if_true]

end Sys2Proof.Machine

/-! What a change keeps and what it loses when its outcome is taken: records, lids, permit and notices, each by one
rule. -/

namespace Sys2Proof.Machine

/-! ### Notices (R178) -/

theorem latchNotice_get (n : Notice) (s : State) (k : Fin 9) : (latchNotice n s).notices.get k =
    if k = n.latchIx then (s.notices.get k).event n else s.notices.get k := by
  rw [latchNotice_notices, vector_get_set]
  by_cases h : k = n.latchIx
  · subst h; simp
  · rw [if_neg h, if_neg h]

theorem latchNotice_at {n : Notice} {k : Fin 9} (h : n.latchIx = k) (s : State) :
    (latchNotice n s).notices.get k = (s.notices.get k).event n := by
  rw [latchNotice_get, if_pos h.symm]

theorem latchNotice_other {n : Notice} {k : Fin 9} (h : n.latchIx ≠ k) (s : State) :
    (latchNotice n s).notices.get k = s.notices.get k := by
  rw [latchNotice_get, if_neg h.symm]

theorem event_pending (n : Notice) (l : Latch) : (l.event n).pending = true := by
  unfold Latch.event
  split <;> rfl

theorem event_detail (n : Notice) (l : Latch) : (l.event n).detail = some n := by
  unfold Latch.event
  split <;> rfl

/-! ### A deferred expiry (R143) -/

theorem takeDeferredExpiry_none {s : State} (h : s.probes.change.expiry = .none) : takeDeferredExpiry s = s := by
  simp only [takeDeferredExpiry, h]

theorem takeDeferredExpiry_some {s : State} (h : s.probes.change.expiry ≠ .none) : takeDeferredExpiry s =
    latchNotice (.permitLapsed (s.probes.change.expiry == .hello))
      (setChange { s.probes.change with expiry := .none }
        { s with motion := { s.motion with permit := .lapsed, permitTimer := none } }) := by
  unfold takeDeferredExpiry
  split
  · rename_i he; exact absurd he h
  · rfl

theorem takeDeferredExpiry_probes (s : State) : (takeDeferredExpiry s).probes =
    { s.probes with change := { s.probes.change with expiry := .none } } := by
  by_cases h : s.probes.change.expiry = .none
  · rw [takeDeferredExpiry_none h, ← h]
  · rw [takeDeferredExpiry_some h]
    rfl

theorem takeDeferredExpiry_motion (s : State) : (takeDeferredExpiry s).motion = { s.motion with
    permit := if s.probes.change.expiry = .none then s.motion.permit else .lapsed
    permitTimer := if s.probes.change.expiry = .none then s.motion.permitTimer else none } := by
  by_cases h : s.probes.change.expiry = .none
  · rw [takeDeferredExpiry_none h, if_pos h, if_pos h]
  · rw [takeDeferredExpiry_some h, if_neg h, if_neg h]
    rfl

theorem takeDeferredExpiry_get (s : State) (k : Fin 9) : (takeDeferredExpiry s).notices.get k =
    if k = 5 ∧ s.probes.change.expiry ≠ .none then
      (s.notices.get k).event (.permitLapsed (s.probes.change.expiry == .hello))
    else s.notices.get k := by
  by_cases h : s.probes.change.expiry = .none
  · rw [takeDeferredExpiry_none h, if_neg fun hk => hk.2 h]
  · rw [takeDeferredExpiry_some h, latchNotice_get]
    by_cases hk : k = 5
    · rw [if_pos (show k = 5 ∧ s.probes.change.expiry ≠ .none from ⟨hk, h⟩)]
      exact if_pos hk
    · rw [if_neg (show ¬(k = 5 ∧ s.probes.change.expiry ≠ .none) from fun h5 => hk h5.1)]
      exact if_neg hk

theorem takeDeferredExpiry_zones (s : State) : (takeDeferredExpiry s).zones = s.zones := by
  unfold takeDeferredExpiry
  split <;> rfl

/-! ### Locations and lids (R141) -/

theorem setLocation_probes (id : Nat) (l : Location) (s : State) :
    (setLocation id l s).probes = { s.probes with table := (setLocation id l s).probes.table } := by
  unfold setLocation
  split <;> rfl

/-- An abort or a failure leaves one record UNKNOWN, or none (R141). -/
theorem settleLocations_eq (p : Bool) (s : State) : settleLocations p s =
    setLocation (if p = true ∧ s.probes.change.phase = some .detach then 0 else unsureId s.probes.change) .unknown
      s := by
  have h0 : setLocation 0 .unknown s = s := if_pos rfl
  unfold settleLocations unsureId
  dsimp only
  cases hph : s.probes.change.phase with
  | none => simp [h0]
  | some ph => cases ph <;> cases p <;> simp [h0]

/-- No lid moves when all are kept. -/
theorem closeLidsBut_all (s : State) : closeLidsBut (fun _ => true) s = s := by
  have hports : (tab8 fun p => s.probes.ports.get p) = s.probes.ports := vector_ext_get fun p => by simp
  simp only [closeLidsBut, if_true, hports]

/-! ### An outcome taken (R141, R142, R144) -/

/-- The outcome of a phase that fails, and of one that is aborted. -/
def phaseResult (o : ChangeOutcome) (cause : ChangeCause) (idRead : Nat) (c : Change) : ChangeResult :=
  { outcome := o, phase := c.phaseNumber, cause := cause, idRead := idRead }

/-- The change record with its outcome taken. -/
def withResult (r : ChangeResult) (c : Change) : Change :=
  { c with result := some r, last := some r, timer := none, deferred := .none }

theorem failTaken_eq (cause : ChangeCause) (n : Nat) (s : State) : failTaken cause n s =
    takeDeferredExpiry (takeResult (phaseResult .failed cause n s.probes.change)
      (closeLidsBut (fun p => inCommit s || headStands s.probes.change p)
        (setLocation (unsureId s.probes.change) .unknown s))) := by
  have hclose (t : State) (keep : Fin 8 → Bool) :
      (if inCommit s = true then t else closeLidsBut keep t) = closeLidsBut (fun p => inCommit s || keep p) t := by
    cases inCommit s with
    | false => simp
    | true => simp [closeLidsBut_all]
  unfold failTaken
  dsimp only
  rw [settleLocations_eq, closeLids, setLocation_change, hclose]
  simp
  rfl

theorem abortTaken_eq (cause : ChangeCause) (p : Bool) (s : State) : abortTaken cause p s =
    takeResult (phaseResult .aborted cause 0 s.probes.change)
      (closeLidsBut (headStands s.probes.change) (settleLocations p s)) := by
  unfold abortTaken
  dsimp only
  rw [closeLids, settleLocations_eq, setLocation_change]
  rfl

/-- What a taken outcome leaves: the probe unit, the notices and the permit may change, nothing else (R141, R142,
R144). -/
structure RackOnly (s t : State) : Prop where
  motion : t.motion = { s.motion with permit := t.motion.permit, permitTimer := t.motion.permitTimer }
  zones : t.zones = s.zones
  slots : t.slots = s.slots
  line : t.line = s.line

theorem RackOnly.of_motion {s t : State} (hm : t.motion = s.motion) (hz : t.zones = s.zones) (hs : t.slots = s.slots)
    (hl : t.line = s.line) : RackOnly s t := ⟨by rw [hm], hz, hs, hl⟩

theorem RackOnly.trans {s t u : State} (h : RackOnly s t) (k : RackOnly t u) : RackOnly s u :=
  ⟨by rw [k.motion, h.motion], k.zones.trans h.zones, k.slots.trans h.slots, k.line.trans h.line⟩

theorem RackOnly.queue {s t : State} (h : RackOnly s t) : t.motion.queue = s.motion.queue := by rw [h.motion]

theorem rackOnly_takeDeferredExpiry (s : State) : RackOnly s (takeDeferredExpiry s) := by
  refine ⟨?_, takeDeferredExpiry_zones s, takeDeferredExpiry_slots s, ?_⟩
  · rw [takeDeferredExpiry_motion]
  · unfold takeDeferredExpiry
    split <;> rfl

theorem rackOnly_setLocation (id : Nat) (l : Location) (s : State) : RackOnly s (setLocation id l s) :=
  .of_motion (setLocation_motion _ _ _) (setLocation_zones _ _ _) (setLocation_slots _ _ _) (setLocation_line _ _ _)

theorem rackOnly_closeLidsBut (k : Fin 8 → Bool) (s : State) : RackOnly s (closeLidsBut k s) :=
  .of_motion rfl rfl rfl rfl

theorem rackOnly_takeResult (r : ChangeResult) (s : State) : RackOnly s (takeResult r s) := .of_motion rfl rfl rfl rfl

theorem rackOnly_failTaken (c : ChangeCause) (n : Nat) (s : State) : RackOnly s (failTaken c n s) := by
  rw [failTaken_eq]
  exact (((rackOnly_setLocation _ _ _).trans (rackOnly_closeLidsBut _ _)).trans (rackOnly_takeResult _ _)).trans
    (rackOnly_takeDeferredExpiry _)

theorem rackOnly_abortTaken (c : ChangeCause) (p : Bool) (s : State) : RackOnly s (abortTaken c p s) := by
  rw [abortTaken_eq, settleLocations_eq]
  exact ((rackOnly_setLocation _ _ _).trans (rackOnly_closeLidsBut _ _)).trans (rackOnly_takeResult _ _)

/-! ### A phase fails (R141) -/

theorem failTaken_probes (cause : ChangeCause) (n : Nat) (s : State) : (failTaken cause n s).probes =
    { s.probes with
      table := (failTaken cause n s).probes.table
      ports := (failTaken cause n s).probes.ports
      change :=
        { withResult (phaseResult .failed cause n s.probes.change) s.probes.change with expiry := .none } } := by
  rw [failTaken_eq, takeDeferredExpiry_probes, takeResult_probes, closeLidsBut_probes, setLocation_probes]
  rfl

theorem failTaken_table (cause : ChangeCause) (n : Nat) (s : State) (i : Fin 16) :
    (failTaken cause n s).probes.table.get i =
      if unsureId s.probes.change ≠ 0 ∧ (s.probes.table.get i).id = unsureId s.probes.change then
        { s.probes.table.get i with location := .unknown }
      else s.probes.table.get i := by
  rw [failTaken_eq, takeDeferredExpiry_probes, takeResult_probes, closeLidsBut_probes]
  exact setLocation_table _ _ s i

theorem failTaken_ports (cause : ChangeCause) (n : Nat) (s : State) (p : Fin 8) :
    (failTaken cause n s).probes.ports.get p = { s.probes.ports.get p with
      lidOpen := (s.probes.ports.get p).lidOpen && (inCommit s || headStands s.probes.change p) } := by
  rw [failTaken_eq, takeDeferredExpiry_probes, takeResult_probes, closeLidsBut_probes, setLocation_probes]
  dsimp only
  rw [tab8_get]
  cases inCommit s || headStands s.probes.change p <;> simp

theorem failTaken_get (cause : ChangeCause) (n : Nat) (s : State) (k : Fin 9) :
    (failTaken cause n s).notices.get k =
      if k = 5 ∧ s.probes.change.expiry ≠ .none then
        (s.notices.get k).event (.permitLapsed (s.probes.change.expiry == .hello))
      else s.notices.get k := by
  rw [failTaken_eq, takeDeferredExpiry_get]
  simp

theorem failTaken_motion (cause : ChangeCause) (n : Nat) (s : State) : (failTaken cause n s).motion =
    { s.motion with
      permit := if s.probes.change.expiry = .none then s.motion.permit else .lapsed
      permitTimer := if s.probes.change.expiry = .none then s.motion.permitTimer else none } := by
  rw [failTaken_eq, takeDeferredExpiry_motion]
  simp

/-! ### A phase is aborted (R142) -/

theorem abortTaken_probes (cause : ChangeCause) (p : Bool) (s : State) : (abortTaken cause p s).probes =
    { s.probes with
      table := (abortTaken cause p s).probes.table
      ports := (abortTaken cause p s).probes.ports
      change := withResult (phaseResult .aborted cause 0 s.probes.change) s.probes.change } := by
  rw [abortTaken_eq, settleLocations_eq, takeResult_probes, closeLidsBut_probes, setLocation_probes]
  rfl

theorem abortTaken_table (cause : ChangeCause) (s : State) (i : Fin 16) :
    (abortTaken cause false s).probes.table.get i =
      if unsureId s.probes.change ≠ 0 ∧ (s.probes.table.get i).id = unsureId s.probes.change then
        { s.probes.table.get i with location := .unknown }
      else s.probes.table.get i := by
  rw [abortTaken_eq, settleLocations_eq, takeResult_probes, closeLidsBut_probes]
  exact (setLocation_table _ _ s i).trans (by simp)

theorem abortTaken_ports (cause : ChangeCause) (p : Bool) (s : State) (i : Fin 8) :
    (abortTaken cause p s).probes.ports.get i = { s.probes.ports.get i with
      lidOpen := (s.probes.ports.get i).lidOpen && headStands s.probes.change i } := by
  rw [abortTaken_eq, settleLocations_eq, takeResult_probes, closeLidsBut_probes, setLocation_probes]
  dsimp only
  rw [tab8_get]
  cases headStands s.probes.change i <;> simp

theorem abortTaken_notices (cause : ChangeCause) (p : Bool) (s : State) :
    (abortTaken cause p s).notices = s.notices := by
  rw [abortTaken_eq, settleLocations_eq]
  simp

theorem abortTaken_motion (cause : ChangeCause) (p : Bool) (s : State) : (abortTaken cause p s).motion = s.motion := by
  rw [abortTaken_eq, settleLocations_eq]
  simp

end Sys2Proof.Machine

/-! The end of a change, and what the end of a segment leaves of the bed: `endChange`, `Released` and `HeadDropped`. -/

namespace Sys2Proof.Machine

/-! ### The end of a change (R146) -/

theorem endChange_probes (r : ChangeResult) (s : State) :
    (endChange r s).probes = { s.probes with change := Change.idle s.probes.change.last } := by
  rw [endChange_eq, latchNotice_probes, setChange_probes, autoRelease_probes]

theorem endChange_motion (r : ChangeResult) (s : State) : (endChange r s).motion = s.motion := by
  rw [endChange_eq, latchNotice_motion, setChange_motion, autoRelease_motion]

theorem endChange_get (r : ChangeResult) (s : State) (k : Fin 9) : (endChange r s).notices.get k =
    if k = 4 then (s.notices.get k).event (.probeChangeEnd s.probes.change.target r) else s.notices.get k := by
  rw [endChange_eq, latchNotice_get, setChange_notices, autoRelease_notices]
  rfl

theorem endChange_zones (r : ChangeResult) (s : State) : (endChange r s).zones = (autoRelease s).zones := by
  rw [endChange_eq, latchNotice_zones, setChange_zones]

theorem endChange_slots (r : ChangeResult) (s : State) : (endChange r s).slots = (autoRelease s).slots := by
  rw [endChange_eq, latchNotice_slots, setChange_slots]

theorem autoRelease_axes (s : State) : (autoRelease s).axes = s.axes := (motionOnly_autoRelease s).axes

theorem endChange_axes (r : ChangeResult) (s : State) : (endChange r s).axes = s.axes := (motionOnly_endChange r s).axes

theorem rackSegment_nil {s : State} (hq : s.motion.queue = []) : rackSegment s = false := by simp [rackSegment, hq]

theorem rackSegment_cons {s : State} {seg : Segment} {rest : List Segment} (hq : s.motion.queue = seg :: rest)
    (hi : seg.issuer = .probeUnit) : rackSegment s = true := by simp [rackSegment, hq, hi]

theorem finishChange_empty {s : State} {r : ChangeResult} (hq : s.motion.queue = [])
    (ha : s.probes.change.active = true) (hr : s.probes.change.result = some r) : finishChange s = endChange r s := by
  rw [finishChange_of_result ha hr, rackSegment_nil hq]
  rfl

theorem finishChange_cases (s : State) : finishChange s = s ∨ ∃ r, s.probes.change.active = true ∧
    s.probes.change.result = some r ∧ rackSegment s = false ∧ finishChange s = endChange r s := by
  cases ha : s.probes.change.active with
  | false => exact .inl (finishChange_of_inactive ha)
  | true =>
    cases hr : s.probes.change.result with
    | none => exact .inl (finishChange_of_running hr)
    | some r =>
      rw [finishChange_of_result ha hr]
      cases hs : rackSegment s with
      | true => exact .inl rfl
      | false => exact .inr ⟨r, rfl, rfl, rfl, rfl⟩

theorem afterRackEnd_taken {o : SegOutcome} {s : State} (h : s.probes.change.result.isSome = true) :
    afterRackEnd o s = finishChange s := if_pos h

theorem finishChange_waits {s : State} {seg : Segment} {rest : List Segment} (hq : s.motion.queue = seg :: rest)
    (hi : seg.issuer = .probeUnit) : finishChange s = s := by
  refine (finishChange_cases s).resolve_right ?_
  rintro ⟨r, -, -, hs, -⟩
  rw [rackSegment_cons hq hi] at hs
  cases hs

theorem finishChange_endChange (r : ChangeResult) (s : State) : finishChange (endChange r s) = endChange r s :=
  finishChange_of_inactive (by rw [endChange_change]; rfl)

/-! ### The change through the end of its segment -/

/-- What is left once the queue has ended at once with outcome `o`, before the probe unit learns of it. -/
def queueEnded (o : SegOutcome) (s : State) : State :=
  match s.motion.queue with
  | [] => s
  | seg :: rest => headGone [] (segmentEnds o (counted rest.length seg) s)

theorem queueEnded_nil {o : SegOutcome} {s : State} (hq : s.motion.queue = []) : queueEnded o s = s := by
  simp only [queueEnded, hq]

theorem queueEnded_cons {o : SegOutcome} {s : State} {seg : Segment} {rest : List Segment}
    (hq : s.motion.queue = seg :: rest) :
    queueEnded o s = headGone [] (segmentEnds o (counted rest.length seg) s) := by
  simp only [queueEnded, hq]

theorem queueEnded_rack {o : SegOutcome} {s : State} {seg : Segment} {rest : List Segment}
    (hq : s.motion.queue = seg :: rest) (hi : seg.issuer = .probeUnit) : queueEnded o s = headGone [] s := by
  rw [queueEnded_cons hq, segmentEnds, if_neg]
  rw [show (counted rest.length seg).issuer = _ from hi]
  decide

@[simp] theorem segmentEnds_probes (o : SegOutcome) (seg : Segment) (s : State) :
    (segmentEnds o seg s).probes = s.probes := by
  unfold segmentEnds
  split <;> rfl

@[simp] theorem segmentEnds_motion (o : SegOutcome) (seg : Segment) (s : State) :
    (segmentEnds o seg s).motion = s.motion := by
  unfold segmentEnds
  split <;> rfl

theorem segmentEnds_get (o : SegOutcome) (seg : Segment) (s : State) {k : Fin 9} (hk : k ≠ 6) :
    (segmentEnds o seg s).notices.get k = s.notices.get k := by
  unfold segmentEnds
  split
  · exact (latchNotice_get _ _ _).trans (if_neg hk)
  · rfl

theorem queueEnded_queue (o : SegOutcome) (s : State) : (queueEnded o s).motion.queue = [] := by
  unfold queueEnded
  split
  · assumption
  · rfl

theorem queueEnded_probes (o : SegOutcome) (s : State) : (queueEnded o s).probes = s.probes := by
  unfold queueEnded
  split
  · rfl
  · simp

theorem queueEnded_motion (o : SegOutcome) (s : State) :
    (queueEnded o s).motion = { s.motion with queue := [] } := by
  unfold queueEnded
  split
  · rename_i hq; rw [← hq]
  · simp

theorem queueEnded_get (o : SegOutcome) (s : State) {k : Fin 9} (hk : k ≠ 6) :
    (queueEnded o s).notices.get k = s.notices.get k := by
  unfold queueEnded
  split
  · rfl
  · rw [headGone_notices, segmentEnds_get _ _ _ hk]

/-- A change that has taken its outcome ends with it when the queue ends at once (R144, R146). -/
theorem finishChange_endAtOnce {o : SegOutcome} {s : State} {r : ChangeResult} (ha : s.probes.change.active = true)
    (hr : s.probes.change.result = some r) :
    finishChange (endAtOnce o s) = endChange r (queueEnded o s) := by
  cases hq : s.motion.queue with
  | nil => rw [endAtOnce_nil hq, queueEnded_nil hq, finishChange_empty hq ha hr]
  | cons seg rest =>
    have hp := queueEnded_probes o s
    have hend : finishChange (queueEnded o s) = endChange r (queueEnded o s) :=
      finishChange_empty (queueEnded_queue o s) (by rw [hp, ha]) (by rw [hp, hr])
    cases hi : seg.issuer with
    | room =>
      rw [endAtOnce_room hq hi, finishChange_empty (by simp) (by simpa using ha) (r := r) (by simpa using hr),
        endChange_autoRelease, queueEnded_cons hq, segmentEnds,
        if_pos (show (counted rest.length seg).issuer = .room from hi)]
      rfl
    | probeUnit =>
      have hsome : (headGone [] s).probes.change.result.isSome = true := by simp [hr]
      rw [queueEnded_rack hq hi] at hend ⊢
      rw [endAtOnce_rack hq hi, afterRackEnd_taken hsome, hend, autoRelease_endChange, finishChange_endChange]

/-- The probe unit through an end that leaves the change as it is, or ends it with its outcome (R146). -/
def ChangeKept (s t : State) : Prop :=
  t.probes = s.probes ∨ t.probes = { s.probes with change := Change.idle s.probes.change.last }

theorem ChangeKept.of_eq {s t : State} (h : t.probes = s.probes) : ChangeKept s t := .inl h

theorem ChangeKept.trans {s t u : State} (h : ChangeKept s t) (k : ChangeKept t u) : ChangeKept s u := by
  rcases h with h | h <;> rcases k with k | k <;> rw [ChangeKept, k, h]
  · exact .inl rfl
  · exact .inr rfl
  · exact .inr rfl
  · exact .inr rfl

theorem changeKept_finishChange (s : State) : ChangeKept s (finishChange s) := by
  rcases finishChange_cases s with h | ⟨r, -, -, -, h⟩ <;> rw [h]
  · exact .of_eq rfl
  · exact .inr (endChange_probes r s)

theorem changeKept_endHead (o : SegOutcome) {s : State} (hr : s.probes.change.result.isSome = true) :
    ChangeKept s (endHead o s) := by
  cases hq : s.motion.queue with
  | nil => simp only [endHead, hq]; exact .of_eq rfl
  | cons seg rest =>
    rw [endHead_eq hq]
    refine ChangeKept.trans ?_ (.of_eq (autoRelease_probes _))
    have hp : ChangeKept s (removeHead o s) := .of_eq (removeHead_probes o s)
    split
    · rw [afterRackEnd_taken (by rw [removeHead_probes, hr])]
      exact hp.trans (changeKept_finishChange _)
    · exact hp

/-- A change that has taken its outcome keeps it through every controlled stop. -/
theorem changeKept_controlledStop {o : SegOutcome} (ho : o ≠ .touched) {s : State}
    (hr : s.probes.change.result.isSome = true) : ChangeKept s (finishChange (controlledStop o s)) := by
  refine ChangeKept.trans ?_ (changeKept_finishChange _)
  cases hq : s.motion.queue with
  | nil => rw [controlledStop_nil hq]; exact .of_eq rfl
  | cons seg rest =>
    simp only [controlledStop, hq, if_neg ho]
    have hflush : (flushBehind s).probes = s.probes := flushBehind_probes s
    have hend : ChangeKept s (endHead o (flushBehind s)) :=
      ChangeKept.trans (.of_eq hflush) (changeKept_endHead o (by rw [hflush, hr]))
    cases hs : seg.state
    case stopping => exact .of_eq (by simp)
    case moving =>
      dsimp only
      split
      · exact hend
      · refine .of_eq ?_
        rw [autoRelease_probes, flushBehind_eq hq]
        rfl
    all_goals exact hend

/-! ### What auto-release leaves of the bed (R81, R100) -/

/-- In `u` the station, its axes and the bed are as in `s`, whatever has become of the demands and the queue; the own
claim too may have changed. -/
structure SameBed (s u : State) : Prop where
  station : u.station = s.station
  axisCount : u.axisCount = s.axisCount
  zones : u.zones = { s.zones with claim := u.zones.claim }
  number : u.line.number = s.line.number
  joined : joined u = joined s

theorem SameBed.firmZones {s u : State} (h : SameBed s u) : firmZones u = firmZones s := by
  have hv : u.zones.view = s.zones.view := by rw [h.zones]
  have hf : firmToSelf u = firmToSelf s := by
    funext k
    simp only [firmToSelf, h.number]
  simp only [Machine.firmZones, viewZones, hv, hf]

theorem SameBed.keepSet {s u : State} (h : SameBed s u) :
    keepSet u = keepSet { s with axes := u.axes, motion := u.motion } := by
  have hu : u = { u with
      station := s.station, axisCount := s.axisCount, zones := { s.zones with claim := u.zones.claim }
      line := { u.line with number := s.line.number } } := by
    rw [← h.station, ← h.axisCount, ← h.zones, ← h.number]
  rw [hu]
  rfl

/-- Auto-release after a head has left or a queue has been flushed. -/
theorem released_of_autoRelease {s u t : State} (h : SameBed s u)
    (hne : s.motion.queue ≠ [] ∨ s.probes.change.active = true) (hz : t.zones = (autoRelease u).zones)
    (ha : t.axes = u.axes) (hm : t.motion = u.motion) : Released s t := by
  refine ⟨?_, fun z => ?_⟩
  · rw [hz, autoRelease_eq, h.zones]
  · rw [hz, ha, hm, ← h.keepSet]
    cases hj : Machine.joined s with
    | false =>
      rw [autoRelease_unjoined (h.joined.trans hj), if_neg (by simp), h.zones]
    | true =>
      rw [autoRelease_view (h.joined.trans hj), h.firmZones, show u.zones.view = s.zones.view by rw [h.zones]]
      exact if_congr (has_and_compl.trans ⟨fun hk => ⟨hne, rfl, hk⟩, fun hk => hk.2.2⟩) rfl rfl

/-- With no head and no change nothing is released. -/
theorem released_of_idle {s t : State} (hq : s.motion.queue = []) (ha : s.probes.change.active = false)
    (hz : t.zones = { s.zones with claim := t.zones.claim }) : Released s t :=
  ⟨by rw [hz], fun z => by rw [hz, if_neg]; simp [hq, ha]⟩

end Sys2Proof.Machine

namespace Sys2Proof.Machine

/-! ### A change loses its power (R144) -/

/-- The outcome with which a change that loses its power ends: the one it has taken before, or FAILED (log entry 18). -/
def lostResult (cause : ChangeCause) (c : Change) : ChangeResult :=
  match c.result with
  | some r => r
  | none => phaseResult .failed cause 0 c

theorem changePowerLost_inactive {cause : ChangeCause} {s : State} (ha : s.probes.change.active = false) :
    changePowerLost cause s = s := by simp [changePowerLost, ha]

/-- Both records of a change UNKNOWN. -/
def recordsLost (s : State) : State :=
  setLocation s.probes.change.target .unknown (setLocation s.probes.change.oldId .unknown s)

theorem recordsLost_probes (s : State) :
    (recordsLost s).probes = { s.probes with table := (recordsLost s).probes.table } := by
  unfold recordsLost
  rw [setLocation_probes, setLocation_probes]

@[simp] theorem recordsLost_change (s : State) : (recordsLost s).probes.change = s.probes.change := by
  rw [recordsLost_probes]

@[simp] theorem recordsLost_motion (s : State) : (recordsLost s).motion = s.motion := by simp [recordsLost]
@[simp] theorem recordsLost_notices (s : State) : (recordsLost s).notices = s.notices := by simp [recordsLost]

theorem recordsLost_table (s : State) (i : Fin 16) : (recordsLost s).probes.table.get i =
    if (s.probes.table.get i).id ≠ 0 ∧ ((s.probes.table.get i).id = s.probes.change.target ∨
        (s.probes.table.get i).id = s.probes.change.oldId) then
      { s.probes.table.get i with location := .unknown }
    else s.probes.table.get i := by
  rw [recordsLost, setLocation_table, setLocation_id, setLocation_table]
  by_cases ht : s.probes.change.target ≠ 0 ∧ (s.probes.table.get i).id = s.probes.change.target
  · have hall : (s.probes.table.get i).id ≠ 0 ∧ ((s.probes.table.get i).id = s.probes.change.target ∨
        (s.probes.table.get i).id = s.probes.change.oldId) := ⟨ht.2 ▸ ht.1, .inl ht.2⟩
    rw [if_pos ht, if_pos hall]
    split <;> rfl
  · rw [if_neg ht]
    refine if_congr ⟨fun h => ⟨h.2 ▸ h.1, .inr h.2⟩, ?_⟩ rfl rfl
    rintro ⟨h0, h | h⟩
    · exact absurd ⟨h ▸ h0, h⟩ ht
    · exact ⟨h ▸ h0, h⟩

theorem changePowerLost_taken {cause : ChangeCause} {s : State} {r : ChangeResult}
    (ha : s.probes.change.active = true) (hr : s.probes.change.result = some r) :
    changePowerLost cause s = recordsLost s := by
  simp only [changePowerLost, ha, if_true, hr, Option.isSome_some]
  rfl

theorem changePowerLost_running {cause : ChangeCause} {s : State}
    (ha : s.probes.change.active = true) (hr : s.probes.change.result = none) :
    changePowerLost cause s =
      takeDeferredExpiry (takeResult (phaseResult .failed cause 0 s.probes.change) (recordsLost s)) := by
  simp only [changePowerLost, ha, if_true, hr, Option.isSome_none, Bool.false_eq_true, if_false]
  rfl

/-- The probe unit and the notices once a change has lost its power and its segment has left. -/
theorem powerLost_endChange {cause : ChangeCause} {o : SegOutcome} {s : State} (ha : s.probes.change.active = true) :
    PowerLost cause s (finishChange (endAtOnce o (changePowerLost cause s))) := by
  cases hr : s.probes.change.result with
  | some r =>
    rw [changePowerLost_taken ha hr, finishChange_endAtOnce (r := r) (by simpa using ha) (by simpa using hr)]
    refine ⟨fun i => ?_, ?_, fun h => ?_, fun r' hr' => ?_, fun _ => ?_, fun h => ?_⟩
    · rw [endChange_probes, queueEnded_probes]
      exact recordsLost_table s i
    · rw [endChange_probes, queueEnded_probes, recordsLost_probes]
    · rw [hr] at h; cases h
    · rw [hr, Option.some.injEq] at hr'
      subst hr'
      rw [endChange_change, endChange_get, queueEnded_get _ _ (by decide), queueEnded_probes, recordsLost_change,
        recordsLost_notices]
      exact ⟨rfl, rfl⟩
    · rw [endChange_motion, queueEnded_motion, recordsLost_motion]
    · rw [hr] at h; cases h
  | none =>
    have hres : (changePowerLost cause s).probes.change =
        { withResult (phaseResult .failed cause 0 s.probes.change) s.probes.change with expiry := .none } := by
      rw [changePowerLost_running ha hr, takeDeferredExpiry_probes, takeResult_probes, recordsLost_change]
      rfl
    rw [finishChange_endAtOnce (r := phaseResult .failed cause 0 s.probes.change) (by rw [hres]; exact ha)
      (by rw [hres]; rfl)]
    have hget (k : Fin 9) (hk : k ≠ 6) :
        (queueEnded o (changePowerLost cause s)).notices.get k =
          if k = 5 ∧ s.probes.change.expiry ≠ .none then
            (s.notices.get k).event (.permitLapsed (s.probes.change.expiry == .hello))
          else s.notices.get k := by
      rw [queueEnded_get _ _ hk, changePowerLost_running ha hr, takeDeferredExpiry_get]
      simp
    have hperm : (queueEnded o (changePowerLost cause s)).motion = { s.motion with
        queue := []
        permit := if s.probes.change.expiry = .none then s.motion.permit else .lapsed
        permitTimer := if s.probes.change.expiry = .none then s.motion.permitTimer else none } := by
      rw [queueEnded_motion, changePowerLost_running ha hr, takeDeferredExpiry_motion]
      simp
    refine ⟨fun i => ?_, ?_, fun _ => ⟨?_, ?_⟩, fun r' hr' => ?_, fun he => ?_, fun _ he => ⟨?_, ?_, ?_⟩⟩
    · rw [endChange_probes, queueEnded_probes, changePowerLost_running ha hr, takeDeferredExpiry_probes]
      exact recordsLost_table s i
    · rw [endChange_probes, queueEnded_probes, changePowerLost_running ha hr, takeDeferredExpiry_probes,
        takeResult_probes, recordsLost_probes]
    · rw [endChange_change, queueEnded_probes, hres]
      rfl
    · rw [endChange_get, hget 4 (by decide), queueEnded_probes, hres]
      rfl
    · rw [hr] at hr'; cases hr'
    · rw [endChange_motion, hperm, if_pos he]
    · rw [endChange_motion, hperm]
      exact if_neg he
    · rw [endChange_motion, hperm]
      exact if_neg he
    · rw [endChange_get, hget 5 (by decide), if_neg (by decide), if_pos ⟨rfl, he⟩]

/-- The rest of the state does not matter to what a change loses. -/
theorem PowerLost.congr {cause : ChangeCause} {s u t : State} (h : PowerLost cause u t) (hp : u.probes = s.probes)
    (hm : u.motion = s.motion) (hn : u.notices = s.notices) : PowerLost cause s t := by
  obtain ⟨h1, h2, h3, h4, h5, h6⟩ := h
  rw [hp] at h1 h2 h3 h4 h5 h6
  rw [hn] at h3 h4 h6
  rw [hm] at h5
  exact ⟨h1, h2, h3, h4, h5, h6⟩

theorem powerLost_powerCut {cause : ChangeCause} {o : SegOutcome} {s u : State} (ha : s.probes.change.active = true)
    (hp : u.probes = s.probes) (hm : u.motion = s.motion) (hn : u.notices = s.notices) :
    PowerLost cause s (powerCut o cause u) :=
  (powerLost_endChange (s := dropDrives u) (by simpa [hp] using ha)).congr (by simpa using hp) (by simpa using hm)
    (by simpa using hn)

/-! ### A head of the room is dropped (R75, R90, R100) -/

/-- In `u` everything is as in `s` that the end of a head of the room reads and changes, but for the demands, the
permit and the notices. -/
structure SameHead (s u : State) : Prop extends SameBed s u where
  claim : u.zones.claim = s.zones.claim
  queue : u.motion.queue = s.motion.queue
  slots : u.slots = s.slots
  probes : u.probes = s.probes
  attempt : u.line.attempt = s.line.attempt

theorem SameHead.zones_eq {s u : State} (h : SameHead s u) : u.zones = s.zones := by rw [h.zones, h.claim]

theorem SameHead.inFlight {s u : State} (h : SameHead s u) (id : SlotId) : inFlight u id = inFlight s id := by
  simp only [Machine.inFlight, h.attempt]

theorem sameBed_headGone (q : List Segment) (s : State) : SameBed s (headGone q s) :=
  { station := (motionOnly_headGone q s).station
    axisCount := (motionOnly_headGone q s).axisCount
    zones := headGone_zones q s
    number := by rw [headGone_line]
    joined := by rw [Machine.joined, Machine.joined, headGone_line] }

theorem SameBed.trans {s t u : State} (h : SameBed s t) (k : SameBed t u) : SameBed s u :=
  { station := k.station.trans h.station
    axisCount := k.axisCount.trans h.axisCount
    zones := by rw [k.zones, h.zones]
    number := k.number.trans h.number
    joined := k.joined.trans h.joined }

theorem sameBed_latchNotice (n : Notice) (s : State) : SameBed s (latchNotice n s) := ⟨rfl, rfl, rfl, rfl, rfl⟩
theorem sameBed_setQueue (q : List Segment) (s : State) : SameBed s (setQueue q s) := ⟨rfl, rfl, rfl, rfl, rfl⟩

/-- The head of the room ends at once with outcome `o`, no probe change being in progress. -/
theorem headDropped_endAtOnce {o : SegOutcome} {s u : State} (h : SameHead s u)
    (hroom : ∀ seg rest, s.motion.queue = seg :: rest → seg.issuer = .room)
    (ha : s.probes.change.active = false) : HeadDropped s (endAtOnce o u) := by
  cases hq : s.motion.queue with
  | nil =>
    have hu : endAtOnce o u = u := endAtOnce_nil (h.queue.trans hq)
    rw [hu]
    exact
      { released_of_idle hq ha h.zones with
        probes := h.probes
        claim := by rw [hq, h.claim]
        slot := by rw [hq, h.slots]
        slots := by rw [h.slots]
        still := fun _ => h.slots }
  | cons seg rest =>
    have hqu : u.motion.queue = seg :: rest := h.queue.trans hq
    rw [endAtOnce_room hqu (hroom seg rest hq)]
    generalize hn : Notice.segmentEnd seg.number o (min 7 (seg.flushed + rest.length)) = n
    have hbed : SameBed s (headGone [] (latchNotice n u)) :=
      (h.toSameBed.trans (sameBed_latchNotice n u)).trans (sameBed_headGone [] _)
    have hfl : inFlight (latchNotice n u) .claim = inFlight s .claim := h.inFlight .claim
    have hown : OwnSlots s (autoRelease (headGone [] (latchNotice n u))) := by
      refine OwnSlots.trans ?_ (ownSlots_autoRelease _)
      rw [OwnSlots, headGone_slots, latchNotice_slots, h.slots]
    exact
      { released_of_autoRelease hbed (.inl (by rw [hq]; simp)) rfl (autoRelease_axes _) (autoRelease_motion _) with
        probes := by rw [autoRelease_probes, headGone_probes, latchNotice_probes, h.probes]
        claim := by
          rw [autoRelease_claim, headGone_claim, hfl, latchNotice_zones, h.claim, hq]
          cases s.zones.claim with
          | queued x b => cases b <;> rfl
          | none => rfl
          | window x b => rfl
        slot := by
          rw [autoRelease_eq]
          dsimp only
          rw [headGone_claimSlot, hfl, latchNotice_zones, latchNotice_slots, h.claim, h.slots, hq]
          cases s.zones.claim with
          | queued x b => cases b <;> rfl
          | none => rfl
          | window x b => rfl
        slots := hown
        still := fun he => by rw [hq] at he; cases he }

end Sys2Proof.Machine

/-! Motion faults and drive-enable edges: settling O6 and O11. -/

namespace Sys2Proof.Machine

/-! ### Notices that a lost power leaves alone (R178) -/

/-- From `s` to `t` no notice but PROBE CHANGE END, PERMIT LAPSED and SEGMENT END has been latched. -/
def NoticesKept (s t : State) : Prop := ∀ k : Fin 9, k ≠ 4 → k ≠ 5 → k ≠ 6 → t.notices.get k = s.notices.get k

theorem NoticesKept.of_eq {s t : State} (h : t.notices = s.notices) : NoticesKept s t := fun k _ _ _ => by rw [h]

theorem NoticesKept.trans {s t u : State} (h : NoticesKept s t) (k : NoticesKept t u) : NoticesKept s u :=
  fun n h4 h5 h6 => (k n h4 h5 h6).trans (h n h4 h5 h6)

theorem noticesKept_endChange (r : ChangeResult) (s : State) : NoticesKept s (endChange r s) := fun k h4 _ _ => by
  rw [endChange_get, if_neg h4]

theorem noticesKept_finishChange (s : State) : NoticesKept s (finishChange s) := by
  rcases finishChange_cases s with h | ⟨r, -, -, -, h⟩ <;> rw [h]
  · exact .of_eq rfl
  · exact noticesKept_endChange r s

theorem noticesKept_takeDeferredExpiry (s : State) : NoticesKept s (takeDeferredExpiry s) := fun k _ h5 _ => by
  rw [takeDeferredExpiry_get, if_neg fun h => h5 h.1]

theorem noticesKept_failTaken (c : ChangeCause) (n : Nat) (s : State) : NoticesKept s (failTaken c n s) :=
  fun k _ h5 _ => by rw [failTaken_get, if_neg fun h => h5 h.1]

theorem noticesKept_headGone (q : List Segment) (s : State) : NoticesKept s (headGone q s) :=
  .of_eq (headGone_notices q s)

theorem noticesKept_segmentEnds (o : SegOutcome) (seg : Segment) (s : State) : NoticesKept s (segmentEnds o seg s) :=
  fun _ _ _ h6 => segmentEnds_get o seg s h6

theorem noticesKept_queueEnded (o : SegOutcome) (s : State) : NoticesKept s (queueEnded o s) :=
  fun _ _ _ h6 => queueEnded_get o s h6

theorem noticesKept_autoRelease (s : State) : NoticesKept s (autoRelease s) := .of_eq (autoRelease_notices s)

theorem noticesKept_failEnded (c : ChangeCause) (n : Nat) (s : State) : NoticesKept s (failEnded c n s) :=
  (noticesKept_failTaken c n s).trans (noticesKept_finishChange _)

/-- The probe unit learns of an end other than an arrival. -/
theorem noticesKept_afterRackEnd {o : SegOutcome} (ho : o ≠ .arrived) (s : State) :
    NoticesKept s (afterRackEnd o s) := by
  unfold afterRackEnd
  split
  · exact noticesKept_finishChange s
  · cases o
    case arrived => exact absurd rfl ho
    case touched => exact .of_eq rfl
    case missed => exact .of_eq rfl
    case halted => exact .of_eq rfl
    case lapsed => exact .of_eq rfl
    all_goals exact noticesKept_failEnded _ _ s

theorem noticesKept_endAtOnce {o : SegOutcome} (ho : o ≠ .arrived) (s : State) : NoticesKept s (endAtOnce o s) := by
  cases hq : s.motion.queue with
  | nil => rw [endAtOnce_nil hq]; exact .of_eq rfl
  | cons seg rest =>
    cases hi : seg.issuer with
    | room =>
      rw [endAtOnce_room hq hi]
      refine NoticesKept.trans ?_ (noticesKept_autoRelease _)
      refine NoticesKept.trans ?_ (noticesKept_headGone _ _)
      exact fun k _ _ h6 => (latchNotice_get _ _ _).trans (if_neg h6)
    | probeUnit =>
      rw [endAtOnce_rack hq hi]
      exact ((noticesKept_headGone _ s).trans (noticesKept_afterRackEnd ho _)).trans (noticesKept_autoRelease _)

theorem noticesKept_changePowerLost (c : ChangeCause) (s : State) : NoticesKept s (changePowerLost c s) := by
  cases ha : s.probes.change.active with
  | false => rw [changePowerLost_inactive ha]; exact .of_eq rfl
  | true =>
    cases hr : s.probes.change.result with
    | some r => rw [changePowerLost_taken ha hr]; exact .of_eq (recordsLost_notices s)
    | none =>
      rw [changePowerLost_running ha hr]
      exact (NoticesKept.of_eq (by simp)).trans (noticesKept_takeDeferredExpiry _)

theorem noticesKept_powerCut {o : SegOutcome} (ho : o ≠ .arrived) (c : ChangeCause) (s : State) :
    NoticesKept s (powerCut o c s) :=
  (((NoticesKept.of_eq (t := dropDrives s) rfl).trans (noticesKept_changePowerLost c _)).trans
    (noticesKept_endAtOnce ho _)).trans (noticesKept_finishChange _)

/-! ### SEGMENT END of a head of the room (R75) -/

theorem endAtOnce_segmentEnd {o : SegOutcome} {s : State} {seg : Segment} {rest : List Segment}
    (hq : s.motion.queue = seg :: rest) (hi : seg.issuer = .room) : (endAtOnce o s).notices.get 6 =
      (s.notices.get 6).event (.segmentEnd seg.number o (min 7 (seg.flushed + rest.length))) := by
  rw [endAtOnce_room hq hi, autoRelease_notices, headGone_notices]
  exact (latchNotice_get _ _ _).trans (if_pos rfl)

theorem finishChange_get6 (s : State) : (finishChange s).notices.get 6 = s.notices.get 6 := by
  rcases finishChange_cases s with h | ⟨r, -, -, -, h⟩ <;> rw [h]
  exact (endChange_get r s 6).trans (if_neg (by decide))

theorem changePowerLost_get6 (c : ChangeCause) (s : State) :
    (changePowerLost c s).notices.get 6 = s.notices.get 6 := by
  cases ha : s.probes.change.active with
  | false => rw [changePowerLost_inactive ha]
  | true =>
    cases hr : s.probes.change.result with
    | some r => rw [changePowerLost_taken ha hr, recordsLost_notices]
    | none =>
      rw [changePowerLost_running ha hr, takeDeferredExpiry_get, if_neg (fun h => absurd h.1 (by decide))]
      simp

theorem changePowerLost_queue (c : ChangeCause) (s : State) :
    (changePowerLost c s).motion.queue = s.motion.queue := by
  cases ha : s.probes.change.active with
  | false => rw [changePowerLost_inactive ha]
  | true =>
    cases hr : s.probes.change.result with
    | some r => rw [changePowerLost_taken ha hr, recordsLost_motion]
    | none =>
      rw [changePowerLost_running ha hr, takeDeferredExpiry_motion]
      simp

/-- A head of the room is reported as the power goes. -/
theorem powerCut_segmentEnd {o : SegOutcome} {c : ChangeCause} {s : State} {seg : Segment} {rest : List Segment}
    (hq : s.motion.queue = seg :: rest) (hi : seg.issuer = .room) : (powerCut o c s).notices.get 6 =
      (s.notices.get 6).event (.segmentEnd seg.number o (min 7 (seg.flushed + rest.length))) := by
  rw [powerCut, finishChange_get6, endAtOnce_segmentEnd ((changePowerLost_queue c (dropDrives s)).trans hq) hi,
    changePowerLost_get6]
  rfl

/-- Without a change only the head is lost with the power. -/
theorem powerCut_inactive {o : SegOutcome} {c : ChangeCause} {s : State} (ha : s.probes.change.active = false)
    (hroom : ∀ seg rest, s.motion.queue = seg :: rest → seg.issuer = .room) :
    powerCut o c s = endAtOnce o (dropDrives s) := by
  rw [powerCut, changePowerLost_inactive (by simpa using ha)]
  have hp : (endAtOnce o (dropDrives s)).probes = (dropDrives s).probes :=
    (headDropped_endAtOnce (s := dropDrives s) ⟨⟨rfl, rfl, rfl, rfl, rfl⟩, rfl, rfl, rfl, rfl, rfl⟩ hroom ha).probes
  exact finishChange_of_inactive (by rw [hp]; exact ha)

theorem headDropped_powerCut {o : SegOutcome} {c : ChangeCause} {s u : State} (h : SameHead s u)
    (ha : s.probes.change.active = false) (hroom : ∀ seg rest, s.motion.queue = seg :: rest → seg.issuer = .room) :
    HeadDropped s (powerCut o c u) := by
  rw [powerCut_inactive (by rw [h.probes, ha]) fun seg rest hq => hroom seg rest (h.queue.symm.trans hq)]
  exact headDropped_endAtOnce ⟨⟨h.station, h.axisCount, h.zones, h.number, h.joined⟩, h.claim, h.queue, h.slots,
    h.probes, h.attempt⟩ hroom ha

theorem dropDrives_axis (s : State) (k : Fin 4) : (dropDrives s).axis k =
    if s.live k then { s.axis k with demand := (s.axis k).position, driveOut := 0, followErr := 0 } else s.axis k := by
  simp [dropDrives]

theorem HeadDropped.latch {s t : State} (h : HeadDropped s t) (n : Notice) : HeadDropped s (latchNotice n t) :=
  { h with zones := h.zones, view := h.view, probes := h.probes, claim := h.claim, slot := h.slot, slots := h.slots
           still := h.still }

theorem PowerLost.latch {cause : ChangeCause} {s t : State} (h : PowerLost cause s t) {n : Notice}
    (h4 : n.latchIx ≠ 4) (h5 : n.latchIx ≠ 5) : PowerLost cause s (latchNotice n t) := by
  have hget (k : Fin 9) (hk : n.latchIx ≠ k) : (latchNotice n t).notices.get k = t.notices.get k :=
    (latchNotice_get n t k).trans (if_neg hk.symm)
  refine ⟨h.table, h.kept, fun hr => ?_, fun r hr => ?_, h.unexpired, fun hr he => ?_⟩
  · rw [hget 4 h4]; exact h.fails hr
  · rw [hget 4 h4]; exact h.stands r hr
  · rw [hget 5 h5]; exact h.expired hr he

theorem powerCut_axis (o : SegOutcome) (c : ChangeCause) (s : State) (k : Fin 4) :
    (powerCut o c s).axis k = (dropDrives s).axis k := by
  rw [State.axis, (motionOnly_powerCut o c s).axes, State.axis]

/-- Settles O6: the power is cut, whatever is under way, and the fault is latched. -/
theorem motionFaultStopsTheStation : Obligations.MotionFaultStopsTheStation := by
  intro i cause s
  generalize hu : ({ s with faultPending := true, gate := if s.pins.driveEnable then .faulted else s.gate } : State) = u
  have huse : SameHead s u := by rw [← hu]; exact ⟨⟨rfl, rfl, rfl, rfl, rfl⟩, rfl, rfl, rfl, rfl, rfl⟩
  have hum : u.motion = s.motion := by rw [← hu]
  have hun : u.notices = s.notices := by rw [← hu]
  have hidle := idle_powerCut (o := .motionFault) (by decide) .motionFault u
  have hm := (motionOnly_powerCut .motionFault .motionFault u).trans
    (motionOnly_latchNotice (.motionFault i cause) _)
  have hkept := noticesKept_powerCut (o := .motionFault) (by decide) .motionFault u
  intro t
  have ht : t = latchNotice (.motionFault i cause) (powerCut .motionFault .motionFault u) := by rw [← hu]; rfl
  rw [← ht] at hm
  have hgate : t.gate = if s.pins.driveEnable then .faulted else s.gate := by rw [hm.gate, ← hu]; rfl
  have hpins : t.pins = s.pins := by rw [hm.pins, ← hu]; rfl
  have haxis (k : Fin 4) : t.axis k = (dropDrives s).axis k := by
    rw [State.axis, hm.axes, ← hu]
    rfl
  refine ⟨by rw [hm.faultPending, ← hu]; rfl, hgate, ?_, fun k => (haxis k).trans (dropDrives_axis s k), ?_, ?_, ?_,
    fun seg rest hq hi => ?_, fun ha => ?_, fun ha hroom => ?_, ?_⟩
  · rw [ampOn, hgate, hpins]
    cases s.pins.driveEnable <;> simp
  · rw [ht]; exact hidle.1
  · rw [ht]; exact hidle.2
  · rw [ht, latchNotice_at (n := .motionFault i cause) (k := 1) rfl, hkept 1 (by decide) (by decide) (by decide), hun,
      Latch.event]
    split <;> rfl
  · have h6 : t.notices.get 6 =
        (s.notices.get 6).event (.segmentEnd seg.number .motionFault (min 7 (seg.flushed + rest.length))) := by
      rw [ht, latchNotice_other (n := .motionFault i cause) (k := 6) (show (1 : Fin 9) ≠ 6 by decide),
        powerCut_segmentEnd (huse.queue.trans hq) hi, hun]
    rw [h6]
    exact ⟨event_pending _ _, event_detail _ _⟩
  · rw [ht]
    exact (powerLost_powerCut ha huse.probes hum hun).latch (show (1 : Fin 9) ≠ 4 by decide)
      (show (1 : Fin 9) ≠ 5 by decide)
  · rw [ht]
    exact (headDropped_powerCut huse ha hroom).latch _
  · have hbase : ({ s with faultPending := true, gate := t.gate, axes := t.axes } : State) = dropDrives u := by
      rw [hgate, hm.axes, ← hu]
      rfl
    rw [hbase]
    exact hm

/-! ### Drive-enable edges (R19, R20) -/

theorem enableRise_eq (s : State) : enableRise s =
    let u : State := { s with gate := if s.faultPending then .faulted else .normal }
    if ampOn u = true then u.mapAxes fun i a => if s.live i then { a with demand := a.position } else a else u := by
  unfold enableRise holdAtPositions
  rfl

/-- Settles O11: a fall cuts the power, a rise leaves DISABLED with the live axes held where they stand. -/
theorem driveEnableEdgesDisableAndRestoreMotion : Obligations.DriveEnableEdgesDisableAndRestoreMotion := by
  refine ⟨⟨fun t s hr hd => ?_, fun t s hr hd => next_input_same hr (by rw [← hd])⟩, fun t s hr hd => ?_,
    fun t s hr hd => next_input_same hr (by rw [← hd])⟩
  · have hne : ({ s.pins with driveEnable := false } : Pins) ≠ s.pins := fun h => by
      rw [← h] at hd; cases hd
    generalize hu : ({ advance t s with pins := { s.pins with driveEnable := false }, gate := .disabled } : State) = u
    have huse : SameHead s u := by
      rw [← hu]
      exact ⟨⟨rfl, rfl, rfl, by simp, advance_joined t s⟩, rfl, rfl, rfl, rfl, by simp⟩
    have hum : u.motion = s.motion := by rw [← hu]; rfl
    have hun : u.notices = s.notices := by rw [← hu]; rfl
    have hidle := idle_powerCut (o := .drivesOff) (by decide) .drivesOff u
    have hm := motionOnly_powerCut .drivesOff .drivesOff u
    have haxis (k : Fin 4) : (powerCut .drivesOff .drivesOff u).axis k = (dropDrives s).axis k := by
      rw [powerCut_axis, ← hu]
      rfl
    refine ⟨powerCut .drivesOff .drivesOff u, next_input_edge hr hne ?_, ?_, ?_, ?_,
      fun k => (haxis k).trans (dropDrives_axis s k), hidle.1, hidle.2, fun seg rest hq hi => ?_, fun ha => ?_,
      fun ha hroom => ?_, ?_⟩
    · rw [← hu]; rfl
    · rw [hm.gate, ← hu]; rfl
    · rw [ampOn, hm.gate, hm.pins, ← hu]; simp
    · rw [hm.pins, ← hu]; rfl
    · rw [powerCut_segmentEnd (huse.queue.trans hq) hi]
      exact event_detail _ _
    · exact powerLost_powerCut ha huse.probes hum hun
    · exact headDropped_powerCut huse ha hroom
    · have hbase : ({ advance t s with pins := { s.pins with driveEnable := false }, gate := .disabled
                                       axes := (powerCut .drivesOff .drivesOff u).axes } : State) = dropDrives u := by
        rw [hm.axes, ← hu]
        rfl
      rw [hbase]
      exact hm
  · have hne : ({ s.pins with driveEnable := true } : Pins) ≠ s.pins := fun h => by
      rw [← h] at hd; cases hd
    intro u v
    exact next_input_edge hr hne (congrArg (latchNotice (.driveChange true)) (enableRise_eq _))

end Sys2Proof.Machine

/-! Aborted changes and controlled stops without a change: settling O25. -/

namespace Sys2Proof.Machine

/-! ### The own claim withdrawn (R90) -/

theorem unclaimed_of_ne {seg : Segment} (h : seg.state ≠ .claiming) : unclaimed seg = seg := if_neg h

theorem speedless_unclaimed {seg : Segment} (h : Speedless seg) : Speedless (unclaimed seg) := by
  unfold unclaimed
  split
  · exact .inl rfl
  · exact h

@[simp] theorem unclaimed_issuer (seg : Segment) : (unclaimed seg).issuer = seg.issuer := by
  unfold unclaimed
  split <;> rfl

@[simp] theorem unclaimed_flushed (seg : Segment) : (unclaimed seg).flushed = seg.flushed := by
  unfold unclaimed
  split <;> rfl

@[simp] theorem unclaimed_number (seg : Segment) : (unclaimed seg).number = seg.number := by
  unfold unclaimed
  split <;> rfl

/-- The queue of `t` is that of `s`, or the same with its head no longer CLAIMING. -/
def QueueUnclaimed (s t : State) : Prop :=
  t.motion.queue = s.motion.queue ∨ t.motion.queue = unclaimedQueue s.motion.queue

theorem QueueUnclaimed.nil {s t : State} (h : QueueUnclaimed s t) (hq : s.motion.queue = []) : t.motion.queue = [] := by
  rcases h with h | h <;> rw [h, hq]
  rfl

theorem QueueUnclaimed.cons {s t : State} {seg : Segment} {rest : List Segment} (h : QueueUnclaimed s t)
    (hq : s.motion.queue = seg :: rest) : t.motion.queue = seg :: rest ∨ t.motion.queue = unclaimed seg :: rest := by
  rw [QueueUnclaimed, hq] at h
  exact h

/-- A head that is not CLAIMING stays as it is. -/
theorem QueueUnclaimed.cons_of_ne {s t : State} {seg : Segment} {rest : List Segment} (h : QueueUnclaimed s t)
    (hq : s.motion.queue = seg :: rest) (hs : seg.state ≠ .claiming) : t.motion.queue = seg :: rest := by
  rcases h.cons hq with h | h
  · exact h
  · rw [h, unclaimed_of_ne hs]

/-- A head without speed stays one, of the same issuer, number and count. -/
theorem QueueUnclaimed.speedless {s t : State} {seg : Segment} {rest : List Segment} (h : QueueUnclaimed s t)
    (hq : s.motion.queue = seg :: rest) (hs : Speedless seg) : ∃ seg', t.motion.queue = seg' :: rest ∧ Speedless seg' ∧
      seg'.issuer = seg.issuer ∧ seg'.number = seg.number ∧ seg'.flushed = seg.flushed := by
  rcases h.cons hq with h | h
  · exact ⟨seg, h, hs, rfl, rfl, rfl⟩
  · exact ⟨unclaimed seg, h, speedless_unclaimed hs, by simp, by simp, by simp⟩

/-- What a withdrawal of the own claim changes. -/
theorem withdrawClaim_eq (s : State) : withdrawClaim s = { s with
    zones := { s.zones with claim := (withdrawClaim s).zones.claim }
    slots := { s.slots with claim := (withdrawClaim s).slots.claim }
    motion := { s.motion with queue := (withdrawClaim s).motion.queue }
    line := { s.line with attempt := (withdrawClaim s).line.attempt } } := by
  cases hc : s.zones.claim with
  | queued x o =>
    cases hf : inFlight s .claim with
    | false => rw [withdrawClaim_queued hc hf]
    | true => simp only [withdrawClaim, hc, hf, if_true]; rfl
  | none => rw [withdrawClaim_none (by simp [hc])]
  | window x b => rw [withdrawClaim_none (by simp [hc])]

theorem queueUnclaimed_withdrawClaim (s : State) : QueueUnclaimed s (withdrawClaim s) := by
  cases hc : s.zones.claim with
  | queued x o =>
    cases hf : inFlight s .claim with
    | false => rw [withdrawClaim_queued hc hf]; exact .inr rfl
    | true => simp only [withdrawClaim, hc, hf, if_true]; exact .inl rfl
  | none => rw [withdrawClaim_none (by simp [hc])]; exact .inl rfl
  | window x b => rw [withdrawClaim_none (by simp [hc])]; exact .inl rfl

@[simp] theorem withdrawClaim_notices (s : State) : (withdrawClaim s).notices = s.notices := by rw [withdrawClaim_eq]

/-! ### Stops that end no phase (R73, R134) -/

/-- The outcomes HALTED and LAPSED say nothing to a phase that runs: only a change with its outcome taken ends. -/
def Quiet (o : SegOutcome) : Prop := o = .halted ∨ o = .lapsed

theorem Quiet.ne_touched {o : SegOutcome} (h : Quiet o) : o ≠ .touched := by rintro rfl; rcases h with h | h <;> cases h
theorem Quiet.ne_arrived {o : SegOutcome} (h : Quiet o) : o ≠ .arrived := by rintro rfl; rcases h with h | h <;> cases h

theorem afterRackEnd_quiet {o : SegOutcome} (ho : Quiet o) (s : State) : afterRackEnd o s = finishChange s := by
  cases hr : s.probes.change.result with
  | some r => exact afterRackEnd_taken (by rw [hr]; rfl)
  | none =>
    rw [finishChange_of_running hr]
    have hn : s.probes.change.result.isSome = false := by rw [hr]; rfl
    rcases ho with rfl | rfl <;> simp [afterRackEnd, hn]

theorem afterRackEnd_inactive {o : SegOutcome} (ho : Quiet o) {s : State} (ha : s.probes.change.active = false) :
    afterRackEnd o s = s := by
  rw [afterRackEnd_quiet ho, finishChange_of_inactive ha]

/-- Without a change the probe unit is kept by a stop, whatever stands in the queue. -/
theorem endHead_probes_inactive {o : SegOutcome} (ho : Quiet o) {s : State} (ha : s.probes.change.active = false) :
    (endHead o s).probes = s.probes := by
  cases hq : s.motion.queue with
  | nil => simp only [endHead, hq]
  | cons seg rest =>
    have hr : (removeHead o s).probes.change.active = false := by rw [removeHead_probes, ha]
    rw [endHead_eq hq, autoRelease_probes]
    split
    · rw [afterRackEnd_inactive ho hr, removeHead_probes]
    · rw [removeHead_probes]

/-- What a controlled stop can come to, for any head. -/
theorem controlledStop_cases {o : SegOutcome} (ho : o ≠ .touched) (s : State) :
    (s.motion.queue = [] ∧ controlledStop o s = s) ∨
    controlledStop o s = endAtOnce o s ∨
    ∃ seg rest seg', s.motion.queue = seg :: rest ∧ seg'.issuer = seg.issuer ∧
      controlledStop o s = autoRelease (setQueue [seg'] s) := by
  cases hq : s.motion.queue with
  | nil => exact .inl ⟨rfl, controlledStop_nil hq⟩
  | cons seg rest =>
    refine .inr ?_
    simp only [controlledStop, hq, if_neg ho, flushBehind_eq hq, endAtOnce]
    cases seg.state
    case stopping => exact .inr ⟨_, _, counted rest.length seg, rfl, rfl, rfl⟩
    case moving =>
      dsimp only
      split
      · exact .inl rfl
      · exact .inr ⟨_, _, stopMoving o (counted rest.length seg), rfl, rfl, rfl⟩
    all_goals exact .inl rfl

theorem controlledStop_probes_inactive {o : SegOutcome} (ho : Quiet o) {s : State}
    (ha : s.probes.change.active = false) : (controlledStop o s).probes = s.probes := by
  rcases controlledStop_cases ho.ne_touched s with ⟨-, h⟩ | h | ⟨seg, rest, seg', -, -, h⟩ <;> rw [h]
  · rw [endAtOnce, endHead_probes_inactive ho (by rw [flushBehind_probes, ha]), flushBehind_probes]
  · rw [autoRelease_probes]
    rfl

theorem finishChange_controlledStop_inactive {o : SegOutcome} (ho : Quiet o) {s : State}
    (ha : s.probes.change.active = false) : finishChange (controlledStop o s) = controlledStop o s :=
  finishChange_of_inactive (by rw [controlledStop_probes_inactive ho ha, ha])

/-- A claim that is not QUEUED is no concern of the segments that end. -/
theorem headGone_claim_kept {q : List Segment} {s : State} (hc : ∀ x o, s.zones.claim ≠ .queued x o) :
    (headGone q s).zones.claim = s.zones.claim := by
  rw [headGone_claim]
  cases h : s.zones.claim with
  | queued x o => exact absurd h (hc x o)
  | none => rfl
  | window x b => rfl

theorem finishChange_claim (s : State) : (finishChange s).zones.claim = s.zones.claim := by
  rcases finishChange_cases s with h | ⟨r, -, -, -, h⟩ <;> rw [h]
  rw [endChange_zones, autoRelease_claim]

theorem controlledStop_claim_kept {o : SegOutcome} (ho : Quiet o) {s : State}
    (hc : ∀ x b, s.zones.claim ≠ .queued x b) : (controlledStop o s).zones.claim = s.zones.claim := by
  rcases controlledStop_cases ho.ne_touched s with ⟨-, h⟩ | h | ⟨seg, rest, seg', -, -, h⟩ <;> rw [h]
  · cases hq : s.motion.queue with
    | nil => rw [endAtOnce_nil hq]
    | cons seg rest =>
      cases hi : seg.issuer with
      | room =>
        rw [endAtOnce_room hq hi, autoRelease_claim]
        exact headGone_claim_kept (s := latchNotice _ s) hc
      | probeUnit =>
        rw [endAtOnce_rack hq hi, autoRelease_claim, afterRackEnd_quiet ho, finishChange_claim,
          headGone_claim_kept hc]
  · rw [autoRelease_claim]
    rfl

/-! ### A change is aborted (R142) -/

theorem unsureId_outside {s : State} (ha : s.probes.change.active = true) (hr : s.probes.change.result = none)
    (hc : inCommit s = false) :
    unsureId s.probes.change = if s.probes.change.phase = some .identify then s.probes.change.target else 0 := by
  unfold unsureId
  simp only [inCommit, ha, hr, Option.isNone_none, Bool.and_self, Bool.true_and] at hc
  cases hp : s.probes.change.phase with
  | none => simp
  | some ph => cases ph <;> simp [hp] at hc ⊢

theorem abortChange_outside {cause : ChangeCause} {s : State} (ha : s.probes.change.active = true)
    (hr : s.probes.change.result = none) (hc : inCommit s = false) :
    abortChange cause s = abortTaken cause false s := by
  simp [abortChange, ha, hr, hc]

theorem abortChange_idle {cause : ChangeCause} {s : State}
    (h : s.probes.change.active = false ∨ s.probes.change.result ≠ none) : abortChange cause s = s := by
  rcases h with h | h
  · simp [abortChange, h]
  · obtain ⟨r, hr⟩ := Option.ne_none_iff_exists'.mp h
    simp [abortChange, hr]

/-- A change is aborted, and then its segment stops or ends with outcome `o`. In `w` the outcome is taken; the head
may have lost its own claim before. -/
theorem aborted_of_stop {cause : ChangeCause} {o : SegOutcome} {s u w : State} (ho : o ≠ .touched)
    (ha : s.probes.change.active = true) (hr : s.probes.change.result = none) (hc : inCommit s = false)
    (hu : u.probes = s.probes) (hp : w.probes = (abortTaken cause false u).probes) (hq : QueueUnclaimed s w) :
    Aborted cause o s (finishChange (controlledStop o w)) := by
  have hres : w.probes.change = withResult (phaseResult .aborted cause 0 s.probes.change) s.probes.change := by
    rw [hp, abortTaken_probes, hu]
  have hwa : w.probes.change.active = true := by rw [hres]; exact ha
  have hwr : w.probes.change.result = some (phaseResult .aborted cause 0 s.probes.change) := by rw [hres]; rfl
  have hkept : ∀ {α : Type} (f : ProbeUnit → α), (∀ p c, f { p with change := c } = f p) →
      f (finishChange (controlledStop o w)).probes = f w.probes := by
    intro α f hf
    rcases changeKept_controlledStop ho (by rw [hwr]; rfl : w.probes.change.result.isSome = true) with h | h <;> rw [h]
    exact hf _ _
  have hended (hcs : controlledStop o w = endAtOnce o w) :
      (finishChange (controlledStop o w)).motion.queue = [] ∧
        (finishChange (controlledStop o w)).probes.change =
          Change.idle (some (phaseResult .aborted cause 0 s.probes.change)) ∧
        ((finishChange (controlledStop o w)).notices.get 4).pending = true ∧
        ((finishChange (controlledStop o w)).notices.get 4).detail =
          some (.probeChangeEnd s.probes.change.target (phaseResult .aborted cause 0 s.probes.change)) := by
    rw [hcs, finishChange_endAtOnce hwa hwr, endChange_motion, endChange_change, endChange_get, if_pos rfl,
      queueEnded_queue, queueEnded_probes, hres]
    exact ⟨rfl, rfl, event_pending _ _, event_detail _ _⟩
  refine ⟨fun p => ?_, ?_, fun i => ?_, fun seg hseg hi hs => ?_, ?_⟩
  · rw [hkept ProbeUnit.ports fun _ _ => rfl, hp, abortTaken_ports, hu]
  · rw [hkept ProbeUnit.unlockOut fun _ _ => rfl, hp, abortTaken_probes, hu]
  · rw [hkept ProbeUnit.table fun _ _ => rfl, hp, abortTaken_table, hu, unsureId_outside ha hr hc]
    by_cases hph : s.probes.change.phase = some .identify <;> simp [hph]
  · have hw : w.motion.queue = [seg] := hq.cons_of_ne hseg (by rw [hs.1]; decide)
    have hi' : (stopMoving o (counted 0 seg)).issuer = .probeUnit := hi
    rw [controlledStop_shedding ho hw hs,
      finishChange_waits (seg := stopMoving o (counted 0 seg)) (rest := []) (by rw [autoRelease_motion]; rfl) hi',
      autoRelease_motion, autoRelease_probes]
    exact ⟨rfl, hres⟩
  · rintro (hnil | ⟨seg, hseg, hi, hs⟩)
    · have hw := hq.nil hnil
      exact hended (by rw [controlledStop_nil hw, endAtOnce_nil hw])
    · obtain ⟨seg', hw, hs', hi', -, -⟩ := hq.speedless hseg hs
      exact hended (controlledStop_speedless ho hw hs')

/-! ### HALT (R76, R142) -/

/-- A HALT outside the commit stretches. -/
theorem haltMotion_outside {cause : ChangeCause} {s : State} (hc : inCommit s = false) : haltMotion cause s =
    finishChange (controlledStop .halted (withdrawClaim (abortChange cause s))) := by
  rw [haltMotion, if_neg (by simp [hc])]

theorem inCommit_of_inactive {s : State} (h : s.probes.change.active = false) : inCommit s = false := by
  simp [inCommit, h]

theorem inCommit_of_result {s : State} (h : s.probes.change.result ≠ none) : inCommit s = false := by
  obtain ⟨r, hr⟩ := Option.ne_none_iff_exists'.mp h
  simp [inCommit, hr]

theorem inCommit_congr {s t : State} (h : t.probes = s.probes) : inCommit t = inCommit s := by
  simp only [inCommit, h]

/-- Inside a commit stretch an abort is only noted, unless a HALT or a MUTE is noted already. -/
theorem abortChange_commit {cause : ChangeCause} {s : State} (hc : inCommit s = true) : abortChange cause s =
    setChange { s.probes.change with deferred :=
      if s.probes.change.deferred = .halted ∨ s.probes.change.deferred = .mute then s.probes.change.deferred
      else cause } s := by
  have hrun : (s.probes.change.active && s.probes.change.result.isNone) = true := by
    simp only [inCommit, Bool.and_eq_true] at hc ⊢
    exact hc.1
  simp only [abortChange, hrun, hc, if_true]
  split
  · rfl
  · rfl

theorem haltMotion_commit {cause : ChangeCause} {s : State} (hc : inCommit s = true) :
    haltMotion cause s = abortChange cause s := if_pos hc

/-- Without an attempt in flight a withdrawal leaves no QUEUED claim. -/
theorem withdrawClaim_unclaimed {s : State} (hf : inFlight s .claim = false) :
    (withdrawClaim s).zones.claim = match s.zones.claim with
      | .queued _ _ => .none
      | c => c := by
  cases hc : s.zones.claim with
  | queued x o => rw [withdrawClaim_queued hc hf]
  | none => rw [withdrawClaim_none (by simp [hc]), hc]
  | window x b => rw [withdrawClaim_none (by simp [hc]), hc]

/-- Settles O25: a HALT by where the change stands, and then by the head. -/
theorem haltStopsTheHead : Obligations.HaltStopsTheHead := by
  intro f s hh h mine unclaimedOf
  have hprobes : h.probes = s.probes := heard_probes f s
  have hexec (hm : mine) : exec (.halt f) s = .next (settled (haltMotion .halted h)) := by
    refine next_heard hh ((sized_of hm.1 _).trans (if_pos ?_))
    simpa [addressed] using hm.2
  have honly : MotionOnly h (haltMotion .halted h) := motionOnly_haltMotion .halted h
  refine ⟨fun hm => ?_, fun hm ha hr => ⟨fun hc => ?_, fun hc => ?_⟩, fun hm ha hr => ?_, fun hm ha => ?_⟩
  · by_cases hl : f.payload.length = 1
    · refine next_heard hh ((sized_of hl _).trans (if_neg fun hd => hm ⟨hl, ?_⟩))
      simpa [addressed] using hd
    · exact next_heard hh (sized_other hl _)
  · rw [hexec hm, haltMotion_commit (by rw [inCommit_congr hprobes, hc]),
      abortChange_commit (by rw [inCommit_congr hprobes, hc]), setChange, hprobes]
    cases s.probes.change.deferred <;> rfl
  · have hc' : inCommit h = false := by rw [inCommit_congr hprobes, hc]
    refine ⟨_, hexec hm, honly, ?_⟩
    rw [haltMotion_outside hc', abortChange_outside (by rw [hprobes, ha]) (by rw [hprobes, hr]) hc']
    refine aborted_of_stop (u := h) (by decide) ha hr hc hprobes (withdrawClaim_probes _) ?_
    have hq := queueUnclaimed_withdrawClaim (abortTaken .halted false h)
    rw [QueueUnclaimed, abortTaken_motion] at hq
    rw [QueueUnclaimed, ← heard_motion f s]
    exact hq
  · have hr' : h.probes.change.result ≠ none := by rw [hprobes]; exact hr
    refine ⟨_, hexec hm, honly, ?_⟩
    rw [haltMotion_outside (inCommit_of_result hr'), abortChange_idle (.inr hr')]
    have hk := changeKept_controlledStop (o := .halted) (by decide) (s := withdrawClaim h)
      (by rw [withdrawClaim_probes]; exact Option.isSome_iff_ne_none.mpr hr')
    rw [← hprobes, ← withdrawClaim_probes h]
    rcases hk with hk | hk <;> rw [hk]
    · exact .inl rfl
    · exact .inr rfl
  · have ha' : h.probes.change.active = false := by rw [hprobes, ha]
    have hw : (withdrawClaim h).probes.change.active = false := by rw [withdrawClaim_probes, ha']
    have hv : haltMotion .halted h = controlledStop .halted (withdrawClaim h) := by
      rw [haltMotion_outside (inCommit_of_inactive ha'), abortChange_idle (.inl ha'),
        finishChange_controlledStop_inactive (.inl rfl) hw]
    have hq : QueueUnclaimed s (withdrawClaim h) := by
      rw [QueueUnclaimed, ← heard_motion f s]
      exact queueUnclaimed_withdrawClaim h
    refine ⟨_, hexec hm, honly, ?_⟩
    rw [hv]
    refine ⟨?_, fun hnil => ?_, fun seg rest hseg hmv har hu hs => ?_, fun seg rest hseg hst => ?_,
      fun seg rest hseg hs hi => ?_⟩
    · have hfl : inFlight h .claim = false :=
        not_inFlight (by rw [show h.line.attempt = s.line.attempt from heard_line_attempt f s]; exact hh.noAttempt)
      have hwc := withdrawClaim_unclaimed hfl
      rw [show h.zones = s.zones from heard_zones f s] at hwc
      have hnone : ∀ x b, (withdrawClaim h).zones.claim ≠ .queued x b := fun x b => by
        rw [hwc]
        cases s.zones.claim <;> simp
      exact ((controlledStop_claim_kept (.inl rfl) hnone).trans hwc).trans (by cases s.zones.claim <;> rfl)
    · rw [controlledStop_nil (hq.nil hnil), hq.nil hnil]
    · have hsw := hq.cons_of_ne hseg (by rw [hmv]; decide)
      rw [controlledStop_shedding (by decide) hsw ⟨hmv, har, hu, hs⟩, autoRelease_motion]
      rfl
    · have hsw := hq.cons_of_ne hseg (by rw [hst]; decide)
      rw [controlledStop_stopping (by decide) hsw hst, autoRelease_motion]
      rfl
    · obtain ⟨seg', hsw, hs', hi', hn, hfl⟩ := hq.speedless hseg hs
      rw [controlledStop_speedless (by decide) hsw hs', endAtOnce_segmentEnd hsw (hi'.trans hi), hn, hfl]
      exact ⟨endAtOnce_empty (by decide) _, event_detail _ _⟩

end Sys2Proof.Machine

/-! What a stop HALTED or LAPSED leaves, whatever the queue holds, and the permit: settling O26. -/

namespace Sys2Proof.Machine

/-! ### Quiet stops, for every queue -/

theorem sameBed_segmentEnds (o : SegOutcome) (seg : Segment) (s : State) : SameBed s (segmentEnds o seg s) := by
  unfold segmentEnds
  split
  · exact sameBed_latchNotice _ s
  · exact ⟨rfl, rfl, rfl, rfl, rfl⟩

theorem sameBed_queueEnded (o : SegOutcome) (s : State) : SameBed s (queueEnded o s) := by
  cases hq : s.motion.queue with
  | nil => rw [queueEnded_nil hq]; exact ⟨rfl, rfl, rfl, rfl, rfl⟩
  | cons seg rest =>
    rw [queueEnded_cons hq]
    exact (sameBed_segmentEnds _ _ s).trans (sameBed_headGone _ _)

/-- An end HALTED or LAPSED, for a head of either issuer: the end of the queue, then of a change with its outcome
taken, then auto-release. -/
theorem endAtOnce_quiet {o : SegOutcome} (ho : Quiet o) {s : State} (hq : s.motion.queue ≠ []) :
    endAtOnce o s = autoRelease (queueEnded o s) ∨
      endAtOnce o s = autoRelease (finishChange (queueEnded o s)) := by
  cases hs : s.motion.queue with
  | nil => exact absurd hs hq
  | cons seg rest =>
    cases hi : seg.issuer with
    | room =>
      refine .inl ?_
      rw [endAtOnce_room hs hi, queueEnded_cons hs, segmentEnds,
        if_pos (show (counted rest.length seg).issuer = .room from hi)]
      rfl
    | probeUnit =>
      refine .inr ?_
      rw [endAtOnce_rack hs hi, queueEnded_rack hs hi, afterRackEnd_quiet ho]

theorem finishChange_motion (s : State) : (finishChange s).motion = s.motion := by
  rcases finishChange_cases s with h | ⟨r, -, -, -, h⟩ <;> rw [h]
  exact endChange_motion r s

theorem finishChange_get {k : Fin 9} (h4 : k ≠ 4) (s : State) :
    (finishChange s).notices.get k = s.notices.get k := by
  rcases finishChange_cases s with h | ⟨r, -, -, -, h⟩ <;> rw [h]
  rw [endChange_get, if_neg h4]

/-- A stop HALTED or LAPSED changes nothing of the motion sequencer but the queue. -/
theorem quietStop_motion {o : SegOutcome} (ho : Quiet o) (s : State) : (finishChange (controlledStop o s)).motion =
    { s.motion with queue := (finishChange (controlledStop o s)).motion.queue } := by
  rw [finishChange_motion]
  rcases controlledStop_cases ho.ne_touched s with ⟨-, h⟩ | h | ⟨seg, rest, seg', -, -, h⟩ <;> rw [h]
  · by_cases hq : s.motion.queue = []
    · rw [endAtOnce_nil hq]
    · rcases endAtOnce_quiet ho hq with h | h <;> rw [h, autoRelease_motion]
      · rw [queueEnded_motion]
      · rw [finishChange_motion, queueEnded_motion]
  · rw [autoRelease_motion]
    rfl

/-- It latches nothing but SEGMENT END and PROBE CHANGE END. -/
theorem quietStop_get {o : SegOutcome} (ho : Quiet o) (s : State) {k : Fin 9} (h4 : k ≠ 4) (h6 : k ≠ 6) :
    (finishChange (controlledStop o s)).notices.get k = s.notices.get k := by
  rw [finishChange_get h4]
  rcases controlledStop_cases ho.ne_touched s with ⟨-, h⟩ | h | ⟨seg, rest, seg', -, -, h⟩ <;> rw [h]
  · by_cases hq : s.motion.queue = []
    · rw [endAtOnce_nil hq]
    · rcases endAtOnce_quiet ho hq with h | h <;> rw [h, autoRelease_notices]
      · exact queueEnded_get o s h6
      · rw [finishChange_get h4, queueEnded_get o s h6]
  · rw [autoRelease_notices]
    rfl

/-- Auto-release runs once with a stop HALTED or LAPSED, where there is a head or a change to stop; a change has its
outcome. -/
theorem released_quietStop {o : SegOutcome} (ho : Quiet o) {s u : State} (h : SameBed s u)
    (hq : u.motion.queue = [] ↔ s.motion.queue = []) (ha : u.probes.change.active = s.probes.change.active)
    (hr : u.probes.change.active = true → u.probes.change.result ≠ none) :
    Released s (finishChange (controlledStop o u)) := by
  have hended {w : State} (r : ChangeResult) (hw : SameBed u w)
      (hne : s.motion.queue ≠ [] ∨ s.probes.change.active = true) : Released s (endChange r w) :=
    released_of_autoRelease (h.trans hw) hne (endChange_zones r w) (endChange_axes r w) (endChange_motion r w)
  have hself : SameBed u u := ⟨rfl, rfl, rfl, rfl, rfl⟩
  by_cases hnil : u.motion.queue = []
  · rw [controlledStop_nil hnil]
    cases hact : u.probes.change.active with
    | true =>
      obtain ⟨r, hres⟩ := Option.ne_none_iff_exists'.mp (hr hact)
      rw [finishChange_empty hnil hact hres]
      exact hended r hself (.inr (ha ▸ hact))
    | false =>
      rw [finishChange_of_inactive hact]
      exact released_of_idle (hq.mp hnil) (ha ▸ hact) h.zones
  · have hne := mt hq.mpr hnil
    have hreleased {w : State} (hw : SameBed u w) : Released s (autoRelease w) :=
      released_of_autoRelease (h.trans hw) (.inl hne) rfl (autoRelease_axes w) (autoRelease_motion w)
    rcases controlledStop_cases ho.ne_touched u with ⟨hn, -⟩ | hcs | ⟨seg, rest, seg', -, -, hcs⟩
    · exact absurd hn hnil
    · rw [hcs]
      cases hact : u.probes.change.active with
      | true =>
        obtain ⟨r, hres⟩ := Option.ne_none_iff_exists'.mp (hr hact)
        rw [finishChange_endAtOnce hact hres]
        exact hended r (sameBed_queueEnded o u) (.inl hne)
      | false =>
        have hact' : (queueEnded o u).probes.change.active = false := by rw [queueEnded_probes, hact]
        have hend : endAtOnce o u = autoRelease (queueEnded o u) := by
          rcases endAtOnce_quiet ho hnil with h | h
          · exact h
          · rw [h, finishChange_of_inactive hact']
        rw [hend, finishChange_of_inactive (by rw [autoRelease_probes, hact'])]
        exact hreleased (sameBed_queueEnded o u)
    · rw [hcs]
      rcases finishChange_cases (autoRelease (setQueue [seg'] u)) with hf | ⟨r, -, -, -, hf⟩ <;> rw [hf]
      · exact hreleased (sameBed_setQueue [seg'] u)
      · rw [endChange_autoRelease]
        exact hended r (sameBed_setQueue [seg'] u) (.inl hne)

/-! ### The permit lapses (R79, R143) -/

/-- The permit LAPSED with its cause latched, before motion stops. -/
def lapsed (hello : Bool) (s : State) : State :=
  latchNotice (.permitLapsed hello) { s with motion := { s.motion with permit := .lapsed, permitTimer := none } }

theorem lapsed_get (hello : Bool) (s : State) {k : Fin 9} (h5 : k ≠ 5) :
    (lapsed hello s).notices.get k = s.notices.get k :=
  latchNotice_other (n := .permitLapsed hello) h5.symm _

theorem lapsed_get5 (hello : Bool) (s : State) :
    (lapsed hello s).notices.get 5 = (s.notices.get 5).event (.permitLapsed hello) :=
  latchNotice_at (n := .permitLapsed hello) rfl _

theorem sameHead_lapsed (hello : Bool) (s : State) : SameHead s (lapsed hello s) :=
  ⟨⟨rfl, rfl, rfl, rfl, rfl⟩, rfl, rfl, rfl, rfl, rfl⟩

theorem permitExpire_idle {hello : Bool} {s : State} (hv : s.motion.permit = .valid)
    (h : s.probes.change.active = false ∨ s.probes.change.result ≠ none) :
    permitExpire hello s = finishChange (controlledStop .lapsed (lapsed hello s)) := by
  have hc : inCommit s = false := h.elim inCommit_of_inactive inCommit_of_result
  have hrun : (s.probes.change.active && s.probes.change.result.isNone) = false := by
    rcases h with h | h
    · simp [h]
    · simpa using fun _ => Option.isSome_iff_ne_none.mpr h
  unfold permitExpire
  rw [if_neg (by simp [hv]), if_neg (by simp [hc])]
  exact congrArg (fun u => finishChange (controlledStop .lapsed u)) (if_neg (by simp [hrun]))

theorem permitExpire_outside {hello : Bool} {s : State} (hv : s.motion.permit = .valid)
    (ha : s.probes.change.active = true) (hr : s.probes.change.result = none) (hc : inCommit s = false) :
    permitExpire hello s = finishChange (controlledStop .lapsed (abortTaken .lapsed false (lapsed hello s))) := by
  unfold permitExpire
  rw [if_neg (by simp [hv]), if_neg (by simp [hc])]
  exact congrArg (fun u => finishChange (controlledStop .lapsed u)) (if_pos (by simp [ha, hr]))

theorem permitExpire_commit {hello : Bool} {s : State} (hv : s.motion.permit = .valid) (hc : inCommit s = true) :
    permitExpire hello s = { s with
      motion := { s.motion with permitTimer := none }
      probes := { s.probes with change := { s.probes.change with
        deferred := if s.probes.change.deferred = .none then .lapsed else s.probes.change.deferred
        expiry := if s.probes.change.expiry = .none then (if hello then .hello else .timer)
          else s.probes.change.expiry } } } := by
  unfold permitExpire
  rw [if_neg (by simp [hv]), if_pos hc]
  rfl

end Sys2Proof.Machine

namespace Sys2Proof.Machine

/-! ### The permit frame and the end of a commit stretch -/

theorem permitRenew_eq (s : State) : permitRenew s =
    let s1 : State := { s with motion := { s.motion with
      permit := .valid, permitTimer := some (s.uptime + s.station.permitTime * 10000) } }
    if s.probes.change.expiry = .none then s1
    else setChange { s.probes.change with
      expiry := .none
      deferred := if s.probes.change.deferred = .lapsed then .none else s.probes.change.deferred } s1 :=
  rfl

/-- A change in its commit stretch that has a cause noted ends with it, and an expiry noted is taken (R142, R143). -/
theorem stretchEnded_deferred {proven : Bool} {next : State → State} {s : State} (hq : s.motion.queue = [])
    (ha : s.probes.change.active = true) (hd : s.probes.change.deferred ≠ .none) : stretchEnded proven next s =
      endChange (phaseResult .aborted s.probes.change.deferred 0 s.probes.change)
        (takeDeferredExpiry (abortTaken s.probes.change.deferred proven s)) := by
  unfold stretchEnded
  dsimp only
  rw [if_neg hd]
  refine finishChange_empty ?_ ?_ ?_
  · rw [takeDeferredExpiry_motion, abortTaken_motion]
    exact hq
  · rw [takeDeferredExpiry_probes, abortTaken_probes]
    exact ha
  · rw [takeDeferredExpiry_probes, abortTaken_probes]
    rfl

/-- A permit timer at its deadline. -/
theorem next_permitExpiry {t : Tick} {s : State} {d : Nat} (hr : s.inReset = false)
    (hd : s.motion.permitTimer = some d) (hle : d ≤ (advance t s).uptime) :
    exec (.permitTimerExpiry t) s = .next (finish (permitExpire false (advance t s))) := by
  refine next_timed hr (if_pos ?_)
  rw [due_some (d := d) (by simpa using hd)]
  exact decide_eq_true hle

theorem sameHead_advance (t : Tick) (s : State) : SameHead s (advance t s) :=
  ⟨⟨rfl, rfl, rfl, by simp, advance_joined t s⟩, rfl, rfl, rfl, rfl, by simp⟩

/-- What every expiry of a permit leaves that is taken at once: the permit LAPSED with its cause latched, and
auto-release run (R79). -/
structure PermitGone (hello : Bool) (a v : State) : Prop where
  only : MotionOnly a v
  released : Released a v
  permit : v.motion.permit = .lapsed
  timer : v.motion.permitTimer = none
  latched : v.notices.get 5 = (a.notices.get 5).event (.permitLapsed hello)

theorem permitGone_of_stop {hello : Bool} {a w : State} (hm : w.motion = (lapsed hello a).motion)
    (hn : w.notices = (lapsed hello a).notices) (hbed : SameBed a w)
    (ha : w.probes.change.active = a.probes.change.active)
    (hr : w.probes.change.active = true → w.probes.change.result ≠ none)
    (hv : permitExpire hello a = finishChange (controlledStop .lapsed w)) :
    PermitGone hello a (permitExpire hello a) := by
  have hmotion := quietStop_motion (o := .lapsed) (.inr rfl) w
  rw [← hv] at hmotion
  have hq : w.motion.queue = a.motion.queue := by rw [hm]; rfl
  refine ⟨motionOnly_permitExpire hello a, ?_, ?_, ?_, ?_⟩
  · rw [hv]
    exact released_quietStop (.inr rfl) hbed (by rw [hq]) ha hr
  · rw [hmotion, hm]
    rfl
  · rw [hmotion, hm]
    rfl
  · rw [hv, quietStop_get (.inr rfl) w (by decide) (by decide), hn, lapsed_get5]

theorem permitGone_idle {hello : Bool} {a : State} (hv : a.motion.permit = .valid)
    (h : a.probes.change.active = false ∨ a.probes.change.result ≠ none) :
    PermitGone hello a (permitExpire hello a) :=
  permitGone_of_stop (w := lapsed hello a) rfl rfl (sameHead_lapsed hello a).toSameBed rfl
    (fun ha => h.resolve_left (by rw [show a.probes.change.active = true from ha]; decide)) (permitExpire_idle hv h)

theorem sameBed_abortTaken (c : ChangeCause) (p : Bool) (s : State) : SameBed s (abortTaken c p s) :=
  { station := (motionOnly_abortTaken c p s).station
    axisCount := (motionOnly_abortTaken c p s).axisCount
    zones := by rw [(rackOnly_abortTaken c p s).zones]
    number := by rw [(rackOnly_abortTaken c p s).line]
    joined := by rw [joined, joined, (rackOnly_abortTaken c p s).line] }

/-- Outside the commit stretches the change is aborted too (R142, R143). -/
theorem permitGone_aborted {hello : Bool} {a : State} (hv : a.motion.permit = .valid)
    (ha : a.probes.change.active = true) (hr : a.probes.change.result = none) (hc : inCommit a = false) :
    PermitGone hello a (permitExpire hello a) ∧ Aborted .lapsed .lapsed a (permitExpire hello a) := by
  have hexp := permitExpire_outside (hello := hello) hv ha hr hc
  have hchange := congrArg ProbeUnit.change (abortTaken_probes .lapsed false (lapsed hello a))
  refine ⟨permitGone_of_stop (abortTaken_motion _ _ _) (abortTaken_notices _ _ _)
    ((sameHead_lapsed hello a).toSameBed.trans (sameBed_abortTaken _ _ _)) ?_ (fun _ => ?_) hexp, ?_⟩
  · rw [hchange]; rfl
  · rw [hchange]; exact Option.some_ne_none _
  · rw [hexp]
    exact aborted_of_stop (u := lapsed hello a) (by decide) ha hr hc rfl rfl (.inl (by rw [abortTaken_motion]; rfl))

/-- What an expiry leaves when no change is in progress, by the head (R73, R79). -/
structure LapsedRoom (hello : Bool) (a v : State) : Prop extends PermitGone hello a v where
  empty : a.motion.queue = [] → v.motion.queue = [] ∧ v.zones = a.zones ∧ v.slots = a.slots ∧ v.probes = a.probes
  shedding : ∀ seg rest, a.motion.queue = seg :: rest → Shedding seg →
    v.motion.queue = [stopMoving .lapsed (counted rest.length seg)] ∧ v.probes = a.probes ∧
      v.zones.claim = a.zones.claim
  stopping : ∀ seg rest, a.motion.queue = seg :: rest → seg.state = .stopping →
    v.motion.queue = [counted rest.length seg] ∧ v.probes = a.probes ∧ v.zones.claim = a.zones.claim
  speedless : ∀ seg rest, a.motion.queue = seg :: rest → Speedless seg → seg.issuer = .room →
    v.motion.queue = [] ∧ HeadDropped a v ∧ (v.notices.get 6).detail =
      some (.segmentEnd seg.number .lapsed (min 7 (seg.flushed + rest.length)))

theorem lapsedRoom_expire {hello : Bool} {a : State} (hv : a.motion.permit = .valid)
    (ha : a.probes.change.active = false) : LapsedRoom hello a (permitExpire hello a) := by
  have hexp : permitExpire hello a = controlledStop .lapsed (lapsed hello a) := by
    rw [permitExpire_idle hv (.inl ha), finishChange_controlledStop_inactive (.inr rfl) (s := lapsed hello a) ha]
  refine { permitGone_idle hv (.inl ha) with
    empty := fun hq => ?_, shedding := fun seg rest hq hs => ?_, stopping := fun seg rest hq hs => ?_,
    speedless := fun seg rest hq hs hi => ?_ }
  · rw [hexp, controlledStop_nil (s := lapsed hello a) hq]
    exact ⟨hq, rfl, rfl, rfl⟩
  · rw [hexp, controlledStop_shedding (s := lapsed hello a) (by decide) hq hs, autoRelease_motion, autoRelease_probes,
      autoRelease_claim]
    exact ⟨rfl, rfl, rfl⟩
  · rw [hexp, controlledStop_stopping (s := lapsed hello a) (by decide) hq hs, autoRelease_motion, autoRelease_probes,
      autoRelease_claim]
    exact ⟨rfl, rfl, rfl⟩
  · have hroom : ∀ seg' rest', a.motion.queue = seg' :: rest' → seg'.issuer = .room := by
      intro seg' rest' h'
      rw [hq, List.cons.injEq] at h'
      rw [← h'.1, hi]
    rw [hexp, controlledStop_speedless (s := lapsed hello a) (by decide) hq hs,
      endAtOnce_segmentEnd (s := lapsed hello a) hq hi]
    exact ⟨endAtOnce_empty (by decide) _, headDropped_endAtOnce (sameHead_lapsed hello a) hroom ha, event_detail _ _⟩

/-- What an expiry leaves of a change that has taken its outcome `r`, by its segment (R142, R146). -/
structure LapsedTaken (hello : Bool) (r : ChangeResult) (a v : State) : Prop extends PermitGone hello a v where
  stopping : ∀ seg, a.motion.queue = [seg] → seg.issuer = .probeUnit → seg.state = .stopping →
    v.motion.queue = [counted 0 seg] ∧ v.probes = a.probes
  shedding : ∀ seg, a.motion.queue = [seg] → seg.issuer = .probeUnit → Shedding seg →
    v.motion.queue = [stopMoving .lapsed (counted 0 seg)] ∧ v.probes = a.probes
  speedless : ∀ seg, a.motion.queue = [seg] → seg.issuer = .probeUnit → Speedless seg → v.motion.queue = [] ∧
    v.probes = { a.probes with change := Change.idle a.probes.change.last } ∧
    v.notices.get 4 = (a.notices.get 4).event (.probeChangeEnd a.probes.change.target r)

theorem lapsedTaken_expire {hello : Bool} {r : ChangeResult} {a : State} (hv : a.motion.permit = .valid)
    (ha : a.probes.change.active = true) (hr : a.probes.change.result = some r) :
    LapsedTaken hello r a (permitExpire hello a) := by
  have hne : a.probes.change.result ≠ none := by rw [hr]; exact Option.some_ne_none r
  have hexp := permitExpire_idle (hello := hello) hv (.inr hne)
  refine { permitGone_idle hv (.inr hne) with
    stopping := fun seg hq hi hs => ?_, shedding := fun seg hq hi hs => ?_, speedless := fun seg hq hi hs => ?_ }
  · rw [hexp, controlledStop_stopping (s := lapsed hello a) (by decide) hq hs,
      finishChange_waits (seg := counted 0 seg) (rest := []) (by rw [autoRelease_motion]; rfl) hi, autoRelease_motion,
      autoRelease_probes]
    exact ⟨rfl, rfl⟩
  · rw [hexp, controlledStop_shedding (s := lapsed hello a) (by decide) hq hs,
      finishChange_waits (seg := stopMoving .lapsed (counted 0 seg)) (rest := []) (by rw [autoRelease_motion]; rfl) hi,
      autoRelease_motion, autoRelease_probes]
    exact ⟨rfl, rfl⟩
  · rw [hexp, controlledStop_speedless (s := lapsed hello a) (by decide) hq hs,
      finishChange_endAtOnce (s := lapsed hello a) ha hr, endChange_motion, endChange_probes, endChange_get, if_pos rfl,
      queueEnded_queue, queueEnded_probes, queueEnded_get _ _ (by decide), lapsed_get _ _ (by decide)]
    exact ⟨rfl, rfl, rfl⟩

/-- Settles O26: the permit frame, its expiry by where the change stands and then by the head, and the stretch that
ends with an expiry noted. -/
theorem permitKeepsMotionAlive : Obligations.PermitKeepsMotionAlive := by
  refine ⟨fun f s hh => ?_, ⟨fun t s d hr hv hd hle ha => ?_, fun t s d r hr hv hd hle ha hres => ?_,
    fun t s d hr hv hd hle ha hres => ?_, fun s proven next hq ha => ?_, fun t s hr hd => ?_⟩⟩
  · intro h granted c renewed
    have hprobes : h.probes = s.probes := heard_probes f s
    have hperm (hg : granted) : hearPermit f.sender.toNat h = permitRenew h := by
      refine if_pos ?_
      rw [show h.station = s.station from heard_station f s]
      exact hg.2
    have hrenewed : renewed = { h with motion := { h.motion with
        permit := .valid, permitTimer := some (h.uptime + h.station.permitTime * 10000) } } := by
      refine congrArg (fun m => { h with motion := m }) ?_
      rw [show h.motion = s.motion from heard_motion f s, show h.station = s.station from heard_station f s,
        show h.uptime = _ from heard_uptime f s]
    have hren : permitRenew h = if c.expiry = .none then renewed else setChange { c with
        expiry := .none, deferred := if c.deferred = .lapsed then .none else c.deferred } renewed := by
      rw [hrenewed, permitRenew_eq, hprobes]
    refine ⟨fun hg he => ?_, fun hg he => ?_, fun hg => ?_⟩
    · refine next_heard hh ((sized_of (by rw [hg.1]; rfl) _).trans ((hperm hg).trans ?_))
      rw [hren, if_pos he]
    · refine next_heard hh ((sized_of (by rw [hg.1]; rfl) _).trans ((hperm hg).trans ?_))
      rw [hren, if_neg he, setChange, show renewed.probes = s.probes from hprobes]
    · by_cases hl : f.payload.length = 0
      · refine next_heard hh ((sized_of hl _).trans (if_neg fun hn => hg ⟨List.length_eq_zero_iff.mp hl, ?_⟩))
        rwa [show h.station = s.station from heard_station f s] at hn
      · exact next_heard hh (sized_other hl _)
  · have hL := lapsedRoom_expire (hello := false) (a := advance t s) hv ha
    exact ⟨_, next_permitExpiry hr hd hle, hL.only, hL.released, hL.permit, hL.timer, hL.latched, hL.empty,
      fun seg rest hq => ⟨hL.shedding seg rest hq, hL.stopping seg rest hq, hL.speedless seg rest hq⟩⟩
  · have hL := lapsedTaken_expire (hello := false) (a := advance t s) hv ha hres
    exact ⟨_, next_permitExpiry hr hd hle, hL.only, hL.released, hL.permit, hL.timer, hL.latched,
      fun seg hq hi => ⟨hL.stopping seg hq hi, hL.shedding seg hq hi, hL.speedless seg hq hi⟩⟩
  · intro c
    refine ⟨fun hc => ?_, fun hc => ?_⟩
    · rw [next_permitExpiry hr hd hle, permitExpire_commit (s := advance t s) hv hc]
      rfl
    · have hL := permitGone_aborted (hello := false) (a := advance t s) hv ha hres hc
      exact ⟨_, next_permitExpiry hr hd hle, hL.1.only, hL.1.permit, hL.1.timer, hL.1.latched,
        { lids := hL.2.lids, lock := hL.2.lock, table := hL.2.table, stops := hL.2.stops, ends := hL.2.ends }⟩
  · intro c v taken
    refine ⟨fun hdef hexp => ?_, fun hdef => ?_⟩
    · exact (if_pos hdef).trans (congrArg next (takeDeferredExpiry_none hexp))
    · have hv : v = _ := stretchEnded_deferred hq ha hdef
      have hchange := congrArg ProbeUnit.change (abortTaken_probes s.probes.change.deferred proven s)
      have h4 : (v.notices.get 4).detail = some (.probeChangeEnd c.target
          { outcome := .aborted, phase := c.phaseNumber, cause := c.deferred, idRead := 0 }) := by
        rw [hv, endChange_get, if_pos rfl, event_detail, takeDeferredExpiry_probes, hchange]
        rfl
      have h5 : v.notices.get 5 = if taken then (s.notices.get 5).event (.permitLapsed (c.expiry == .hello))
          else s.notices.get 5 := by
        rw [hv, endChange_get, if_neg (show ¬(5 : Fin 9) = 4 by decide), takeDeferredExpiry_get, hchange,
          abortTaken_notices]
        exact if_congr (and_iff_right rfl) rfl rfl
      refine ⟨?_, h4, ?_, h5⟩
      · rw [hv, endChange_change, takeDeferredExpiry_probes, hchange]
        rfl
      · rw [hv, endChange_motion, takeDeferredExpiry_motion, hchange, abortTaken_motion]
        exact (ite_not _ _ _).symm
  · refine next_timed hr (if_neg ?_)
    rw [not_due (by simpa using hd)]
    decide

end Sys2Proof.Machine

/-! HELLO frames: settling O32. -/

namespace Sys2Proof.Machine

theorem Aborted.congr {cause : ChangeCause} {o : SegOutcome} {s u t : State} (h : Aborted cause o u t)
    (hp : u.probes = s.probes) (hm : u.motion = s.motion) : Aborted cause o s t := by
  obtain ⟨h1, h2, h3, h4, h5⟩ := h
  rw [hp] at h1 h2 h3 h4 h5
  rw [hm] at h4 h5
  exact ⟨h1, h2, h3, h4, h5⟩

/-- What a HELLO of station `o` forgets of it: its zones and its temperature (R37, R102). -/
def forgotten (o : Nat) (s : State) : State := { s with
  zones := { s.zones with view := tab16 fun z => match s.zones.view.get z with
    | some k => if k.holder = o then none else some k
    | none => none }
  thermal := { s.thermal with peer :=
    if o = s.thermal.peerStation then { s.thermal.peer with standing := .gone, timer := none } else s.thermal.peer } }

theorem forgotten_eq (o : Nat) {s : State} {zones : ZoneUnit} {thermal : Thermal} (hz : s.zones = zones)
    (ht : s.thermal = thermal) : forgotten o s = { s with
      zones := { zones with view := tab16 fun z => match zones.view.get z with
        | some k => if k.holder = o then none else some k
        | none => none }
      thermal := { thermal with peer :=
        if o = thermal.peerStation then { thermal.peer with standing := .gone, timer := none }
        else thermal.peer } } := by
  subst hz ht
  rfl

theorem has_allZones (z : Fin 16) : ZoneSet.has allZones z = true := by fin_cases z <;> rfl

theorem freeHeldBy_all (o : Nat) (s : State) : freeHeldBy o allZones s = { s with
    zones := { s.zones with view := tab16 fun z => match s.zones.view.get z with
      | some k => if k.holder = o then none else some k
      | none => none } } := by
  have hview : (freeHeldBy o allZones s).zones.view = tab16 fun z => match s.zones.view.get z with
      | some k => if k.holder = o then none else some k
      | none => none := by
    refine vector_ext_get fun z => ?_
    rw [freeHeldBy_view, tab16_get]
    cases s.zones.view.get z with
    | none => rfl
    | some k => simp [has_allZones]
  calc freeHeldBy o allZones s
      = { s with zones := { s.zones with view := (freeHeldBy o allZones s).zones.view } } := rfl
    _ = _ := by rw [hview]

theorem hearHello_eq (o : Nat) (s : State) : hearHello o s =
    if s.station.mode = .run ∧ o = s.station.controller then permitExpire true (forgotten o s) else forgotten o s := by
  have hforget : (if o = (freeHeldBy o allZones s).thermal.peerStation then
      { freeHeldBy o allZones s with thermal := { (freeHeldBy o allZones s).thermal with
        peer := { (freeHeldBy o allZones s).thermal.peer with standing := .gone, timer := none } } }
      else freeHeldBy o allZones s) = forgotten o s := by
    rw [freeHeldBy_all]
    unfold forgotten
    dsimp only
    split <;> rfl
  unfold hearHello
  exact if_congr Iff.rfl (congrArg (permitExpire true) hforget) hforget

/-- Settles O32: a HELLO forgets its sender, and that of the controlling station takes the permit with it. -/
theorem helloForgetsItsSender : Obligations.HelloForgetsItsSender := by
  intro f s hh h o w commands
  have hst : h.station = s.station := heard_station f s
  have hw : w = forgotten o h := by
    have hz : h.zones = s.zones := heard_zones f s
    have ht : h.thermal = s.thermal := heard_thermal f s
    exact (forgotten_eq o hz ht).symm
  have hwm : w.motion = s.motion := heard_motion f s
  have hwp : w.probes = s.probes := heard_probes f s
  have hwn : w.notices = s.notices := heard_notices f s
  have hcom : (h.station.mode = .run ∧ o = h.station.controller) ↔ commands := by rw [hst]
  have hplain (hl : f.payload.length = 2) (hc : ¬ commands) : exec (.helloReceived f) s = .next (settled w) := by
    refine next_heard hh ((sized_of hl _).trans ((hearHello_eq o h).trans ?_))
    rw [if_neg (mt hcom.mp hc), hw]
  have hexec (hl : f.payload.length = 2) (hc : commands) :
      exec (.helloReceived f) s = .next (settled (permitExpire true w)) := by
    refine next_heard hh ((sized_of hl _).trans ((hearHello_eq o h).trans ?_))
    rw [if_pos (hcom.mpr hc), hw]
  refine ⟨fun hl => next_heard hh (sized_other hl _), hplain, fun hl hc hv => ?_, fun hl hc hv ha => ?_,
    fun hl hc hv ha r hr => ?_, fun hl hc hv ha hr => ⟨fun hcs => ?_, fun hcs => ?_⟩⟩
  · rw [hexec hl hc, permitExpire, if_pos (by rw [hwm]; exact hv)]
  all_goals
    have hwv : w.motion.permit = .valid := by rw [hwm]; exact hv
  · have hL := lapsedRoom_expire (hello := true) hwv (by rw [hwp]; exact ha)
    refine ⟨_, hexec hl hc, hL.only, hL.released, hL.permit, hL.timer, hwn ▸ hL.latched, hwm ▸ hL.empty,
      fun seg rest hq => ?_⟩
    rw [← hwm] at hq
    exact ⟨hL.shedding seg rest hq, hL.stopping seg rest hq, hL.speedless seg rest hq⟩
  · have hL := lapsedTaken_expire (hello := true) hwv (by rw [hwp]; exact ha) (by rw [hwp]; exact hr)
    refine ⟨_, hexec hl hc, hL.only, hL.released, hL.permit, hL.timer, hwn ▸ hL.latched, fun seg hq hi => ?_⟩
    rw [← hwm] at hq
    rw [← hwp, ← hwn]
    exact ⟨hL.stopping seg hq hi, hL.shedding seg hq hi, hL.speedless seg hq hi⟩
  · rw [hexec hl hc, permitExpire_commit hwv (by rw [inCommit_congr hwp]; exact hcs), hwm, hwp]
    rfl
  · have hL := permitGone_aborted (hello := true) hwv (by rw [hwp]; exact ha) (by rw [hwp]; exact hr)
      (by rw [inCommit_congr hwp]; exact hcs)
    exact ⟨_, hexec hl hc, hL.1.only, hL.1.released, hL.1.permit, hL.1.timer, hwn ▸ hL.1.latched, hL.2.congr hwp hwm⟩

end Sys2Proof.Machine

/-! A phase of a probe change that fails: settling O43, O41 and O30. -/

namespace Sys2Proof.Machine

/-! ### Phases that fail (R141) -/

/-- `v` has the probe unit, the permit and the notices of a change that has taken outcome `r` in `w`: it waits for a
segment in the queue, or has ended. -/
structure Concluded (r : ChangeResult) (w v : State) : Prop where
  motion : v.motion.permit = w.motion.permit ∧ v.motion.permitTimer = w.motion.permitTimer
  lapse : v.notices.get 5 = w.notices.get 5
  waits : v.motion.queue ≠ [] → v.probes = w.probes ∧ v.notices.get 4 = w.notices.get 4
  ends : v.motion.queue = [] → v.probes = { w.probes with change := Change.idle w.probes.change.last } ∧
    v.notices.get 4 = (w.notices.get 4).event (.probeChangeEnd w.probes.change.target r)

theorem concluded_endChange {r : ChangeResult} {w : State} (hq : w.motion.queue = []) :
    Concluded r w (endChange r w) := by
  refine ⟨by rw [endChange_motion]; exact ⟨rfl, rfl⟩, ?_, fun h => ?_, fun _ => ⟨endChange_probes r w, ?_⟩⟩
  · rw [endChange_get, if_neg (show ¬(5 : Fin 9) = 4 by decide)]
  · rw [endChange_motion] at h
    exact absurd hq h
  · rw [endChange_get, if_pos rfl]

theorem concluded_endAtOnce {o : SegOutcome} {r : ChangeResult} {w : State} (ha : w.probes.change.active = true)
    (hr : w.probes.change.result = some r) : Concluded r w (finishChange (endAtOnce o w)) := by
  rw [finishChange_endAtOnce ha hr]
  have h := concluded_endChange (r := r) (queueEnded_queue o w)
  refine ⟨?_, ?_, fun hne => ?_, fun hq => ?_⟩
  · rw [h.motion.1, h.motion.2, queueEnded_motion]
    exact ⟨rfl, rfl⟩
  · rw [h.lapse, queueEnded_get _ _ (by decide)]
  · rw [endChange_motion, queueEnded_queue] at hne
    exact absurd rfl hne
  · have he := h.ends hq
    rwa [queueEnded_probes, queueEnded_get _ _ (by decide)] at he

/-- A segment of the change, alone in the queue, stops or ends by a controlled stop. -/
theorem concluded_stop {o : SegOutcome} {r : ChangeResult} {w : State} {seg : Segment} (ho : o ≠ .touched)
    (ha : w.probes.change.active = true) (hr : w.probes.change.result = some r) (hq : w.motion.queue = [seg])
    (hi : seg.issuer = .probeUnit) : Concluded r w (finishChange (controlledStop o w)) := by
  rcases controlledStop_cases ho w with ⟨hn, -⟩ | h | ⟨seg0, rest, seg', hs, hi', h⟩
  · rw [hq] at hn
    cases hn
  · rw [h]
    exact concluded_endAtOnce ha hr
  · rw [hq, List.cons.injEq] at hs
    rw [h, finishChange_waits (seg := seg') (rest := []) (by rw [autoRelease_motion]; rfl)
      (by rw [hi', ← hs.1]; exact hi)]
    refine ⟨?_, ?_, fun _ => ⟨?_, ?_⟩, fun hn => ?_⟩
    · rw [autoRelease_motion]
      exact ⟨rfl, rfl⟩
    · rw [autoRelease_notices]
      rfl
    · rw [autoRelease_probes]
      rfl
    · rw [autoRelease_notices]
      rfl
    · rw [autoRelease_motion] at hn
      cases hn

theorem failTaken_change (cause : ChangeCause) (n : Nat) (s : State) : (failTaken cause n s).probes.change =
    { withResult (phaseResult .failed cause n s.probes.change) s.probes.change with expiry := .none } := by
  rw [failTaken_probes]

/-- A phase that has failed with its outcome taken, from where `u` stands. -/
theorem phaseFailed_of_concluded {cause : ChangeCause} {s u v : State} (hp : u.probes = s.probes)
    (hm : u.motion.permit = s.motion.permit) (h4 : u.notices.get 4 = s.notices.get 4)
    (h5 : u.notices.get 5 = s.notices.get 5)
    (h : Concluded (phaseResult .failed cause 0 s.probes.change) (failTaken cause 0 u) v) :
    PhaseFailed cause s v := by
  have hw := failTaken_probes cause 0 u
  have hprobes : v.probes = { (failTaken cause 0 u).probes with change := v.probes.change } := by
    by_cases hq : v.motion.queue = []
    · rw [(h.ends hq).1]
    · rw [(h.waits hq).1]
  have hchange := failTaken_change cause 0 u
  rw [hp] at hchange
  have hget4 : (failTaken cause 0 u).notices.get 4 = s.notices.get 4 := by
    rw [failTaken_get, if_neg fun h => absurd h.1 (show ¬(4 : Fin 9) = 5 by decide), h4]
  refine ⟨fun i => ?_, fun p => ?_, ?_, fun hq => ⟨?_, ?_⟩, fun hq => ⟨?_, ?_⟩, fun he => ⟨?_, ?_⟩,
    fun he => ⟨?_, ?_, ?_⟩⟩
  · rw [hprobes]
    dsimp only
    rw [failTaken_table, hp]
  · rw [hprobes]
    dsimp only
    rw [failTaken_ports, hp, inCommit_congr hp]
  · rw [hprobes, hw, hp]
  · rw [(h.ends hq).1]
    dsimp only
    rw [hchange]
    rfl
  · rw [(h.ends hq).2, hget4, hchange]
    rfl
  · rw [(h.waits hq).2, hget4]
  · rw [(h.waits hq).1, hchange]
    rfl
  · rw [h.motion.1, failTaken_motion, hp, if_pos he, hm]
  · rw [h.lapse, failTaken_get, if_neg (by rw [hp]; exact fun h => h.2 he), h5]
  · rw [h.motion.1, failTaken_motion, hp]
    exact if_neg he
  · rw [h.motion.2, failTaken_motion, hp]
    exact if_neg he
  · rw [h.lapse, failTaken_get, hp, if_pos ⟨rfl, he⟩, h5]

theorem failTaken_queue (cause : ChangeCause) (n : Nat) (s : State) :
    (failTaken cause n s).motion.queue = s.motion.queue := by rw [failTaken_motion]

/-- A phase without a segment fails: the change ends. -/
theorem failPhase_empty {cause : ChangeCause} {n : Nat} {s : State} (ha : s.probes.change.active = true)
    (hq : s.motion.queue = []) : failPhase cause n s =
      endChange (phaseResult .failed cause n s.probes.change) (failTaken cause n s) := by
  have hw : (failTaken cause n s).motion.queue = [] := by rw [failTaken_queue, hq]
  unfold failPhase
  dsimp only
  rw [rackSegment_nil hw, if_neg (by decide)]
  exact finishChange_empty hw (by rw [failTaken_change]; exact ha) (by rw [failTaken_change]; rfl)

/-- A phase fails while its segment is in the queue: the segment stops (R141; log entry 31). -/
theorem failPhase_segment {cause : ChangeCause} {n : Nat} {s : State} {seg : Segment}
    (hq : s.motion.queue = [seg]) (hi : seg.issuer = .probeUnit) : failPhase cause n s =
      finishChange (controlledStop .halted (failTaken cause n s)) := by
  unfold failPhase
  dsimp only
  rw [if_pos (rackSegment_cons (seg := seg) (rest := []) (by rw [failTaken_queue, hq]) hi)]

theorem phaseFailed_failPhase {cause : ChangeCause} {s u : State} (hp : u.probes = s.probes)
    (hm : u.motion = s.motion) (hn : u.notices = s.notices) (ha : s.probes.change.active = true)
    (hq : s.motion.queue = [] ∨ ∃ seg, s.motion.queue = [seg] ∧ seg.issuer = .probeUnit) :
    PhaseFailed cause s (failPhase cause 0 u) := by
  have ha' : u.probes.change.active = true := by rw [hp, ha]
  refine phaseFailed_of_concluded (u := u) hp (by rw [hm]) (by rw [hn]) (by rw [hn]) ?_
  rw [← hm] at hq
  rcases hq with hq | ⟨seg, hq, hi⟩
  · rw [failPhase_empty ha' hq, hp]
    exact concluded_endChange (by rw [failTaken_queue, hq])
  · rw [failPhase_segment hq hi]
    exact concluded_stop (by decide) (by rw [failTaken_change]; exact ha') (by rw [failTaken_change, hp]; rfl)
      (by rw [failTaken_queue, hq]) hi

/-! ### The timers of the phases (R135 to R140) -/

/-- A timer that a phase waits for runs out. -/
theorem phaseExpire_due {waits : State → Phase → Option ChangeCause} {s : State} {ph : Phase} {cause : ChangeCause}
    {d : Nat} (ha : s.probes.change.active = true) (hr : s.probes.change.result = none)
    (hd : s.probes.change.timer = some d) (hle : d ≤ s.uptime) (hph : s.probes.change.phase = some ph)
    (hw : waits s ph = some cause) : phaseExpire waits s = failPhase cause 0 s := by
  have hdue : s.due s.probes.change.timer = true := by rw [due_some hd]; exact decide_eq_true hle
  simp only [phaseExpire, ha, hr, hdue, hph, hw, Option.isNone_none, Bool.and_self, if_true]

theorem phaseExpire_early {waits : State → Phase → Option ChangeCause} {s : State}
    (hd : s.due s.probes.change.timer = false) : phaseExpire waits s = s := by
  simp [phaseExpire, hd]

/-- The phase that a change timer fails, and with what (R135 to R140). -/
def TimerFails (cmd : Tick → Instr) (s : State) (ph : Phase) (cause : ChangeCause) : Prop :=
  (cmd = .lidTimerExpiry ∧ ((ph = .openDrop ∨ ph = .closeDrop ∨ ph = .closePick) ∧ cause = .lidFault ∨
      ph = .openPick ∧ cause = if lidIs s s.probes.change.pick .opened = true then .lockFault else .lidFault)) ∨
    (cmd = .lockTimerExpiry ∧ (ph = .unlock ∨ ph = .lock) ∧ cause = .lockFault) ∨
    (cmd = .identifyTimerExpiry ∧ ph = .identify ∧ cause = .pickFault)

/-- No timer runs in DETACH. -/
theorem TimerFails.ne_detach {cmd : Tick → Instr} {s : State} {ph : Phase} {cause : ChangeCause}
    (h : TimerFails cmd s ph cause) : ph ≠ .detach := by
  rintro rfl
  rcases h with ⟨-, ⟨h | h | h, -⟩ | ⟨h, -⟩⟩ | ⟨-, h | h, -⟩ | ⟨-, h, -⟩ <;> cases h

theorem next_changeTimer {cmd : Tick → Instr} {t : Tick} {s : State} {d : Nat} {ph : Phase} {cause : ChangeCause}
    (hi : s.inReset = false) (ha : s.probes.change.active = true) (hr : s.probes.change.result = none)
    (hd : s.probes.change.timer = some d) (hle : d ≤ (advance t s).uptime) (hph : s.probes.change.phase = some ph)
    (h : TimerFails cmd s ph cause) : exec (cmd t) s = .next (finish (failPhase cause 0 (advance t s))) := by
  have hex {waits : State → Phase → Option ChangeCause} (hw : waits (advance t s) ph = some cause) :
      (.next (timed t (phaseExpire waits) s) : Host.Outcome State Fault Refusal) =
        .next (finish (failPhase cause 0 (advance t s))) :=
    next_timed hi (phaseExpire_due (s := advance t s) ha hr hd hle hph hw)
  rcases h with ⟨rfl, ⟨hl, rfl⟩ | ⟨rfl, rfl⟩⟩ | ⟨rfl, hl, rfl⟩ | ⟨rfl, rfl, rfl⟩
  · refine hex (waits := lidWaits) ?_
    rcases hl with rfl | rfl | rfl <;> rfl
  · refine hex (waits := lidWaits) ?_
    exact (apply_ite some _ _ _).symm
  · refine hex (waits := lockWaits) ?_
    rcases hl with rfl | rfl <;> rfl
  · exact hex (waits := identifyWaits) rfl

/-- Settles O43: the phase whose timer runs out fails, and without a segment the change ends. -/
theorem changeTimersFailTheirPhase : Obligations.ChangeTimersFailTheirPhase := by
  refine ⟨fun cmd t s d ph cause hi ha hr hq hd hle hph h => ?_, fun t s hi hd => ⟨?_, ?_, ?_⟩⟩
  · intro c r unsure
    have hne : ph ≠ .detach := TimerFails.ne_detach h
    have hf : PhaseFailed cause s (failPhase cause 0 (advance t s)) :=
      phaseFailed_failPhase (u := advance t s) rfl rfl rfl ha (.inl hq)
    have hempty : (failPhase cause 0 (advance t s)).motion.queue = [] := by
      rw [failPhase_empty (s := advance t s) ha hq, endChange_motion, failTaken_queue]
      exact hq
    have hnum : c.phaseNumber = ph.number := by simp only [Change.phaseNumber, c, hph]
    have hres : ({ outcome := .failed, phase := s.probes.change.phaseNumber, cause := cause, idRead := 0 } :
        ChangeResult) = r := by rw [show s.probes.change.phaseNumber = ph.number from hnum]
    have hunsure : unsureId s.probes.change = unsure := by
      simp only [unsureId, hph]
      cases ph
      case detach => exact absurd rfl hne
      all_goals rfl
    have hends := hf.ends hempty
    rw [hres] at hends
    refine ⟨_, next_changeTimer hi ha hr hd hle hph h, motionOnly_failPhase cause 0 _, hempty, hends.1, hends.2,
      fun i => ?_, fun p => ?_, ?_⟩
    · rw [hf.table i, hunsure]
    · have hc : inCommit s = (ph == .unlock || ph == .lock) := by
        simp only [inCommit, ha, hr, hph, Option.isNone_none, Bool.and_self, Bool.true_and]
        cases ph
        case detach => exact absurd rfl hne
        all_goals rfl
      rw [hf.lids p, hc]
    · rw [hf.kept]
  · exact next_timed hi (phaseExpire_early hd)
  · exact next_timed hi (phaseExpire_early hd)
  · exact next_timed hi (phaseExpire_early hd)

end Sys2Proof.Machine

namespace Sys2Proof.Machine

/-! ### Head and rack inputs (R129 to R131) -/

/-- An input that has no effect but on its pins, whether or not they change. -/
theorem next_input_pins {pins : Pins → Pins} {body : State → State → State} {t : Tick} {s : State}
    (h : s.inReset = false)
    (hb : body (advance t s) { advance t s with pins := pins s.pins } = { advance t s with pins := pins s.pins }) :
    (.next (input t pins body s) : Host.Outcome State Fault Refusal) =
      .next (finish { advance t s with pins := pins s.pins }) := by
  by_cases hp : pins s.pins = s.pins
  · rw [next_input_same h hp, hp]
    rfl
  · rw [next_input_edge h hp hb]

theorem inputsChanged_inactive {s : State} (h : s.probes.change.active = false) : inputsChanged s = s := by
  simp [inputsChanged, h]

theorem lidChanged_inactive {p : Fin 8} {a s : State} (h : s.probes.change.active = false) : lidChanged p a s = s := by
  simp [lidChanged, inputsChanged_inactive h, h]

/-- A lid leaves OPEN under the head while the change runs (R131, R141). -/
theorem lidChanged_fault {p : Fin 8} {a s : State} (ha : s.probes.change.active = true)
    (hr : s.probes.change.result = none) (hh : headStands s.probes.change p = true)
    (hopen : lidState a p = .opened) (hleft : lidState s p ≠ .opened) :
    lidChanged p a s = failPhase .lidFault 0 s := by
  simp [lidChanged, ha, hr, hh, hopen, hleft]

/-- The phase that waits for a read has had one begun in time. -/
theorem awaitsRead_eq (c : Change) (ha : c.active = true) : awaitsRead c = decide (c.result = none ∧
    (c.phase = some .identify ∨ c.phase = some .detach ∧ c.segArrived = true)) := by
  unfold awaitsRead
  cases c.result with
  | some r => simp [ha]
  | none =>
    cases hph : c.phase with
    | none => simp
    | some ph => cases ph <;> simp [ha]

theorem readStart_reading {s : State} (h : s.probes.reading = true) : readStart s = s := if_pos h

theorem readStart_inactive {s : State} (h : s.probes.reading = false) (ha : s.probes.change.active = false) :
    readStart s = { s with probes := { s.probes with reading := true } } := by
  have hw : awaitsRead s.probes.change = false := by simp [awaitsRead, ha]
  unfold readStart
  rw [if_neg (by simp [h])]
  exact if_neg (by simp [mapUnit, hw])

theorem readStart_active {s : State} (h : s.probes.reading = false) (ha : s.probes.change.active = true) :
    readStart s = { s with probes := { s.probes with
      reading := true
      change := { s.probes.change with readBegun := s.probes.change.readBegun || decide (s.probes.change.result = none ∧
        (s.probes.change.phase = some .identify ∨
          s.probes.change.phase = some .detach ∧ s.probes.change.segArrived = true)) } } } := by
  have hstart : readStart s = if awaitsRead s.probes.change = true then
      { s with probes := { s.probes with reading := true, change := { s.probes.change with readBegun := true } } }
      else { s with probes := { s.probes with reading := true } } := if_neg (by simp [h])
  rw [hstart, ← awaitsRead_eq _ ha]
  cases awaitsRead s.probes.change <;> simp

theorem readComplete_idle {v : Byte} {s : State} (h : s.probes.reading = false) : readComplete v s = s :=
  if_neg (by simp [h])

theorem readComplete_inactive {v : Byte} {s : State} (h : s.probes.reading = true)
    (ha : s.probes.change.active = false) :
    readComplete v s = { s with probes := { s.probes with identity := v.toNat, reading := false } } :=
  (if_pos h).trans (if_neg (by simp [mapUnit, ha]))

/-- Where the head stands (R131). -/
theorem headStands_iff (c : Change) (p : Fin 8) : headStands c p = true ↔
    (c.drop = some p ∧ (c.phase = some .insert ∨ c.phase = some .unlock ∨
      c.phase = some .detach ∧ c.segArrived = false)) ∨
    (c.pick = some p ∧ (c.phase = some .engage ∨ c.phase = some .lock ∨ c.phase = some .identify ∨
      c.phase = some .withdraw ∧ c.segArrived = false)) := by
  unfold headStands
  cases c.phase with
  | none => simp
  | some ph => cases ph <;> simp

/-- The queue of a phase that fails, by its segment (R73, R141). -/
theorem failPhase_queue {cause : ChangeCause} {s : State} {seg : Segment}
    (hq : s.motion.queue = [seg]) (hi : seg.issuer = .probeUnit) :
    (Speedless seg → (failPhase cause 0 s).motion.queue = []) ∧
    (Shedding seg → (failPhase cause 0 s).motion.queue = [stopMoving .halted (counted 0 seg)]) ∧
    (seg.state = .stopping → (failPhase cause 0 s).motion.queue = [counted 0 seg]) := by
  have hw : (failTaken cause 0 s).motion.queue = [seg] := by rw [failTaken_queue, hq]
  rw [failPhase_segment hq hi, finishChange_motion]
  refine ⟨fun hs => ?_, fun hs => ?_, fun hs => ?_⟩
  · rw [controlledStop_speedless (by decide) hw hs]
    exact endAtOnce_empty (by decide) _
  · rw [controlledStop_shedding (by decide) hw hs, autoRelease_motion]
    rfl
  · rw [controlledStop_stopping (by decide) hw hs, autoRelease_motion]
    rfl

/-- Settles O41: inputs and reads without a change, reads that begin in one, and the lid that leaves OPEN under the
head. -/
theorem headAndRackInputsAreFollowed : Obligations.HeadAndRackInputsAreFollowed := by
  refine ⟨fun locked unlocked t s hr ha => next_input_pins hr (inputsChanged_inactive ha),
    fun p o c t s hr ha => next_input_pins hr (lidChanged_inactive ha), fun p active t s hr => next_input_pins hr rfl,
    fun s => ?_, fun s p => ?_, fun t s hr ha hread => next_timed hr (readStart_inactive (s := advance t s) hread ha),
    fun t s hr ha hread => next_timed hr (readStart_active (s := advance t s) hread ha), ?_,
    fun s p => headStands_iff s.probes.change p, fun t s hr hread => next_timed hr (readStart_reading hread),
    fun v t s hr ha hread => next_timed hr (readComplete_inactive (s := advance t s) hread ha),
    fun v t s hr hread => next_timed hr (readComplete_idle hread)⟩
  · unfold lockState
    rfl
  · simp only [lidState]
    generalize (s.probes.ports.get p).lidOpen = out
    generalize (s.pins.ports.get p).openIn = isOpen
    generalize (s.pins.ports.get p).closedIn = isClosed
    cases out <;> cases isOpen <;> cases isClosed <;> rfl
  · intro p closed t s hr ha hres hh hlid hin hq
    generalize hu : ({ advance t s with
      pins := mapPortPins p (fun x => { x with openIn := false, closedIn := closed }) s.pins } : State) = u
    have hup : u.probes = s.probes := by rw [← hu]; rfl
    have hum : u.motion = s.motion := by rw [← hu]; rfl
    have hun : u.notices = s.notices := by rw [← hu]; rfl
    have hget : ((mapPortPins p (fun x => { x with openIn := false, closedIn := closed }) s.pins).ports.get p).openIn =
        false := by
      simp [mapPortPins, vector_get_set]
    have hne : mapPortPins p (fun x => { x with openIn := false, closedIn := closed }) s.pins ≠ s.pins := fun h => by
      rw [h, hin] at hget
      cases hget
    have hopen : lidState (advance t s) p = .opened := by
      simp [lidState, hlid, hin]
    have hleft : lidState u p ≠ .opened := by
      rw [← hu]
      simp [lidState, hlid, hget]
    have hexec : exec (.lidStateInput p false closed t) s = .next (finish (failPhase .lidFault 0 u)) := by
      refine next_input_edge hr hne ?_
      rw [← lidChanged_fault (a := advance t s) (by rw [hup, ha]) (by rw [hup, hres]) (by rw [hup, hh]) hopen hleft,
        ← hu]
    refine ⟨_, hexec, phaseFailed_failPhase hup hum hun ha hq, ?_, fun hnil => ?_, fun seg hseg => ?_⟩
    · rw [← hu]
      exact motionOnly_failPhase _ _ _
    · rw [failPhase_empty (by rw [hup, ha]) (by rw [hum, hnil]), endChange_motion, failTaken_queue, hum, hnil]
    · have hi : seg.issuer = .probeUnit := by
        rcases hq with hq | ⟨seg', hq, hi⟩
        · rw [hseg] at hq; cases hq
        · rw [hseg, List.cons.injEq] at hq
          rw [hq.1, hi]
      exact failPhase_queue (s := u) (by rw [hum, hseg]) hi

end Sys2Proof.Machine

namespace Sys2Proof.Machine

/-! ### A segment of the change ends its phase (R134, R141) -/

/-- The cause with which the end of a segment of the change fails the phase running (R134). -/
def rackCause : SegOutcome → Option ChangeCause
  | .unsettled => some .settleFault
  | .collision => some .collision
  | .conflict => some .conflict
  | .motionFault => some .motionFault
  | .drivesOff => some .drivesOff
  | _ => none

theorem afterRackEnd_fails {o : SegOutcome} {cause : ChangeCause} {s : State} (h : rackCause o = some cause)
    (hr : s.probes.change.result = none) : afterRackEnd o s = failEnded cause 0 s := by
  have hn : s.probes.change.result.isSome = false := by rw [hr]; rfl
  unfold afterRackEnd
  rw [hn, if_neg (by decide)]
  cases o <;> cases h <;> rfl

/-- The segment of a running change ends at once, and the change with it. -/
theorem endAtOnce_fails {o : SegOutcome} {cause : ChangeCause} {s : State} {seg : Segment} {rest : List Segment}
    (h : rackCause o = some cause) (hq : s.motion.queue = seg :: rest) (hi : seg.issuer = .probeUnit)
    (ha : s.probes.change.active = true) (hr : s.probes.change.result = none) : endAtOnce o s =
      endChange (phaseResult .failed cause 0 s.probes.change) (failTaken cause 0 (headGone [] s)) := by
  have hp : (headGone [] s).probes = s.probes := headGone_probes [] s
  rw [endAtOnce_rack hq hi, afterRackEnd_fails h (by rw [hp, hr]), failEnded,
    finishChange_empty (r := phaseResult .failed cause 0 s.probes.change) (by rw [failTaken_queue]; rfl)
      (by rw [failTaken_change, hp]; exact ha) (by rw [failTaken_change, hp]; rfl), autoRelease_endChange]

theorem phaseFailed_endAtOnce {o : SegOutcome} {cause : ChangeCause} {s u : State} {seg : Segment}
    {rest : List Segment} (h : rackCause o = some cause) (hq : u.motion.queue = seg :: rest)
    (hi : seg.issuer = .probeUnit) (ha : s.probes.change.active = true) (hr : s.probes.change.result = none)
    (hp : u.probes = s.probes) (hm : u.motion.permit = s.motion.permit) (h4 : u.notices.get 4 = s.notices.get 4)
    (h5 : u.notices.get 5 = s.notices.get 5) :
    (endAtOnce o u).motion.queue = [] ∧ PhaseFailed cause s (endAtOnce o u) := by
  rw [endAtOnce_fails h hq hi (by rw [hp, ha]) (by rw [hp, hr]), hp]
  refine ⟨by rw [endChange_motion, failTaken_queue]; rfl, ?_⟩
  refine phaseFailed_of_concluded (u := headGone [] u) (by rw [headGone_probes, hp]) (by rw [headGone_motion, hm])
    (by rw [headGone_notices, h4]) (by rw [headGone_notices, h5]) ?_
  exact concluded_endChange (by rw [failTaken_queue]; rfl)

theorem noticesKept_controlledStop {o : SegOutcome} (ht : o ≠ .touched) (ha : o ≠ .arrived) (s : State) :
    NoticesKept s (controlledStop o s) := by
  rcases controlledStop_cases ht s with ⟨-, h⟩ | h | ⟨seg, rest, seg', -, -, h⟩ <;> rw [h]
  · exact .of_eq rfl
  · exact noticesKept_endAtOnce ha s
  · exact .of_eq (by rw [autoRelease_notices]; rfl)

/-! ### Zones lost to another station (R73, R97) -/

/-- A head that does not move, or needs none of the zones lost, goes on. -/
theorem zonesLost_kept {lost : ZoneSet} {s : State}
    (h : ∀ seg rest, s.motion.queue = seg :: rest →
      (seg.state ≠ .moving ∧ seg.state ≠ .stopping) ∨ seg.needed.getD 0 &&& lost = 0) : zonesLost lost s = s := by
  unfold zonesLost
  split
  · rfl
  · rename_i seg rest hq
    refine if_neg ?_
    rintro ⟨hs, hl⟩
    rcases h seg rest hq with ⟨hm, hst⟩ | h0
    · exact hs.elim hm hst
    · exact hl h0

theorem zonesLost_stops {lost : ZoneSet} {s : State} {seg : Segment} {rest : List Segment}
    (hq : s.motion.queue = seg :: rest) (hs : seg.state = .moving ∨ seg.state = .stopping)
    (hl : seg.needed.getD 0 &&& lost ≠ 0) : zonesLost lost s = controlledStop .conflict s := by
  simp only [zonesLost, hq]
  exact if_pos ⟨hs, hl⟩

theorem noticesKept_zonesLost (lost : ZoneSet) (s : State) : NoticesKept s (zonesLost lost s) := by
  unfold zonesLost
  split
  · exact .of_eq rfl
  · split
    · exact noticesKept_controlledStop (by decide) (by decide) s
    · exact .of_eq rfl

/-! ### Objections heard (R95 to R97) -/

/-- What a failed window leaves: the claim record, and a head that is no longer CLAIMING. -/
theorem queueUnclaimed_failWindow (s : State) : QueueUnclaimed s (failWindow s) := by
  cases hc : s.zones.claim with
  | window x b => rw [failWindow_window hc]; exact .inr rfl
  | none => rw [failWindow_none (by simp [hc])]; exact .inl rfl
  | queued x o => rw [failWindow_none (by simp [hc])]; exact .inl rfl

theorem failWindow_eq (s : State) : failWindow s = match s.zones.claim with
    | .window _ _ => { s with
        zones := { s.zones with claim := .none }
        motion := { s.motion with queue := unclaimedQueue s.motion.queue } }
    | _ => s := by
  cases hc : s.zones.claim with
  | window x b => rw [failWindow_window hc]
  | none => rw [failWindow_none (by simp [hc])]
  | queued x o => rw [failWindow_none (by simp [hc])]

theorem failWindow_probes (s : State) : (failWindow s).probes = s.probes := by
  rw [failWindow_eq]
  split <;> rfl

theorem failWindow_notices (s : State) : (failWindow s).notices = s.notices := by
  rw [failWindow_eq]
  split <;> rfl

theorem failWindow_permit (s : State) : (failWindow s).motion.permit = s.motion.permit := by
  rw [failWindow_eq]
  split <;> rfl

/-- The head as it was, where it moved or was stopping. -/
theorem failWindow_moving {s : State} {seg : Segment} {rest : List Segment} (hq : s.motion.queue = seg :: rest)
    (hs : seg.state = .moving ∨ seg.state = .stopping) : (failWindow s).motion.queue = seg :: rest :=
  (queueUnclaimed_failWindow s).cons_of_ne hq (by rcases hs with h | h <;> rw [h] <;> decide)

end Sys2Proof.Machine

namespace Sys2Proof.Machine

/-- The entry of a zone after an objection of `o` against `c`, for a station of number `self` (R95). -/
theorem hearObject_eq {o c self : Nat} {x : ZoneSet} {s : State} {zones : ZoneUnit} (hz : s.zones = zones)
    (hn : s.line.number = self) : hearObject o c x s = { s with zones := { zones with
      view := tab16 fun z => objectedEntry self o c s.uptime (ZoneSet.has x z) (zones.view.get z) } } := by
  subst hz hn
  rfl

/-- An objection that is taken (R95 to R97). -/
theorem takeObject_eq {o c : Nat} {x : ZoneSet} {s : State} (h : c ≠ 0 ∧ c ≠ 31 ∧ x ≠ 0) : takeObject o c x s =
    if c = s.line.number then objectedSelf o (firmAmong x s) (hearObject o c x s) else hearObject o c x s := by
  obtain ⟨h0, h31, hx⟩ := h
  exact if_neg (by rintro (h | h | h) <;> contradiction)

theorem unclaimed_still {seg : Segment} (h : seg.state ≠ .moving ∧ seg.state ≠ .stopping) :
    (unclaimed seg).state ≠ .moving ∧ (unclaimed seg).state ≠ .stopping := by
  unfold unclaimed
  split
  · exact ⟨by simp, by simp⟩
  · exact h

@[simp] theorem unclaimed_needed (seg : Segment) : (unclaimed seg).needed = seg.needed := by
  unfold unclaimed
  split <;> rfl

/-- Settles O30: an objection against another claimant, against the own claim in time, and late. -/
theorem objectionHeardPassesTheZones : Obligations.ObjectionHeardPassesTheZones := by
  intro f s hh h o c x self freed entry seen lost failed late taken
  have hnum : h.line.number = self := heard_line_number f s
  have hseen : hearObject o c x h = seen := by
    refine (hearObject_eq (heard_zones f s) hnum).trans ?_
    refine congrArg (fun v => ({ h with zones := { s.zones with view := tab16 v } } : State)) ?_
    funext z
    rfl
  have hlost : firmAmong x h = lost := by
    rw [firmAmong, show firmZones h = firmZones s from heard_firmZones f s]
  have htaken (ht : taken) : exec (.zoneObjectReceived f) s =
      .next (settled (if c = self then objectedSelf o lost seen else seen)) := by
    refine next_heard hh ((sized_of ht.1 _).trans ((takeObject_eq ht.2).trans ?_))
    rw [hnum, hlost, hseen]
  have hfailed : failWindow seen = failed := by
    have hm : seen.motion = s.motion := heard_motion f s
    cases hcl : s.zones.claim with
    | window y b =>
      rw [failWindow_window (s := seen) hcl, hm]
      simp only [failed, hcl]
      cases s.motion.queue <;> rfl
    | none =>
      rw [failWindow_none (s := seen) (by rw [show seen.zones.claim = _ from hcl]; simp)]
      simp only [failed, hcl]
    | queued y b =>
      rw [failWindow_none (s := seen) (by rw [show seen.zones.claim = _ from hcl]; simp)]
      simp only [failed, hcl]
  refine ⟨fun ht => ?_, fun ht hc => ?_, fun ht hc hl => ?_, fun ht hc hl => ?_⟩
  · by_cases hl : f.payload.length = 3
    · refine next_heard hh ((sized_of hl _).trans (if_pos ?_))
      by_contra hn
      simp only [not_or] at hn
      exact ht ⟨hl, hn⟩
    · exact next_heard hh (sized_other hl _)
  · rw [htaken ht, if_neg hc]
  · rw [htaken ht, if_pos hc, objectedSelf, if_pos hl, hfailed]
  · have hlate : latchNotice (.zoneConflict o lost true) failed = late := by
      have hfn : failed.notices = s.notices := by
        rw [← hfailed, failWindow_notices]
        exact heard_notices f s
      exact congrArg (fun ns : Vector Latch 9 => ({ failed with
        notices := ns.set 3 ((ns.get 3).event (.zoneConflict o lost true)) } : State)) hfn
    have hexec : exec (.zoneObjectReceived f) s = .next (settled (zonesLost lost late)) := by
      rw [htaken ht, if_pos hc, objectedSelf, if_neg hl, hfailed, hlate]
    have honly : MotionOnly h (zonesLost lost late) := by
      refine MotionOnly.trans ?_ (motionOnly_zonesLost lost late)
      rw [← hlate, ← hfailed, ← hseen]
      exact ((motionOnly_mapView _ h).trans (motionOnly_failWindow _)).trans (motionOnly_latchNotice _ _)
    have hqueue {seg : Segment} {rest : List Segment} (hq : s.motion.queue = seg :: rest)
        (hs : seg.state = .moving ∨ seg.state = .stopping) : late.motion.queue = seg :: rest := by
      have hw := failWindow_moving (s := seen) (by rw [show seen.motion = s.motion from heard_motion f s]; exact hq) hs
      rwa [hfailed] at hw
    have hprobes : late.probes = s.probes := by
      have hp : failed.probes = h.probes := by rw [← hfailed, failWindow_probes]
      exact hp.trans (heard_probes f s)
    have hstop {seg : Segment} {rest : List Segment} (hq : s.motion.queue = seg :: rest)
        (hs : seg.state = .moving ∨ seg.state = .stopping) (hn : seg.needed.getD 0 &&& lost ≠ 0) :
        zonesLost lost late = controlledStop .conflict late := zonesLost_stops (hqueue hq hs) hs hn
    refine ⟨_, hexec, honly, ?_, fun hgo => zonesLost_kept ?_, fun seg rest hq hs hn => ?_,
      fun seg rest hq hs hsl hn => ⟨fun hi => ?_, fun hi ha hr => ?_⟩, fun seg rest hq hs har hu hk hn => ?_⟩
    · exact noticesKept_zonesLost lost late 3 (by decide) (by decide) (by decide)
    · intro seg' rest' hq'
      have hun : QueueUnclaimed seen failed := by
        rw [← hfailed]
        exact queueUnclaimed_failWindow seen
      have hsq : seen.motion.queue = s.motion.queue := by rw [show seen.motion = s.motion from heard_motion f s]
      cases hq : s.motion.queue with
      | nil =>
        rw [show late.motion.queue = [] from hun.nil (hsq.trans hq)] at hq'
        cases hq'
      | cons seg rest =>
        rcases hun.cons (hsq.trans hq) with he | he <;>
          rw [show late.motion.queue = _ from he, List.cons.injEq] at hq' <;> rw [← hq'.1]
        · exact hgo seg rest hq
        · exact (hgo seg rest hq).imp (fun hne => unclaimed_still hne) (by rw [unclaimed_needed]; exact id)
    · rw [hstop hq (.inr hs) hn, controlledStop_stopping (by decide) (hqueue hq (.inr hs)) hs, autoRelease_motion,
        autoRelease_probes]
      exact ⟨rfl, hprobes⟩
    · rw [hstop hq (.inl hs) hn, controlledStop_speedless (by decide) (hqueue hq (.inl hs)) hsl,
        endAtOnce_segmentEnd (hqueue hq (.inl hs)) hi]
      exact ⟨endAtOnce_empty (by decide) _, event_detail _ _⟩
    · rw [hstop hq (.inl hs) hn, controlledStop_speedless (by decide) (hqueue hq (.inl hs)) hsl]
      have hget (k : Fin 9) (hk : (3 : Fin 9) ≠ k) : late.notices.get k = s.notices.get k := by
        have hfn : failed.notices = s.notices := by
          rw [← hfailed, failWindow_notices]
          exact heard_notices f s
        rw [← hlate, latchNotice_other (n := .zoneConflict o lost true) hk, hfn]
      have hpermit : late.motion.permit = s.motion.permit := by
        rw [show late.motion.permit = failed.motion.permit from rfl, ← hfailed, failWindow_permit]
        exact congrArg (fun m => m.permit) (heard_motion f s)
      exact phaseFailed_endAtOnce rfl (hqueue hq (.inl hs)) hi ha hr hprobes hpermit (hget 4 (by decide))
        (hget 5 (by decide))
    · rw [hstop hq (.inl hs) hn, controlledStop_shedding (by decide) (hqueue hq (.inl hs)) ⟨hs, har, hu, hk⟩,
        autoRelease_motion]
      rfl

end Sys2Proof.Machine

/-! Touches: settling O38 and O37. -/

namespace Sys2Proof.Machine

/-! ### Edges to DEFLECTED (R15, R105) -/

/-- What the latch takes at an edge (R15). -/
def edgeCounts (s : State) : Vector Int 4 := tab4 fun i => if s.live i = true then (s.axis i).position else 0

/-- The state once an edge at `t` has loaded the latch and spent the re-seat (R15, R105). -/
def edgeTaken (t : Tick) (s : State) : State := { advance t s with
  pins := { s.pins with deflected := true }
  latch := some { tick := t, counts := edgeCounts s }
  capture := { s.capture with reseat := .spent, reseatTimer := none } }

theorem edgeLoaded_eq (t : Tick) (s : State) :
    edgeLoaded { advance t s with pins := { s.pins with deflected := true } } = edgeTaken t s := by
  have ht : State.tick { advance t s with pins := { s.pins with deflected := true } } = t := advance_tick t s
  unfold edgeLoaded edgeLatch
  rw [ht]
  rfl

/-- An edge while the re-seat is READY is classified (R106). -/
theorem next_edge {t : Tick} {s u : State} (hr : s.inReset = false) (hd : s.pins.deflected = false)
    (hready : s.capture.reseat = .ready)
    (hu : eligibleEdge { tick := t, counts := edgeCounts s } (edgeTaken t s) = u) :
    exec (.triggerDeflected t) s = .next (finish u) := by
  refine next_input_edge hr (pins_deflected_ne hd) ?_
  rw [deflect_eq, edgeLoaded_eq, if_pos (show (advance t s).capture.reseat = .ready from hready), ← hu]
  have ht : State.tick { advance t s with pins := { s.pins with deflected := true } } = t := advance_tick t s
  unfold edgeLatch
  rw [ht]
  rfl

/-- An edge that no classification reaches. -/
theorem next_edge_ignored {t : Tick} {s : State} (hr : s.inReset = false) (hd : s.pins.deflected = false)
    (hu : eligibleEdge { tick := t, counts := edgeCounts s } (edgeTaken t s) = edgeTaken t s) :
    exec (.triggerDeflected t) s = .next (finish (edgeTaken t s)) := by
  by_cases hready : s.capture.reseat = .ready
  · exact next_edge hr hd hready hu
  · refine next_input_edge hr (pins_deflected_ne hd) ?_
    rw [deflect_eq, edgeLoaded_eq, if_neg (show ¬(advance t s).capture.reseat = .ready from hready)]

theorem eligibleEdge_room {cap : Capture} {s : State} {k : Fin 16} {r : ProbeRecord}
    (ha : s.probes.change.active = false) (hm : s.station.mode = .run) (ho : s.line.state ≠ .offline)
    (hon : onHead? s = some (k, r)) : eligibleEdge cap s = classifyTouch k r cap s := by
  simp only [eligibleEdge, ha, hon, Bool.false_eq_true, if_false]
  exact if_pos ⟨hm, ho⟩

theorem eligibleEdge_change {cap : Capture} {s : State} (ha : s.probes.change.active = true) :
    eligibleEdge cap s = rackTouch s := by
  simp only [eligibleEdge, ha, if_true]

theorem eligibleEdge_ignored {cap : Capture} {s : State} (ha : s.probes.change.active = false)
    (h : s.station.mode ≠ .run ∨ onHead? s = none) : eligibleEdge cap s = s := by
  simp only [eligibleEdge, ha, Bool.false_eq_true, if_false]
  split
  · rename_i hm
    rw [h.resolve_left (fun hne => hne hm.1)]
  · rfl

theorem edgeTaken_offline {t : Tick} {s : State} : (edgeTaken t s).line.state ≠ .offline ↔ s.line.state ≠ .offline :=
  not_congr (advance_lineState_iff rfl)

/-! ### Collisions (R109) -/

/-- COLLISION latched and the probe on the head no longer qualified. -/
def collided (number : BitVec 8) (kind : SegKind) (k : Fin 16) (r : ProbeRecord) (s : State) : State :=
  setProbe k { r with qualified := false } (latchNotice (.collision number kind r.id) s)

theorem disqualify_latchCollision {seg : Segment} {s : State} {k : Fin 16} {r : ProbeRecord}
    (hon : onHead? s = some (k, r)) :
    disqualify (latchCollision seg s) = collided seg.number seg.kind k r s := by
  have hl : latchCollision seg s = latchNotice (.collision seg.number seg.kind r.id) s := by
    simp only [latchCollision, hon]
  have hon' : onHead? (latchNotice (.collision seg.number seg.kind r.id) s) = some (k, r) := hon
  rw [hl, disqualify, hon']
  rfl

theorem disqualify_latchCollision_none {seg : Segment} {s : State} (hon : onHead? s = none) :
    disqualify (latchCollision seg s) = latchNotice (.collision seg.number seg.kind 0) s := by
  have hl : latchCollision seg s = latchNotice (.collision seg.number seg.kind 0) s := by
    simp only [latchCollision, hon]
  have hon' : onHead? (latchNotice (.collision seg.number seg.kind 0) s) = none := hon
  rw [hl, disqualify, hon']

theorem collided_get2 (number : BitVec 8) (kind : SegKind) (k : Fin 16) (r : ProbeRecord) (s : State) :
    (collided number kind k r s).notices.get 2 = (s.notices.get 2).event (.collision number kind r.id) :=
  latchNotice_at (n := .collision number kind r.id) rfl s

/-- A touch on a POSITION or REFERENCE segment that moves or stops collides (R107). -/
theorem classifyTouch_collides {k : Fin 16} {r : ProbeRecord} {cap : Capture} {s : State} {seg : Segment}
    {rest : List Segment} (hq : s.motion.queue = seg :: rest) (hon : onHead? s = some (k, r))
    (hk : seg.kind = .position ∨ seg.kind = .reference) (hs : seg.state = .moving ∨ seg.state = .stopping) :
    classifyTouch k r cap s = controlledStop .collision (collided seg.number seg.kind k r s) := by
  rw [← disqualify_latchCollision hon]
  simp only [classifyTouch, hq]
  rcases hk with hk | hk <;> rcases hs with hs | hs <;> simp only [hk, hs] <;> rfl

/-- On a head that does not move, or a PROBE that is stopping, a touch is ignored (R107). -/
theorem classifyTouch_ignored {k : Fin 16} {r : ProbeRecord} {cap : Capture} {s : State}
    (h : s.motion.queue = [] ∨ ∃ seg rest, s.motion.queue = seg :: rest ∧
      (seg.state = .waiting ∨ seg.state = .claiming ∨ (seg.kind = .probe ∧ seg.state = .stopping))) :
    classifyTouch k r cap s = s := by
  rcases h with hq | ⟨seg, rest, hq, hs⟩
  · simp only [classifyTouch, hq]
  · simp only [classifyTouch, hq]
    rcases hs with hs | hs | ⟨hk, hs⟩
    · cases hk : seg.kind <;> simp only [hs]
    · cases hk : seg.kind <;> simp only [hs]
    · simp only [hk, hs]

/-- A collision during a probe change: what it leaves before the segment stops (R145). -/
def rackCollided (seg : Segment) (s : State) : State :=
  if s.probes.change.result.isSome ∨ seg.state = .stopping then disqualify (latchCollision seg s)
  else failTaken .collision 0 (disqualify (latchCollision seg s))

theorem disqualify_probes (s : State) :
    (disqualify s).probes = { s.probes with table := (disqualify s).probes.table } := by
  unfold disqualify
  split <;> rfl

theorem disqualify_motion (s : State) : (disqualify s).motion = s.motion := by
  unfold disqualify
  split <;> rfl

theorem disqualify_notices (s : State) : (disqualify s).notices = s.notices := by
  unfold disqualify
  split <;> rfl

theorem latched_change (seg : Segment) (s : State) :
    (disqualify (latchCollision seg s)).probes.change = s.probes.change := by
  rw [disqualify_probes]
  rfl

theorem latched_motion (seg : Segment) (s : State) : (disqualify (latchCollision seg s)).motion = s.motion := by
  rw [disqualify_motion]
  rfl

theorem latched_get {seg : Segment} {s : State} {k : Fin 9} (h : k ≠ 2) :
    (disqualify (latchCollision seg s)).notices.get k = s.notices.get k := by
  rw [disqualify_notices]
  exact latchNotice_other (n := .collision _ _ _) h.symm s

theorem rackTouch_eq {s : State} {seg : Segment} {rest : List Segment} (hq : s.motion.queue = seg :: rest)
    (hk : seg.kind = .rackTravel) (hs : seg.state = .moving ∨ seg.state = .stopping) :
    rackTouch s = finishChange (controlledStop .collision (rackCollided seg s)) := by
  simp only [rackTouch, hq]
  rw [if_pos ⟨hk, hs⟩, latched_change]
  rfl

theorem rackTouch_ignored {s : State} (h : ∀ seg rest, s.motion.queue = seg :: rest →
    seg.kind ≠ .rackTravel ∨ (seg.state ≠ .moving ∧ seg.state ≠ .stopping)) : rackTouch s = s := by
  unfold rackTouch
  split
  · rfl
  · rename_i seg rest hq
    refine if_neg ?_
    rintro ⟨hk, hs⟩
    rcases h seg rest hq with hne | ⟨hm, hst⟩
    · exact hne hk
    · exact hs.elim hm hst

theorem rackCollided_motion {seg : Segment} {s : State} (he : s.probes.change.expiry = .none) :
    (rackCollided seg s).motion = s.motion := by
  unfold rackCollided
  split
  · exact latched_motion seg s
  · rw [failTaken_motion, latched_change, he, latched_motion]
    rfl

/-- The change as the collision leaves it, in the phases of a RACK-TRAVEL, with no expiry noted. -/
theorem rackCollided_change {seg : Segment} {s : State} (he : s.probes.change.expiry = .none) :
    (rackCollided seg s).probes.change = if s.probes.change.result.isSome ∨ seg.state = .stopping then s.probes.change
      else withResult (phaseResult .failed .collision 0 s.probes.change) s.probes.change := by
  unfold rackCollided
  split
  · exact latched_change seg s
  · rw [failTaken_change, latched_change, ← he]
    rfl

/-- In a RACK-TRAVEL no record becomes UNKNOWN with the phase (R141). -/
theorem rackCollided_table {seg : Segment} {s : State}
    (hp : s.probes.change.phase = some .travelDrop ∨ s.probes.change.phase = some .travelPick) :
    (rackCollided seg s).probes.table = (disqualify (latchCollision seg s)).probes.table := by
  unfold rackCollided
  split
  · rfl
  · refine vector_ext_get fun i => ?_
    have hu : unsureId s.probes.change = 0 := by
      unfold unsureId
      rcases hp with hp | hp <;> rw [hp]
    rw [failTaken_table, latched_change, hu, if_neg (fun h => h.1 rfl)]

theorem rackCollided_kept (seg : Segment) (s : State) :
    NoticesKept (disqualify (latchCollision seg s)) (rackCollided seg s) := by
  unfold rackCollided
  split
  · exact .of_eq rfl
  · exact noticesKept_failTaken _ _ _

theorem motionOnly_rackCollided (seg : Segment) (s : State) : MotionOnly s (rackCollided seg s) := by
  have h := (motionOnly_latchCollision seg s).trans (motionOnly_disqualify _)
  unfold rackCollided
  split
  · exact h
  · exact h.trans (motionOnly_failTaken _ _ _)

end Sys2Proof.Machine

namespace Sys2Proof.Machine

theorem motionOnly_collided (number : BitVec 8) (kind : SegKind) (k : Fin 16) (r : ProbeRecord) (s : State) :
    MotionOnly s (collided number kind k r s) :=
  (motionOnly_latchNotice _ s).trans (motionOnly_setProbe _ _ _)

/-- A collision with no change in progress, on a POSITION or REFERENCE head. -/
theorem next_collision {t : Tick} {s : State} {k : Fin 16} {r : ProbeRecord} {seg : Segment} {rest : List Segment}
    (hr : s.inReset = false) (hd : s.pins.deflected = false) (hready : s.capture.reseat = .ready)
    (hm : s.station.mode = .run) (ho : s.line.state ≠ .offline) (ha : s.probes.change.active = false)
    (hon : onHead? s = some (k, r)) (hq : s.motion.queue = seg :: rest)
    (hk : seg.kind = .position ∨ seg.kind = .reference) (hs : seg.state = .moving ∨ seg.state = .stopping) :
    exec (.triggerDeflected t) s =
      .next (finish (controlledStop .collision (collided seg.number seg.kind k r (edgeTaken t s)))) := by
  refine next_edge hr hd hready
    ((eligibleEdge_room (s := edgeTaken t s) (k := k) (r := r) ha hm (edgeTaken_offline.mpr ho) hon).trans ?_)
  exact classifyTouch_collides (s := edgeTaken t s) hq hon hk hs

/-- A collision with a RACK-TRAVEL segment of a change (R145). -/
theorem rackCollision {s : State} {seg : Segment} (ha : s.probes.change.active = true) (hq : s.motion.queue = [seg])
    (hi : seg.issuer = .probeUnit) (hs : seg.state = .moving ∨ seg.state = .stopping)
    (hp : s.probes.change.phase = some .travelDrop ∨ s.probes.change.phase = some .travelPick)
    (he : s.probes.change.expiry = .none) :
    let c := s.probes.change
    let r := phaseResult .failed .collision 0 c
    let v := finishChange (controlledStop .collision (rackCollided seg s))
    v.probes.table = (disqualify (latchCollision seg s)).probes.table ∧
    v.notices.get 2 = (disqualify (latchCollision seg s)).notices.get 2 ∧
    (seg.state = .stopping → v.motion.queue = [counted 0 seg] ∧ v.probes.change = c) ∧
    (Shedding seg → v.motion.queue = [stopMoving .collision (counted 0 seg)] ∧
      (c.result = none → v.probes.change = withResult r c) ∧ (c.result ≠ none → v.probes.change = c)) ∧
    (seg.state = .moving → Speedless seg → c.result = none → v.motion.queue = [] ∧
      v.probes.change = Change.idle (some r) ∧ (v.notices.get 4).detail = some (.probeChangeEnd c.target r)) := by
  intro c r v
  have hw : (rackCollided seg s).motion.queue = [seg] := by rw [rackCollided_motion he, hq]
  have hchange := rackCollided_change (seg := seg) he
  have hstopping (hst : seg.state = .stopping) : v = autoRelease (setQueue [counted 0 seg] (rackCollided seg s)) := by
    have h := controlledStop_stopping (o := .collision) (by decide) hw hst
    exact (congrArg finishChange h).trans (finishChange_waits (seg := counted 0 seg) (rest := [])
      (by rw [autoRelease_motion]; rfl) hi)
  have hshedding (hsh : Shedding seg) :
      v = autoRelease (setQueue [stopMoving .collision (counted 0 seg)] (rackCollided seg s)) := by
    have h := controlledStop_shedding (o := .collision) (by decide) hw hsh
    exact (congrArg finishChange h).trans (finishChange_waits (seg := stopMoving .collision (counted 0 seg))
      (rest := []) (by rw [autoRelease_motion]; rfl) hi)
  refine ⟨?_, ?_, fun hst => ?_, fun hsh => ⟨?_, fun hn => ?_, fun hn => ?_⟩, fun hmv hsl hn => ?_⟩
  · rw [← rackCollided_table hp]
    rcases hs with hs | hs
    · have hsome : (rackCollided seg s).probes.change.result.isSome = true := by
        rw [hchange]
        split
        · rename_i h
          exact h.resolve_right (by rw [hs]; decide)
        · rfl
      rcases changeKept_controlledStop (o := .collision) (by decide) hsome with h | h <;> rw [h]
    · rw [hstopping hs, autoRelease_probes]
      rfl
  · exact (((rackCollided_kept seg s).trans (noticesKept_controlledStop (by decide) (by decide) _)).trans
      (noticesKept_finishChange _)) 2 (by decide) (by decide) (by decide)
  · rw [hstopping hst, autoRelease_motion, autoRelease_probes]
    exact ⟨rfl, hchange.trans (if_pos (.inr hst))⟩
  · rw [hshedding hsh, autoRelease_motion]
    rfl
  · rw [hshedding hsh, autoRelease_probes]
    refine hchange.trans (if_neg ?_)
    rw [show s.probes.change.result = none from hn, hsh.1]
    simp
  · rw [hshedding hsh, autoRelease_probes]
    exact hchange.trans (if_pos (.inl (Option.isSome_iff_ne_none.mpr hn)))
  · have hc : (rackCollided seg s).probes.change = withResult r c := by
      refine hchange.trans (if_neg ?_)
      rw [show s.probes.change.result = none from hn, hmv]
      simp
    have hv : v = endChange r (queueEnded .collision (rackCollided seg s)) := by
      have h := controlledStop_speedless (o := .collision) (by decide) hw hsl
      exact (congrArg finishChange h).trans
        (finishChange_endAtOnce (r := r) (by rw [hc]; exact ha) (by rw [hc]; rfl))
    rw [hv, endChange_motion, queueEnded_queue, endChange_change, endChange_get, if_pos rfl, queueEnded_probes, hc,
      event_detail]
    exact ⟨rfl, rfl, rfl⟩

/-- Settles O38: a touch that is a collision, with and without a change, and one that is ignored. -/
theorem touchElsewhereCollidesOrIsIgnored : Obligations.TouchElsewhereCollidesOrIsIgnored := by
  refine ⟨fun t s k r hr hd hready hm ho ha hon => ?_, fun t s hr hd hready ha => ?_, fun t s hr hd ha h => ?_⟩
  · intro ignored
    refine ⟨fun seg rest hq hk hs har hu hl => ?_, fun seg rest hq hk hs => ?_, fun h => ?_⟩
    · refine ⟨_, next_collision hr hd hready hm ho ha hon hq hk (.inl hs), ?_, ?_, ?_⟩
      · exact (motionOnly_collided _ _ _ _ _).trans (motionOnly_controlledStop _ _)
      · rw [((motionOnly_collided _ _ _ _ _).trans (motionOnly_controlledStop _ _)).capture]
        rfl
      · rw [controlledStop_shedding (s := collided seg.number seg.kind k r (edgeTaken t s)) (by decide) hq
          ⟨hs, har, hu, hl⟩, autoRelease_motion, autoRelease_probes, autoRelease_notices]
        exact ⟨rfl, rfl, rfl⟩
    · have hms : seg.state = .moving ∨ seg.state = .stopping := hs.imp_left fun h => h.1
      refine ⟨_, next_collision hr hd hready hm ho ha hon hq hk hms, ?_, ?_, fun hi => ?_, ?_, fun hst => ?_,
        fun hmv => ?_⟩
      · exact (motionOnly_collided _ _ _ _ _).trans (motionOnly_controlledStop _ _)
      · rw [((motionOnly_collided _ _ _ _ _).trans (motionOnly_controlledStop _ _)).capture]
        rfl
      · rcases hs with ⟨-, hsl⟩ | hst
        · rw [controlledStop_speedless (s := collided seg.number seg.kind k r (edgeTaken t s)) (by decide) hq hsl,
            endAtOnce_room (s := collided seg.number seg.kind k r (edgeTaken t s)) hq hi, autoRelease_probes,
            headGone_probes]
          rfl
        · rw [controlledStop_stopping (s := collided seg.number seg.kind k r (edgeTaken t s)) (by decide) hq hst,
            autoRelease_probes]
          rfl
      · refine (noticesKept_controlledStop (by decide) (by decide) _ 2 (by decide) (by decide) (by decide)).trans ?_
        exact collided_get2 _ _ _ _ _
      · rw [controlledStop_stopping (s := collided seg.number seg.kind k r (edgeTaken t s)) (by decide) hq hst,
          autoRelease_motion]
        rfl
      · have hsl : Speedless seg := hs.elim (fun h => h.2) fun h => by rw [hmv] at h; cases h
        rw [controlledStop_speedless (s := collided seg.number seg.kind k r (edgeTaken t s)) (by decide) hq hsl]
        refine ⟨endAtOnce_empty (by decide) _, fun hi => ?_⟩
        rw [endAtOnce_segmentEnd (s := collided seg.number seg.kind k r (edgeTaken t s)) hq hi]
        exact event_detail _ _
    · refine next_edge_ignored hr hd
        ((eligibleEdge_room (s := edgeTaken t s) (k := k) (r := r) ha hm (edgeTaken_offline.mpr ho) hon).trans ?_)
      exact classifyTouch_ignored (s := edgeTaken t s) h
  · intro ignored c r
    refine ⟨fun seg hq hk hi hs hp he => ?_, fun h => ?_⟩
    · have hexec : exec (.triggerDeflected t) s =
          .next (finish (finishChange (controlledStop .collision (rackCollided seg (edgeTaken t s))))) :=
        next_edge hr hd hready ((eligibleEdge_change (s := edgeTaken t s) ha).trans
          (rackTouch_eq (s := edgeTaken t s) hq hk hs))
      obtain ⟨htable, h2, hst, hsh, hsl⟩ := rackCollision (s := edgeTaken t s) ha hq hi hs hp he
      refine ⟨_, hexec, ?_, fun hon => ?_, fun k x hon => ?_, hst, hsh, hsl⟩
      · exact ((motionOnly_rackCollided _ _).trans (motionOnly_controlledStop _ _)).trans (motionOnly_finishChange _)
      · rw [htable, h2, disqualify_latchCollision_none (s := edgeTaken t s) hon,
          latchNotice_at (n := .collision seg.number seg.kind 0) (k := 2) rfl, hk]
        exact ⟨rfl, rfl⟩
      · rw [htable, h2, disqualify_latchCollision (s := edgeTaken t s) hon, collided_get2, hk]
        exact ⟨rfl, rfl⟩
    · exact next_edge_ignored hr hd ((eligibleEdge_change (s := edgeTaken t s) ha).trans
        (rackTouch_ignored (s := edgeTaken t s) h))
  · exact next_edge_ignored hr hd (eligibleEdge_ignored (s := edgeTaken t s) ha h)

end Sys2Proof.Machine

namespace Sys2Proof.Machine

/-! ### A head of the room leaves, and the segment behind it becomes head (R56, R64, R75) -/

theorem sameBed_formHead (s : State) : SameBed s (formHead s) := by
  cases hq : s.motion.queue with
  | nil => rw [formHead_nil hq]; exact ⟨rfl, rfl, rfl, rfl, rfl⟩
  | cons seg rest => rw [formHead_cons hq]; exact sameBed_setQueue _ s

theorem formHead_claim (s : State) : (formHead s).zones.claim = s.zones.claim := by
  cases hq : s.motion.queue with
  | nil => rw [formHead_nil hq]
  | cons seg rest => rw [formHead_cons hq]; rfl

theorem neededSet_headGone (q : List Segment) (s : State) (x : Segment) :
    neededSet (headGone q s) x = neededSet s x := by
  rw [headGone, endedClaim_eq]
  rfl

theorem headDropped_removeHead {o : SegOutcome} {s : State} {seg : Segment} {rest : List Segment}
    (hq : s.motion.queue = seg :: rest) : HeadDropped s (autoRelease (removeHead o s)) := by
  have hsame : segmentEnds o seg s = s ∨ ∃ n, segmentEnds o seg s = latchNotice n s := by
    unfold segmentEnds
    split
    · exact .inr ⟨_, rfl⟩
    · exact .inl rfl
  have hz : (segmentEnds o seg s).zones = s.zones := by
    obtain h | ⟨n, h⟩ := hsame
    · rw [h]
    · rw [h]
      rfl
  have hsl : (segmentEnds o seg s).slots = s.slots := by
    obtain h | ⟨n, h⟩ := hsame
    · rw [h]
    · rw [h]
      rfl
  have hfl : inFlight (segmentEnds o seg s) .claim = inFlight s .claim := by
    obtain h | ⟨n, h⟩ := hsame
    · rw [h]
    · rw [h]
      rfl
  have hbed : SameBed s (removeHead o s) := by
    rw [removeHead_eq hq]
    exact ((sameBed_segmentEnds o seg s).trans (sameBed_headGone rest _)).trans (sameBed_formHead _)
  exact
    { released_of_autoRelease hbed (.inl (by rw [hq]; simp)) rfl (autoRelease_axes _) (autoRelease_motion _) with
      probes := by rw [autoRelease_probes, removeHead_probes]
      claim := by
        rw [autoRelease_claim, removeHead_eq hq, formHead_claim, headGone_claim, hfl, hz, hq]
        cases s.zones.claim with
        | queued x b => cases b <;> rfl
        | none => rfl
        | window x b => rfl
      slot := by
        rw [autoRelease_eq]
        dsimp only
        rw [removeHead_eq hq, formHead_slots, headGone_claimSlot, hfl, hz, hsl, hq]
        cases s.zones.claim with
        | queued x b => cases b <;> rfl
        | none => rfl
        | window x b => rfl
      slots := (ownSlots_removeHead o s).trans (ownSlots_autoRelease _)
      still := fun he => by rw [hq] at he; cases he }

/-- The head of a queue that a segment behind a dropped head becomes (R64). -/
def nextHead (s : State) : List Segment → List Segment
  | [] => []
  | x :: xs => (if x.state = .queued then { x with state := .waiting, needed := some (neededSet s x) } else x) :: xs

theorem removeHead_motion {o : SegOutcome} {s : State} {seg : Segment} {rest : List Segment}
    (hq : s.motion.queue = seg :: rest) :
    (removeHead o s).motion = { s.motion with queue := nextHead s rest } := by
  have hn (x : Segment) : neededSet (segmentEnds o seg s) x = neededSet s x := by
    unfold segmentEnds
    split <;> rfl
  rw [removeHead_eq hq]
  cases rest with
  | nil => rw [formHead_nil rfl, headGone_motion, segmentEnds_motion]; rfl
  | cons x xs =>
    rw [formHead_cons (s := headGone (x :: xs) (segmentEnds o seg s)) rfl]
    rw [show ∀ (q : List Segment) (u : State), (setQueue q u).motion = { u.motion with queue := q } from
      fun _ _ => rfl, headGone_motion, segmentEnds_motion, formedHead, neededSet_headGone, hn]
    by_cases hx : x.state = .queued
    · simp only [nextHead, if_pos hx]
    · simp only [nextHead, if_neg hx]

theorem removeHead_notices {o : SegOutcome} {s : State} {seg : Segment} {rest : List Segment}
    (hq : s.motion.queue = seg :: rest) (hi : seg.issuer = .room) : (removeHead o s).notices =
      s.notices.set 6 ((s.notices.get 6).event (.segmentEnd seg.number o seg.flushed)) := by
  have hf (u : State) : (formHead u).notices = u.notices := by
    cases hu : u.motion.queue with
    | nil => rw [formHead_nil hu]
    | cons x xs => rw [formHead_cons hu]; rfl
  rw [removeHead_eq hq, hf, headGone_notices, segmentEnds, if_pos hi]
  rfl

/-! ### A point is formed (R108, R111 to R115) -/

/-- What the record on the head is once a touch has counted (R108). -/
def touched (r : ProbeRecord) : ProbeRecord := { r with touches := min 4294967295 (r.touches + 1) }

/-- The state once the edge at `t` on segment `seg` has formed its point and counted the touch (R108, R113). -/
def pointFormed (t : Tick) (seg : Segment) (k : Fin 16) (r : ProbeRecord) (s : State) : State :=
  setProbe k (touched r) (mapCapture (fun c => { c with
    points := c.points ++ [pointOf (edgeTaken t s) seg r { tick := t, counts := edgeCounts s }]
    counter := c.counter + 1 }) (edgeTaken t s))

theorem edgeCounts_get {s : State} {i : Fin 4} (h : s.live i = true) : (edgeCounts s).get i = (s.axis i).position := by
  rw [edgeCounts, tab4_get, if_pos h]

/-- The corrections of a point are those of the positions of the live channels (R15, R111). -/
theorem corrections_edge (t : Tick) (s : State) :
    ((edgeTaken t s).liveAxes.map fun i => forward (edgeTaken t s) i ((edgeCounts s).get i) true) =
      s.liveAxes.map fun i => forward s i (s.axis i).position true := by
  refine List.map_congr_left fun i hi => ?_
  rw [edgeCounts_get ((mem_liveAxes s i).mp hi)]
  rfl

theorem next_point {t : Tick} {s : State} {k : Fin 16} {r : ProbeRecord} {seg : Segment} {rest : List Segment}
    (hr : s.inReset = false) (hd : s.pins.deflected = false) (hready : s.capture.reseat = .ready)
    (hm : s.station.mode = .run) (ho : s.line.state ≠ .offline) (ha : s.probes.change.active = false)
    (hon : onHead? s = some (k, r)) (hq : s.motion.queue = seg :: rest) (hk : seg.kind = .probe)
    (hs : seg.state = .moving) :
    exec (.triggerDeflected t) s = .next (finish (controlledStop .touched (pointFormed t seg k r s))) := by
  have hq' : (edgeTaken t s).motion.queue = seg :: rest := hq
  refine next_edge hr hd hready
    ((eligibleEdge_room (s := edgeTaken t s) (k := k) (r := r) ha hm (edgeTaken_offline.mpr ho) hon).trans ?_)
  simp only [classifyTouch, hq', hk, hs]
  rfl

/-- A touch stops a MOVING head with speed left, the queue behind it kept (R70, R74). -/
theorem controlledStop_touched_shedding {s : State} {seg : Segment} {rest : List Segment}
    (hq : s.motion.queue = seg :: rest) (hs : Shedding seg) :
    controlledStop .touched s = setQueue (stopMoving .touched seg :: rest) s := by
  simp only [controlledStop, hq, hs.1, if_true, not_atRest_of_shedding hs, Bool.false_eq_true, if_false]
  exact mapHead_cons hq

/-- A touch ends a MOVING head of the room without speed at once. -/
theorem controlledStop_touched_speedless {s : State} {seg : Segment} {rest : List Segment}
    (hq : s.motion.queue = seg :: rest) (hm : seg.state = .moving) (hs : Speedless seg) (hi : seg.issuer = .room) :
    controlledStop .touched s = autoRelease (removeHead .touched s) := by
  have har : (seg.traj.arrived || atRest seg) = true := by
    obtain (h | h) | ⟨-, h⟩ := atRest_of_speedless hs
    · cases hm.symm.trans h
    · cases hm.symm.trans h
    · exact h
  simp only [controlledStop, hq, hm, har, if_true, endHead, hi]
  rfl

/-- Settles O37: an eligible edge on a MOVING PROBE segment forms the point of `next_point`; what follows is the
controlled stop of cause TOUCHED, which flushes nothing. -/
theorem touchOnAProbeSegmentFormsAPoint : Obligations.TouchOnAProbeSegmentFormsAPoint := by
  intro t s k r seg rest hr hd hready hm ho ha hon hq hk hs cs absent named point table points formed
  have hformed : pointFormed t seg k r s = formed := by
    unfold pointFormed pointOf
    dsimp only
    rw [corrections_edge]
    rfl
  have hexec : exec (.triggerDeflected t) s = .next (finish (controlledStop .touched formed)) :=
    hformed ▸ next_point hr hd hready hm ho ha hon hq hk hs
  have hq' : formed.motion.queue = seg :: rest := hq
  refine ⟨fun hsh => ?_, fun hsl hi => ⟨controlledStop .touched formed, hexec, motionOnly_controlledStop _ _, ?_⟩⟩
  · exact hexec.trans (congrArg (fun v => Host.Outcome.next (finish v)) (controlledStop_touched_shedding hq' hsh))
  · rw [controlledStop_touched_speedless hq' hs hsl hi]
    refine ⟨headDropped_removeHead hq', ?_, ?_⟩
    · rw [autoRelease_motion, removeHead_motion hq']
      cases rest <;> rfl
    · rw [autoRelease_notices, removeHead_notices hq' hi]
      rfl

end Sys2Proof.Machine

/-! A station that sends nothing: what its stops leave alone, and the emptied slots. -/

namespace Sys2Proof.Machine

/-! ### One rule for what a stop can do -/

/-- The relation `R` holds from a state with `P` to what each part of a stop makes of it, and keeps `P`. -/
structure StopRule (P : State → Prop) (R : State → State → Prop) : Prop where
  refl : ∀ s, R s s
  trans : ∀ {s t u}, R s t → R t u → R s u
  keeps : ∀ {s t}, R s t → P s → P t
  latch : ∀ n s, R s (latchNotice n s)
  queue : ∀ q s, R s (setQueue q s)
  change : ∀ c s, R s (setChange c s)
  fails : ∀ c n s, R s (failTaken c n s)
  claim : ∀ s, P s → R s (endedClaim s)
  release : ∀ s, P s → R s (autoRelease s)

section
variable {P : State → Prop} {R : State → State → Prop} (rule : StopRule P R) {s t : State}
include rule

theorem StopRule.andThen (h : R s t) (hs : P s) {f : State → State} (hf : ∀ u, P u → R u (f u)) : R s (f t) :=
  rule.trans h (hf t (rule.keeps h hs))

theorem StopRule.endChange (r : ChangeResult) (s : State) (h : P s) : R s (endChange r s) := by
  rw [endChange_eq]
  exact rule.trans (rule.trans (rule.release s h) (rule.change _ _)) (rule.latch _ _)

theorem StopRule.finishChange (s : State) (h : P s) : R s (finishChange s) := by
  rcases finishChange_cases s with hf | ⟨r, -, -, -, hf⟩ <;> rw [hf]
  · exact rule.refl s
  · exact rule.endChange r s h

theorem StopRule.headGone (q : List Segment) (s : State) (h : P s) : R s (headGone q s) :=
  rule.trans (rule.claim s h) (rule.queue q _)

theorem StopRule.failEnded (c : ChangeCause) (n : Nat) (s : State) (h : P s) : R s (failEnded c n s) :=
  rule.andThen (rule.fails c n s) h rule.finishChange

theorem StopRule.afterRackEnd {o : SegOutcome} (ho : o ≠ .arrived) (s : State) (h : P s) : R s (afterRackEnd o s) := by
  unfold Machine.afterRackEnd
  split
  · exact rule.finishChange s h
  · cases o with
    | arrived => exact absurd rfl ho
    | unsettled | collision | conflict | motionFault | drivesOff => exact rule.failEnded _ _ s h
    | touched | missed | halted | lapsed => exact rule.refl s

theorem StopRule.endAtOnce {o : SegOutcome} (ho : o ≠ .arrived) (s : State) (h : P s) : R s (endAtOnce o s) := by
  cases hq : s.motion.queue with
  | nil => rw [endAtOnce_nil hq]; exact rule.refl s
  | cons seg rest =>
    cases hi : seg.issuer with
    | room =>
      rw [endAtOnce_room hq hi]
      exact rule.andThen (rule.andThen (rule.latch _ s) h (rule.headGone [])) h rule.release
    | probeUnit =>
      rw [endAtOnce_rack hq hi]
      exact rule.andThen (rule.andThen (rule.headGone [] s h) h (rule.afterRackEnd ho)) h rule.release

theorem StopRule.controlledStop {o : SegOutcome} (ho : o ≠ .arrived) (hot : o ≠ .touched) (s : State) (h : P s) :
    R s (controlledStop o s) := by
  rcases controlledStop_cases hot s with ⟨-, hc⟩ | hc | ⟨seg, rest, seg', -, -, hc⟩ <;> rw [hc]
  · exact rule.refl s
  · exact rule.endAtOnce ho s h
  · exact rule.andThen (rule.queue [seg'] s) h rule.release

theorem StopRule.zonesLost (lost : ZoneSet) (s : State) (h : P s) : R s (zonesLost lost s) := by
  unfold Machine.zonesLost
  split
  · exact rule.refl s
  · split
    · exact rule.controlledStop (by decide) (by decide) s h
    · exact rule.refl s

end

/-! ### Stops of a station that is not joined and has no QUEUED claim -/

/-- The line is not joined and the own claim is not QUEUED. -/
structure Unsent (s : State) : Prop where
  unjoined : joined s = false
  claim : ∀ x b, s.zones.claim ≠ .queued x b

/-- From `s` to `t` zones, slots and line are as they were, and no latch is cleared. -/
structure HandsOff (s t : State) : Prop where
  zones : t.zones = s.zones
  slots : t.slots = s.slots
  line : t.line = s.line
  pending : ∀ k, (s.notices.get k).pending = true → (t.notices.get k).pending = true

theorem HandsOff.refl (s : State) : HandsOff s s := ⟨rfl, rfl, rfl, fun _ h => h⟩

theorem HandsOff.trans {s t u : State} (h : HandsOff s t) (k : HandsOff t u) : HandsOff s u :=
  ⟨k.zones.trans h.zones, k.slots.trans h.slots, k.line.trans h.line, fun i hi => k.pending i (h.pending i hi)⟩

theorem HandsOff.unsent {s t : State} (h : HandsOff s t) (hs : Unsent s) : Unsent t :=
  ⟨by rw [joined, h.line]; exact hs.unjoined, by rw [h.zones]; exact hs.claim⟩

theorem HandsOff.of_rackOnly {s t : State} (h : RackOnly s t)
    (hp : ∀ k, (s.notices.get k).pending = true → (t.notices.get k).pending = true) : HandsOff s t :=
  ⟨h.zones, h.slots, h.line, hp⟩

theorem latchNotice_keeps_pending {n : Notice} {s : State} {k : Fin 9} (h : (s.notices.get k).pending = true) :
    ((latchNotice n s).notices.get k).pending = true := by
  rw [latchNotice_get]
  split
  · exact event_pending _ _
  · exact h

theorem handsOff_latchNotice (n : Notice) (s : State) : HandsOff s (latchNotice n s) :=
  ⟨rfl, rfl, rfl, fun _ => latchNotice_keeps_pending⟩

theorem handsOff_setQueue (q : List Segment) (s : State) : HandsOff s (setQueue q s) := ⟨rfl, rfl, rfl, fun _ h => h⟩

theorem handsOff_setChange (c : Change) (s : State) : HandsOff s (setChange c s) := ⟨rfl, rfl, rfl, fun _ h => h⟩

theorem handsOff_takeDeferredExpiry (s : State) : HandsOff s (takeDeferredExpiry s) :=
  .of_rackOnly (rackOnly_takeDeferredExpiry s) fun k h => by
    rw [takeDeferredExpiry_get]
    split
    · exact event_pending _ _
    · exact h

theorem handsOff_abortTaken (c : ChangeCause) (p : Bool) (s : State) : HandsOff s (abortTaken c p s) :=
  .of_rackOnly (rackOnly_abortTaken c p s) fun k h => by rw [abortTaken_notices]; exact h

theorem handsOff_failTaken (c : ChangeCause) (n : Nat) (s : State) : HandsOff s (failTaken c n s) :=
  .of_rackOnly (rackOnly_failTaken c n s) fun k h => by
    rw [failTaken_get]
    split
    · exact event_pending _ _
    · exact h

theorem handsOff_autoRelease {s : State} (h : Unsent s) : HandsOff s (autoRelease s) := by
  rw [autoRelease_unjoined h.unjoined]
  exact .refl s

theorem endedClaim_unsent {s : State} (h : Unsent s) : endedClaim s = s := by
  unfold endedClaim
  cases hc : s.zones.claim with
  | queued x b => exact absurd hc (h.claim x b)
  | none => rfl
  | window x b => rfl

theorem stopRule_handsOff : StopRule Unsent HandsOff where
  refl := HandsOff.refl
  trans := HandsOff.trans
  keeps := HandsOff.unsent
  latch := handsOff_latchNotice
  queue := handsOff_setQueue
  change := handsOff_setChange
  fails := handsOff_failTaken
  claim _ h := by rw [endedClaim_unsent h]; exact .refl _
  release _ := handsOff_autoRelease

theorem handsOff_haltMotion {s : State} (h : Unsent s) (c : ChangeCause) : HandsOff s (haltMotion c s) := by
  cases hc : inCommit s with
  | true =>
    rw [haltMotion_commit hc, abortChange_commit hc]
    exact handsOff_setChange _ s
  | false =>
    have habort : HandsOff s (abortChange c s) := by
      by_cases hi : s.probes.change.active = false ∨ s.probes.change.result ≠ none
      · rw [abortChange_idle hi]
        exact .refl s
      · rw [not_or, Bool.not_eq_false, not_not] at hi
        rw [abortChange_outside hi.1 hi.2 hc]
        exact handsOff_abortTaken _ _ s
    rw [haltMotion_outside hc, withdrawClaim_none (habort.unsent h).claim]
    have rule := stopRule_handsOff
    exact rule.andThen (rule.andThen habort h (rule.controlledStop (o := .halted) (by decide) (by decide))) h
      rule.finishChange

theorem handsOff_changePowerLost (c : ChangeCause) (s : State) : HandsOff s (changePowerLost c s) := by
  cases ha : s.probes.change.active with
  | false => rw [changePowerLost_inactive ha]; exact .refl s
  | true =>
    have hl : HandsOff s (recordsLost s) :=
      .of_rackOnly ((rackOnly_setLocation _ _ s).trans (rackOnly_setLocation _ _ _)) fun k h => by
        rw [recordsLost_notices]
        exact h
    cases hr : s.probes.change.result with
    | some r => rw [changePowerLost_taken ha hr]; exact hl
    | none =>
      rw [changePowerLost_running ha hr]
      have ht : HandsOff (recordsLost s) (takeResult (phaseResult .failed c 0 s.probes.change) (recordsLost s)) :=
        ⟨rfl, rfl, rfl, fun _ h => h⟩
      exact (hl.trans ht).trans (handsOff_takeDeferredExpiry _)

/-! ### The end of a step of a station that is not joined -/

/-- Without a joined line nothing is loaded, and the evaluation can only make a CLAIMING head WAITING. -/
theorem finish_unjoined {s : State} (h : joined s = false) : ∃ q, finish s = setQueue q s ∧
    q.length = s.motion.queue.length ∧
    ((∀ seg rest, s.motion.queue = seg :: rest → seg.state ≠ .waiting ∧ seg.state ≠ .claiming) →
      q = s.motion.queue) := by
  have hself : setQueue s.motion.queue s = s := rfl
  by_cases hr : s.inReset = true
  · exact ⟨s.motion.queue, by rw [finish, if_pos hr, hself], rfl, fun _ => rfl⟩
  have hload {u : State} (hu : joined u = false) : loadNotice (loadPoint (loadTouch u)) = u := by
    have ht : loadTouch u = u := by simp [loadTouch, hu]
    have hp : loadPoint u = u := by simp [loadPoint, hu]
    rw [ht, hp]
    simp [loadNotice, hu]
  have hset (q : List Segment) (hq : evaluateHead s = setQueue q s) : finish s = setQueue q s := by
    rw [finish, if_neg hr, hq]
    exact hload h
  cases hq : s.motion.queue with
  | nil =>
    refine ⟨[], hset [] ?_, rfl, fun _ => rfl⟩
    rw [← hq, hself]
    exact evaluateHead_idle fun seg rest hs => by rw [hq] at hs; cases hs
  | cons seg rest =>
    by_cases hs : seg.state = .waiting ∨ seg.state = .claiming
    · have hmay : mayMove s seg = false := by
        rw [Bool.eq_false_iff]
        intro hm
        rw [(mayMove_iff.mp hm).2.2.1] at h
        cases h
      have hnot : ¬∀ x xs, seg :: rest = x :: xs → x.state ≠ .waiting ∧ x.state ≠ .claiming :=
        fun hall => hs.elim (hall seg rest rfl).1 (hall seg rest rfl).2
      have he := evaluateHead_ready hq hs
      rw [hmay, h] at he
      simp only [Bool.false_eq_true, if_false, false_and] at he
      split at he
      · exact ⟨_, hset _ he, rfl, fun hall => absurd hall hnot⟩
      · split at he
        · exact ⟨_, hset _ he, rfl, fun hall => absurd hall hnot⟩
        · split at he
          · exact ⟨_, hset _ he, rfl, fun hall => absurd hall hnot⟩
          · exact ⟨seg :: rest, hset _ (he.trans (by rw [← hq, hself])), rfl, fun _ => rfl⟩
    · rw [not_or] at hs
      refine ⟨seg :: rest, hset _ ?_, rfl, fun _ => rfl⟩
      rw [← hq, hself]
      exact evaluateHead_idle fun x xs hx => by
        obtain ⟨rfl, -⟩ := List.cons.inj (hq.symm.trans hx)
        exact hs

end Sys2Proof.Machine

/-! Attempts that are lost or fail, and the entry into MUTE: settling O48. -/

namespace Sys2Proof.Machine

/-! ### The slots emptied (R177) -/

/-- What the emptying of the slots makes of the own claim (R90). -/
def emptiedClaim : Claim → Claim
  | .queued _ _ => .none
  | c => c

theorem returnNotice_eq (s : State) : returnNotice s = { s with notices := (returnNotice s).notices } := by
  unfold returnNotice
  split <;> rfl

theorem returnNotice_notices {s t : State} (hs : t.slots = s.slots) (hn : t.notices = s.notices) :
    (returnNotice t).notices = (returnNotice s).notices := by
  unfold returnNotice
  rw [hs]
  cases s.slots.notice with
  | none => exact hn
  | some f =>
    dsimp only
    rw [hn]

theorem returnNotice_pending {s : State} {f : NoticeFrame} (h : s.slots.notice = some f) :
    ((returnNotice s).notices.get f.notice.latchIx).pending = true := by
  simp only [returnNotice, h]
  rw [vector_get_set, if_pos rfl]
  split
  · assumption
  · rfl

theorem dropQueuedClaim_eq (s : State) : dropQueuedClaim s = { s with
    zones := { s.zones with claim := emptiedClaim s.zones.claim }
    motion := { s.motion with queue := (dropQueuedClaim s).motion.queue } } := by
  unfold dropQueuedClaim
  cases hc : s.zones.claim with
  | queued x b =>
    dsimp only
    rw [unclaimHead_eq]
    rfl
  | none => simp only [emptiedClaim, ← hc]
  | window x b => simp only [emptiedClaim, ← hc]

theorem queueUnclaimed_dropQueuedClaim (s : State) : QueueUnclaimed s (dropQueuedClaim s) := by
  unfold dropQueuedClaim
  cases hc : s.zones.claim with
  | queued x b =>
    dsimp only
    rw [unclaimHead_eq]
    exact .inr rfl
  | none => exact .inl rfl
  | window x b => exact .inl rfl

/-- The emptying of the slots cuts off an attempt and leaves every other unit but the head's own claim. -/
theorem emptySlots_eq (s : State) : emptySlots s = { s with
    slots := Slots.empty
    line := { s.line with attempt := none }
    capture := { s.capture with points := s.capture.points.map PointRecord.unoffer, requests := [] }
    zones := { s.zones with claim := emptiedClaim s.zones.claim }
    motion := { s.motion with queue := (emptySlots s).motion.queue }
    notices := (returnNotice s).notices } := by
  unfold emptySlots
  dsimp only
  rw [dropQueuedClaim_eq, returnNotice_eq]

theorem queueUnclaimed_emptySlots (s : State) : QueueUnclaimed s (emptySlots s) := by
  have h := queueUnclaimed_dropQueuedClaim { returnNotice s with
    slots := Slots.empty
    line := { (returnNotice s).line with attempt := none }
    capture := { (returnNotice s).capture with
      points := (returnNotice s).capture.points.map PointRecord.unoffer, requests := [] } }
  have hq : (returnNotice s).motion.queue = s.motion.queue := by rw [returnNotice_eq]
  exact h.imp (fun h => h.trans hq) fun h => h.trans (congrArg unclaimedQueue hq)

theorem unsent_emptySlots {s : State} (hj : joined s = false) : Unsent (emptySlots s) := by
  rw [emptySlots_eq]
  refine ⟨hj, fun x b => ?_⟩
  show emptiedClaim s.zones.claim ≠ _
  cases s.zones.claim <;> intro h <;> cases h

theorem occupied_of_empty {s : State} (h : s.slots = Slots.empty) (id : SlotId) : occupied s id = false := by
  have hrep (i : Fin 2) : (Vector.replicate 2 (none : Option ReplyFrame)).get i = none :=
    Vector.getElem_replicate i.isLt
  cases id with
  | reply i => simp [occupied, slotPayload, h, Slots.empty, hrep]
  | touch | object i | hello | release | claim | companion i | point | temp | status | notice =>
    simp [occupied, slotPayload, h, Slots.empty, Slot.empty]

/-! ### A pending restart, and the end of the step (R186) -/

/-- What the end of a step makes of `w` on a line that is not joined, a pending restart carried out. -/
structure Restarted (w v : State) : Prop where
  inReset : v.inReset = w.station.restartPending
  line : v.line = { w.line with attempt := v.line.attempt, strapFault := v.line.strapFault, acked := v.line.acked }
  attempt : w.line.attempt = none → v.line.attempt = none
  acked : w.line.acked = false → v.line.acked = false
  strapFault : v.line.strapFault = (w.line.strapFault && !w.station.restartPending)
  motion : v.motion = { w.motion with queue := v.motion.queue }
  length : v.motion.queue.length = w.motion.queue.length
  queue : (∀ seg rest, w.motion.queue = seg :: rest → seg.state ≠ .waiting ∧ seg.state ≠ .claiming) →
    v.motion.queue = w.motion.queue
  zones : v.zones = w.zones
  slots : v.slots = w.slots
  capture : v.capture = w.capture
  notices : v.notices = w.notices
  change : v.probes.change = w.probes.change
  gate : v.gate = w.gate
  faultPending : v.faultPending = w.faultPending
  station : v.station = w.station
  driveOut : ∀ i, (v.axis i).driveOut = 0 ∨ v.axis i = w.axis i
  runs : w.station.restartPending = false → v = setQueue v.motion.queue w

theorem restarted_finish {w : State} (hr : w.inReset = false) (hj : joined w = false) :
    Restarted w (finish (restartNow w)) := by
  cases hp : w.station.restartPending with
  | false =>
    obtain ⟨q, hq, hlen, hcalm⟩ := finish_unjoined hj
    have hno : restartNow w = w := by simp [restartNow, hp]
    rw [hno, hq]
    constructor
    · exact hr.trans hp.symm
    · rfl
    · exact id
    · exact id
    · simp [hp, setQueue]
    · rfl
    · exact hlen
    · exact hcalm
    · rfl
    · rfl
    · rfl
    · rfl
    · rfl
    · rfl
    · rfl
    · rfl
    · exact fun i => .inr rfl
    · exact fun _ => rfl
  | true =>
    have hyes : finish (restartNow w) = beginReset false w := by
      have hb : restartNow w = beginReset false w := by simp [restartNow, hp]
      rw [hb, finish]
      exact if_pos rfl
    rw [hyes]
    constructor
    · exact hp.symm
    · rfl
    · exact fun _ => rfl
    · exact fun _ => rfl
    · simp [hp, beginReset]
    · rfl
    · rfl
    · exact fun _ => rfl
    · rfl
    · rfl
    · rfl
    · rfl
    · rfl
    · rfl
    · rfl
    · rfl
    · refine fun i => .inl ?_
      rw [State.axis, beginReset]
      dsimp only
      rw [tab4_get]
    · intro h
      rw [hp] at h
      cases h

end Sys2Proof.Machine

namespace Sys2Proof.Machine

/-! ### The entry into MUTE (R77, R158) -/

/-- The line as it enters MUTE. -/
def muteBegun (s : State) : State := { s with line := { s.line with
  state := .mute
  mutes := min 255 (s.line.mutes + 1)
  muteStart := if s.line.mutes = 0 then some s.uptime else s.line.muteStart
  muteTimer := some (s.uptime + 2000000) } }

/-- The state that the entry into MUTE stops: the slots are empty. -/
def silenced (s : State) : State := emptySlots (muteBegun s)

theorem enterMute_eq (s : State) : enterMute s = restartNow (haltMotion .mute (silenced s)) := rfl

theorem silenced_eq (s : State) : silenced s = { muteBegun s with
    slots := Slots.empty
    line := { (muteBegun s).line with attempt := none }
    capture := { s.capture with points := s.capture.points.map PointRecord.unoffer, requests := [] }
    zones := { s.zones with claim := emptiedClaim s.zones.claim }
    motion := { s.motion with queue := (silenced s).motion.queue }
    notices := (returnNotice s).notices } := by
  have hn : (returnNotice (muteBegun s)).notices = (returnNotice s).notices :=
    returnNotice_notices rfl rfl
  rw [← hn]
  exact emptySlots_eq (muteBegun s)

theorem unsent_silenced (s : State) : Unsent (silenced s) := unsent_emptySlots rfl

theorem queueUnclaimed_silenced (s : State) : QueueUnclaimed s (silenced s) := queueUnclaimed_emptySlots (muteBegun s)

theorem silenced_probes (s : State) : (silenced s).probes = s.probes := by rw [silenced_eq]; rfl

/-- Motion stopped for a station that sends nothing, with no change that runs. -/
theorem haltMotion_unsent {cause : ChangeCause} {s : State} (h : Unsent s)
    (hc : s.probes.change.active = false ∨ s.probes.change.result ≠ none) :
    haltMotion cause s = finishChange (controlledStop .halted s) := by
  rw [haltMotion_outside (hc.elim inCommit_of_inactive inCommit_of_result), abortChange_idle hc,
    withdrawClaim_none h.claim]

theorem haltMotion_unsent_running {cause : ChangeCause} {s : State} (h : Unsent s)
    (ha : s.probes.change.active = true) (hr : s.probes.change.result = none) (hc : inCommit s = false) :
    haltMotion cause s = finishChange (controlledStop .halted (abortTaken cause false s)) := by
  rw [haltMotion_outside hc, abortChange_outside ha hr hc,
    withdrawClaim_none ((handsOff_abortTaken cause false s).unsent h).claim]

/-- The state of a station that has stopped for MUTE, and the one that the step leaves. -/
theorem restarted_enterMute {s : State} (hr : s.inReset = false) :
    Restarted (haltMotion .mute (silenced s)) (finish (enterMute s)) := by
  have hoff := handsOff_haltMotion (unsent_silenced s) .mute
  refine restarted_finish ?_ (hoff.unsent (unsent_silenced s)).unjoined
  rw [(motionOnly_haltMotion .mute (silenced s)).inReset, silenced_eq]
  exact hr

theorem enterMute_line {s : State} (hr : s.inReset = false) : (finish (enterMute s)).line =
    { (muteBegun s).line with
      attempt := none
      strapFault := (finish (enterMute s)).line.strapFault
      acked := (finish (enterMute s)).line.acked } := by
  have hR := restarted_enterMute hr
  have hl : (haltMotion .mute (silenced s)).line = { (muteBegun s).line with attempt := none } := by
    rw [(handsOff_haltMotion (unsent_silenced s) .mute).line, silenced_eq]
  have hat : (finish (enterMute s)).line.attempt = none := hR.attempt (by rw [hl])
  have h := hR.line
  rw [hl, hat] at h
  exact h

/-- What the entry into MUTE leaves of the slots, the zones and the buffer. -/
theorem enterMute_units {s : State} (hr : s.inReset = false) :
    (finish (enterMute s)).slots = Slots.empty ∧
    (finish (enterMute s)).zones = { s.zones with claim := emptiedClaim s.zones.claim } ∧
    (finish (enterMute s)).capture =
      { s.capture with points := s.capture.points.map PointRecord.unoffer, requests := [] } := by
  have hR := restarted_enterMute hr
  have hoff := handsOff_haltMotion (unsent_silenced s) .mute
  have honly := motionOnly_haltMotion .mute (silenced s)
  refine ⟨?_, ?_, ?_⟩
  · rw [hR.slots, hoff.slots, silenced_eq]
  · rw [hR.zones, hoff.zones, silenced_eq]
  · rw [hR.capture, honly.capture, silenced_eq]

/-- A NOTICE that waited in its slot is pending again (R177). -/
theorem enterMute_notice {s : State} (hr : s.inReset = false) {f : NoticeFrame} (hf : s.slots.notice = some f) :
    ((finish (enterMute s)).notices.get f.notice.latchIx).pending = true := by
  rw [(restarted_enterMute hr).notices]
  refine (handsOff_haltMotion (unsent_silenced s) .mute).pending _ ?_
  rw [silenced_eq]
  exact returnNotice_pending hf

theorem enterMute_station (s : State) : (haltMotion .mute (silenced s)).station = s.station := by
  rw [(motionOnly_haltMotion .mute (silenced s)).station, silenced_eq]
  rfl

/-- Without a pending restart nothing else changes outside motion and what follows it. -/
theorem motionOnly_enterMute {s : State} (hr : s.inReset = false) (hp : s.station.restartPending = false) :
    MotionOnly { s with line := (finish (enterMute s)).line, capture := (finish (enterMute s)).capture }
      (finish (enterMute s)) := by
  have hv := (restarted_enterMute hr).runs (by rw [enterMute_station, hp])
  have h : MotionOnly (silenced s) (finish (enterMute s)) := by
    rw [hv]
    exact (motionOnly_haltMotion .mute _).trans (motionOnly_setQueue _ _)
  rw [silenced_eq] at h
  exact { h with capture := rfl, line := rfl }

theorem enterMute_probes {s : State} (hr : s.inReset = false) (hp : s.station.restartPending = false) :
    (finish (enterMute s)).probes = (haltMotion .mute (silenced s)).probes := by
  rw [(restarted_enterMute hr).runs (by rw [enterMute_station, hp])]
  rfl

/-- A head that is STOPPING is left by the end of the step. -/
theorem Restarted.queue_stopping {w v : State} (h : Restarted w v) {seg : Segment} {rest : List Segment}
    (hq : w.motion.queue = seg :: rest) (hs : seg.state = .stopping ∨ seg.state = .moving) :
    v.motion.queue = seg :: rest := by
  rw [h.queue fun x xs hx => ?_, hq]
  obtain ⟨rfl, -⟩ := List.cons.inj (hq.symm.trans hx)
  rcases hs with hs | hs <;> rw [hs] <;> decide

theorem Restarted.queue_nil {w v : State} (h : Restarted w v) (hq : w.motion.queue = []) : v.motion.queue = [] :=
  List.eq_nil_of_length_eq_zero (by rw [h.length, hq, List.length_nil])

/-- With no change in progress the head stops HALTED, with speed or at once. -/
theorem enterMute_idle {s : State} (hr : s.inReset = false) (ha : s.probes.change.active = false) :
    let v := finish (enterMute s)
    (s.station.restartPending = false → v.probes = s.probes) ∧
    (s.motion.queue = [] → v.motion.queue = []) ∧
    ∀ seg rest, s.motion.queue = seg :: rest →
      (Shedding seg → v.motion.queue = [stopMoving .halted (counted rest.length seg)]) ∧
      (seg.state = .stopping → v.motion.queue = [counted rest.length seg]) ∧
      (Speedless seg → seg.issuer = .room → v.motion.queue = [] ∧ (v.notices.get 6).detail =
        some (.segmentEnd seg.number .halted (min 7 (seg.flushed + rest.length)))) := by
  intro v
  have ha' : (silenced s).probes.change.active = false := by rw [silenced_probes, ha]
  have hw : haltMotion .mute (silenced s) = controlledStop .halted (silenced s) := by
    rw [haltMotion_unsent (unsent_silenced s) (.inl ha'), finishChange_controlledStop_inactive (.inl rfl) ha']
  have hR := restarted_enterMute hr
  have hq := queueUnclaimed_silenced s
  refine ⟨fun hp => ?_, fun hnil => ?_, fun seg rest hseg => ⟨fun hs => ?_, fun hs => ?_, fun hs hi => ?_⟩⟩
  · rw [enterMute_probes hr hp, hw, controlledStop_probes_inactive (.inl rfl) ha', silenced_probes]
  · refine hR.queue_nil ?_
    rw [hw, controlledStop_nil (hq.nil hnil), hq.nil hnil]
  · refine hR.queue_stopping ?_ (.inl rfl)
    rw [hw, controlledStop_shedding (by decide) (hq.cons_of_ne hseg (by rw [hs.1]; decide)) hs, autoRelease_motion]
    rfl
  · refine hR.queue_stopping ?_ (.inl hs)
    rw [hw, controlledStop_stopping (by decide) (hq.cons_of_ne hseg (by rw [hs]; decide)) hs, autoRelease_motion]
    rfl
  · obtain ⟨seg', hsw, hs', hi', hn, hfl⟩ := hq.speedless hseg hs
    have hend : haltMotion .mute (silenced s) = endAtOnce .halted (silenced s) := by
      rw [hw, controlledStop_speedless (by decide) hsw hs']
    refine ⟨hR.queue_nil ?_, ?_⟩
    · rw [hend]
      exact endAtOnce_empty (by decide) _
    · rw [hR.notices, hend, endAtOnce_segmentEnd hsw (hi'.trans hi), hn, hfl]
      exact event_detail _ _

/-- The stop of a rack segment that goes on to rest ends no change. -/
theorem finishChange_stops {o : SegOutcome} {s : State} {seg : Segment} (hi : seg.issuer = .probeUnit)
    (h : controlledStop o s = autoRelease (setQueue [seg] s)) :
    finishChange (controlledStop o s) = autoRelease (setQueue [seg] s) := by
  rw [h]
  exact finishChange_waits (seg := seg) (rest := []) (by rw [autoRelease_motion]; rfl) hi

/-- A change that has taken its outcome keeps it, its segment stopping or leaving with the change. -/
theorem enterMute_taken {s : State} {r : ChangeResult} {seg : Segment} (hr : s.inReset = false)
    (ha : s.probes.change.active = true) (hres : s.probes.change.result = some r) (hseg : s.motion.queue = [seg])
    (hi : seg.issuer = .probeUnit) :
    let v := finish (enterMute s)
    (Shedding seg → v.motion.queue = [stopMoving .halted (counted 0 seg)] ∧ v.probes.change = s.probes.change) ∧
    (seg.state = .stopping → v.motion.queue = [counted 0 seg] ∧ v.probes.change = s.probes.change) ∧
    (Speedless seg → v.motion.queue = [] ∧ v.probes.change = Change.idle s.probes.change.last ∧
      (v.notices.get 4).detail = some (.probeChangeEnd s.probes.change.target r)) := by
  intro v
  have hp := silenced_probes s
  have ha' : (silenced s).probes.change.active = true := by rw [hp, ha]
  have hres' : (silenced s).probes.change.result = some r := by rw [hp, hres]
  have hw : haltMotion .mute (silenced s) = finishChange (controlledStop .halted (silenced s)) :=
    haltMotion_unsent (unsent_silenced s) (.inr (by rw [hres']; exact Option.some_ne_none r))
  have hR := restarted_enterMute hr
  have hq := queueUnclaimed_silenced s
  have hkept {seg' : Segment} (hst : seg'.state = .stopping) (hiss : seg'.issuer = .probeUnit)
      (h : controlledStop .halted (silenced s) = autoRelease (setQueue [seg'] (silenced s))) :
      v.motion.queue = [seg'] ∧ v.probes.change = s.probes.change := by
    have hw' := hw.trans (finishChange_stops hiss h)
    refine ⟨hR.queue_stopping ?_ (.inl hst), hR.change.trans ?_⟩
    · rw [hw', autoRelease_motion]
      rfl
    · rw [hw', autoRelease_probes]
      exact congrArg ProbeUnit.change hp
  refine ⟨fun hs => ?_, fun hs => ?_, fun hs => ?_⟩
  · exact hkept (seg' := stopMoving .halted (counted 0 seg)) rfl hi
      (controlledStop_shedding (rest := []) (by decide) (hq.cons_of_ne hseg (by rw [hs.1]; decide)) hs)
  · exact hkept (seg' := counted 0 seg) hs hi
      (controlledStop_stopping (rest := []) (by decide) (hq.cons_of_ne hseg (by rw [hs]; decide)) hs)
  obtain ⟨seg', hsw, hs', -, -, -⟩ := hq.speedless hseg hs
  have hend : haltMotion .mute (silenced s) = endChange r (queueEnded .halted (silenced s)) := by
    rw [hw, controlledStop_speedless (by decide) hsw hs', finishChange_endAtOnce ha' hres']
  refine ⟨hR.queue_nil ?_, ?_, ?_⟩
  · rw [hend, endChange_motion, queueEnded_queue]
  · rw [hR.change, hend, endChange_change, queueEnded_probes, hp]
  · rw [hR.notices, hend, endChange_get, if_pos rfl, queueEnded_probes, hp]
    exact event_detail _ _

theorem Aborted.rested {cause : ChangeCause} {o : SegOutcome} {s w v : State} (h : Aborted cause o s w)
    (hR : Restarted w v) (hp : v.probes = w.probes) : Aborted cause o s v := by
  refine ⟨?_, ?_, ?_, fun seg hq hi hs => ?_, fun he => ?_⟩
  · rw [hp]; exact h.lids
  · rw [hp]; exact h.lock
  · rw [hp]; exact h.table
  · obtain ⟨hqueue, hchange⟩ := h.stops seg hq hi hs
    exact ⟨hR.queue_stopping hqueue (.inl rfl), by rw [hp, hchange]⟩
  · obtain ⟨hqueue, hchange, hpending, hdetail⟩ := h.ends he
    rw [hp, hR.notices]
    exact ⟨hR.queue_nil hqueue, hchange, hpending, hdetail⟩

/-- A change that runs notes MUTE inside a commit stretch, and is aborted outside. -/
theorem enterMute_running {s : State} (hr : s.inReset = false) (hp : s.station.restartPending = false)
    (ha : s.probes.change.active = true) (hres : s.probes.change.result = none) :
    let v := finish (enterMute s)
    (inCommit s = true → v.probes = { s.probes with change := { s.probes.change with deferred :=
        if s.probes.change.deferred = .halted then .halted else .mute } } ∧
      v.motion.queue.length = s.motion.queue.length ∧
      ∀ seg rest, s.motion.queue = seg :: rest → seg.state = .moving → v.motion.queue = s.motion.queue) ∧
    (inCommit s = false → Aborted .mute .halted s v) := by
  intro v
  have hsp := silenced_probes s
  have hR := restarted_enterMute hr
  have hvp := enterMute_probes hr hp
  have hq := queueUnclaimed_silenced s
  refine ⟨fun hc => ?_, fun hc => ?_⟩
  · have hw : haltMotion .mute (silenced s) = _ :=
      (haltMotion_commit ((inCommit_congr hsp).trans hc)).trans (abortChange_commit ((inCommit_congr hsp).trans hc))
    refine ⟨?_, ?_, fun seg rest hseg hs => ?_⟩
    · rw [hvp, hw, setChange, hsp]
      cases s.probes.change.deferred <;> rfl
    · rw [hR.length, hw]
      rcases hq with h | h
      · exact congrArg List.length h
      · refine (congrArg List.length h).trans ?_
        cases s.motion.queue <;> rfl
    · rw [hR.queue_stopping (seg := seg) (rest := rest) ?_ (.inr hs), hseg]
      rw [hw]
      exact hq.cons_of_ne hseg (by rw [hs]; decide)
  · have hc' : inCommit (silenced s) = false := (inCommit_congr hsp).trans hc
    have habort : Aborted .mute .halted s (haltMotion .mute (silenced s)) := by
      rw [haltMotion_unsent_running (unsent_silenced s) (by rw [hsp, ha]) (by rw [hsp, hres]) hc']
      refine aborted_of_stop (u := silenced s) (by decide) ha hres hc hsp rfl ?_
      rw [QueueUnclaimed, abortTaken_motion]
      exact hq
    exact habort.rested hR hvp

end Sys2Proof.Machine

namespace Sys2Proof.Machine

/-! ### Attempts that end without success (R154, R155, R157, R175) -/

theorem withAttempt_some {won : Bool} {act : Attempt → State → State} {s : State} {x : Attempt}
    (h : s.line.attempt = some x) :
    withAttempt won act s = if decide (x.tagSent < s.uptime) = won then act x s else s := by
  simp only [withAttempt, h]

theorem withAttempt_none {won : Bool} {act : Attempt → State → State} {s : State} (h : s.line.attempt = none) :
    withAttempt won act s = s := by
  simp only [withAttempt, h]

theorem advance_attempt (t : Tick) (s : State) : (advance t s).line.attempt = s.line.attempt := by simp

/-- An attempt that has ended at the tick `t` without success, the line idle at `idleAt`. -/
def attemptEnded (t : Tick) (idleAt : Option Nat) (quiet : Nat) (s : State) : State := { advance t s with
  line := { (advance t s).line with
    attempt := none, idleAt := idleAt, quiet := quiet
    state := if s.line.state = .listenAnnouncing then .listenAnnouncing else .receiving } }

theorem attemptOver_advance (t : Tick) (idleAt : Option Nat) (quiet : Nat) (s : State) :
    mapLine (fun l => { l with quiet := quiet }) (attemptOver idleAt (advance t s)) =
      attemptEnded t idleAt quiet s := by
  unfold attemptOver mapLine attemptEnded
  simp only [advance_lineState_iff (x := .listenAnnouncing) rfl]

theorem applyAmendment_eq (id : SlotId) (s : State) :
    applyAmendment id s = { s with slots := (applyAmendment id s).slots } := by cases id <;> rfl

theorem applyAmendment_mapLine (id : SlotId) (f : Line → Line) (s : State) :
    applyAmendment id (mapLine f s) = mapLine f (applyAmendment id s) := by cases id <;> rfl

theorem applyAmendment_notice (id : SlotId) (s : State) : (applyAmendment id s).slots.notice = s.slots.notice := by
  cases id <;> rfl

theorem loseAttempt_advance (x : Attempt) (t : Tick) (s : State) : loseAttempt x (advance t s) =
    dropClaim x (dropTouch x (applyAmendment x.slot (attemptEnded t none 0 s))) := by
  rw [← attemptOver_advance]
  rfl

/-- A failed attempt before its failure is weighed (R157, R158). -/
def attemptFailed (x : Attempt) (q : Nat) (t : Tick) (s : State) : State :=
  let idle := (advance t s).uptime + bitTicks s * max 10 (11 - q) - (if s.line.fast = true then 3 else 6)
  mapLine (fun l => { l with failures := min 16 (s.line.failures + 1) })
    (applyAmendment x.slot (attemptEnded t (some idle) q s))

theorem failAttempt_advance (x : Attempt) (q : Nat) (t : Tick) (s : State) : failAttempt x q (advance t s) =
    if 15 ≤ s.line.failures then enterMute (attemptFailed x q t s) else attemptFailed x q t s := by
  have hidle : idleAfter (advance t s) (max 10 (11 - q)) =
      (advance t s).uptime + bitTicks s * max 10 (11 - q) - (if s.line.fast = true then 3 else 6) := by
    rw [idleAfter, advance_bitTicks, readLead]
    simp
  have hfailed (d : Option Nat) : mapLine (fun l => { l with failures := min 16 (l.failures + 1), quiet := q })
      (applyAmendment x.slot (attemptOver d (advance t s))) =
      mapLine (fun l => { l with failures := min 16 (s.line.failures + 1) })
        (applyAmendment x.slot (attemptEnded t d q s)) := by
    have hf : (attemptOver d (advance t s)).line.failures = s.line.failures := by simp [attemptOver, mapLine]
    rw [← applyAmendment_mapLine, ← applyAmendment_mapLine, ← attemptOver_advance, ← hf]
    rfl
  have hcount : (attemptFailed x q t s).line.failures = min 16 (s.line.failures + 1) := rfl
  have hs2 := hfailed (some (idleAfter (advance t s) (max 10 (11 - q))))
  rw [hidle] at hs2
  simp only [failAttempt, hidle]
  rw [hs2]
  change (if 16 ≤ (attemptFailed x q t s).line.failures then _ else _) = _
  rw [hcount]
  by_cases h : 15 ≤ s.line.failures
  · rw [if_pos (by omega), if_pos h]
    rfl
  · rw [if_neg (by omega), if_neg h]
    rfl

theorem attemptFailed_eq (x : Attempt) (q : Nat) (t : Tick) (s : State) : attemptFailed x q t s =
    { advance t s with
      line := (attemptFailed x q t s).line
      slots := (attemptFailed x q t s).slots } := by
  rw [attemptFailed, applyAmendment_eq]
  rfl

theorem attemptFailed_line (x : Attempt) (q : Nat) (t : Tick) (s : State) :
    (attemptFailed x q t s).line.mutes = s.line.mutes ∧ (attemptFailed x q t s).line.muteStart = s.line.muteStart := by
  rw [attemptFailed, applyAmendment_eq]
  simp [mapLine, attemptEnded]

theorem attemptFailed_notice (x : Attempt) (q : Nat) (t : Tick) (s : State) :
    (attemptFailed x q t s).slots.notice = s.slots.notice := applyAmendment_notice _ _

theorem attemptFailed_probes (x : Attempt) (q : Nat) (t : Tick) (s : State) :
    (attemptFailed x q t s).probes = s.probes := by rw [attemptFailed_eq]; rfl

theorem attemptFailed_motion (x : Attempt) (q : Nat) (t : Tick) (s : State) :
    (attemptFailed x q t s).motion = s.motion := by rw [attemptFailed_eq]; rfl

theorem MotionOnly.of_slots {a u v : State} {l l' : Line} {sl : Slots} {c : CaptureUnit}
    (h : MotionOnly { u with line := l, capture := c } v) (hu : u = { a with line := l', slots := sl }) :
    MotionOnly { a with line := l, capture := c } v := by
  subst hu
  exact { h with line := h.line }

/-- Settles O48: lost, failed and unfit attempts by what is left of them, the sixteenth failure by the entry into
MUTE. -/
theorem lostAndFailedAttemptsKeepTheFrame : Obligations.LostAndFailedAttemptsKeepTheFrame := by
  refine ⟨fun t s x hr hx => ?_, fun t s hr hx => ?_, fun s x y h => ?_⟩
  · intro a ended
    have hx' : a.line.attempt = some x := (advance_attempt t s).trans hx
    have hended (d : Option Nat) (q : Nat) : ended d q = attemptEnded t d q s := rfl
    have hloses (hle : a.uptime ≤ x.tagSent) {u : State}
        (hu : dropClaim x (dropTouch x (applyAmendment x.slot (attemptEnded t none 0 s))) = u) :
        exec (.arbitrationLost t) s = .next (finish u) := by
      refine next_timed hr ?_
      rw [withAttempt_some hx', if_pos (decide_eq_false (Nat.not_lt.mpr hle)), ← hu]
      exact loseAttempt_advance x t s
    refine ⟨fun hle => ⟨fun hw => hloses hle ?_, fun hw hs => hloses hle ?_, fun zones e hw hs hc => ?_, ?_,
      fun q => ?_⟩, fun hlt => ⟨?_, fun q hq => ?_, fun q hq => ?_⟩⟩
    · rw [dropClaim, dropTouch, hw]
      rfl
    · rw [dropClaim, dropTouch, hw, hs]
      rfl
    · refine ⟨withdrawClaim (attemptEnded t none 0 s), hloses hle ?_, ?_⟩
      · rw [dropClaim, dropTouch, hw, hs]
        rfl
      · rw [withdrawClaim_queued (s := attemptEnded t none 0 s) hc (not_inFlight rfl)]
        exact ⟨rfl, rfl, rfl⟩
    · exact next_timed hr ((withAttempt_some hx').trans (if_neg (by simp [hle])))
    · exact next_timed hr ((withAttempt_some hx').trans (if_neg (by simp [hle])))
    · exact next_timed hr ((withAttempt_some hx').trans (if_neg (by simp [hlt])))
    · intro idle
      refine next_timed hr ((withAttempt_some hx').trans ((if_pos (decide_eq_true hlt)).trans ?_))
      rw [failAttempt_advance, if_neg (by omega), attemptFailed, ← applyAmendment_mapLine, Nat.min_eq_right (by omega)]
      rfl
    · have hexec : exec (.attemptFailed q t) s = .next (finish (enterMute (attemptFailed x q t s))) := by
        refine next_timed hr ((withAttempt_some hx').trans ((if_pos (decide_eq_true hlt)).trans ?_))
        rw [failAttempt_advance, if_pos hq]
      have hr' : (attemptFailed x q t s).inReset = false := by rw [attemptFailed_eq]; exact hr
      obtain ⟨hmutes, hstart⟩ := attemptFailed_line x q t s
      have hp := attemptFailed_probes x q t s
      have hm := attemptFailed_motion x q t s
      have hst : (attemptFailed x q t s).station = s.station := by rw [attemptFailed_eq]; rfl
      have hline := enterMute_line hr'
      obtain ⟨hslots, hzones, hcapture⟩ := enterMute_units hr'
      have hrest := enterMute_station (attemptFailed x q t s)
      rw [hst] at hrest
      have hidle := enterMute_idle hr'
      have htaken := fun r seg => enterMute_taken (r := r) (seg := seg) hr'
      have hrunning := enterMute_running hr'
      rw [inCommit_congr hp] at hrunning
      simp only [hp, hm, hst] at hidle htaken hrunning
      refine ⟨_, hexec, ?_, ?_, ?_, ?_, ?_, ?_, occupied_of_empty hslots, ?_, ?_, fun f hf => ?_, ?_, fun hpend => ?_,
        fun ha => ?_, fun ha r hres seg hseg hi => ?_, fun hpend ha hres => ?_⟩
      · rw [hline]; rfl
      · rw [hline]
        show min 16 (s.line.failures + 1) = 16
        omega
      · rw [hline, ← hmutes]; rfl
      · rw [hline, ← hmutes, ← hstart, attemptFailed_eq]; rfl
      · rw [hline, attemptFailed_eq]; rfl
      · rw [hline]
      · rw [hcapture, attemptFailed_eq]; rfl
      · rw [hzones, show (attemptFailed x q t s).zones = s.zones by rw [attemptFailed_eq]; rfl]
        refine congrArg (fun c => { s.zones with claim := c }) ?_
        cases s.zones.claim <;> rfl
      · exact enterMute_notice hr' ((attemptFailed_notice x q t s).trans hf)
      · exact (restarted_enterMute hr').inReset.trans (by rw [hrest])
      · exact (motionOnly_enterMute hr' (by rw [hst, hpend])).of_slots (attemptFailed_eq x q t s)
      · obtain ⟨hprobes, hnil, hcons⟩ := hidle ha
        exact ⟨fun hpend _ => hprobes hpend, hnil, hcons⟩
      · obtain ⟨hshed, hstop, hend⟩ := htaken r seg ha hres hseg hi
        exact ⟨fun h => (hshed h).1, fun h => (hstop h).1, fun h => h.elim (fun h => (hshed h).2) fun h => (hstop h).2,
          hend⟩
      · obtain ⟨hcommit, hout⟩ := hrunning hpend ha hres
        exact ⟨hcommit, fun hc => (hout hc).congr hp hm⟩
  · have hx' : (advance t s).line.attempt = none := (advance_attempt t s).trans hx
    exact ⟨next_timed hr (withAttempt_none hx'), next_timed hr (withAttempt_none hx'),
      fun q => next_timed hr (withAttempt_none hx')⟩
  · exact congrArg (Slot.afterLoss uniteZones) h

end Sys2Proof.Machine

/-! Receive errors and the entry into OFFLINE: settling O50. -/

namespace Sys2Proof.Machine

/-! ### The entry into OFFLINE (R22, R144, R163, R177) -/

theorem PowerLost.congr_permit {cause : ChangeCause} {s u t : State} (h : PowerLost cause u t)
    (hp : u.probes = s.probes) (hm : u.motion.permit = s.motion.permit) (hn : u.notices = s.notices) :
    PowerLost cause s t := by
  obtain ⟨h1, h2, h3, h4, h5, h6⟩ := h
  rw [hp] at h1 h2 h3 h4 h5 h6
  rw [hn] at h3 h4 h6
  rw [hm] at h5
  exact ⟨h1, h2, h3, h4, h5, h6⟩

theorem PowerLost.setQueue {cause : ChangeCause} {s t : State} (h : PowerLost cause s t) (q : List Segment) :
    PowerLost cause s (setQueue q t) :=
  ⟨h.table, h.kept, h.fails, h.stands, h.unexpired, h.expired⟩

theorem handsOff_powerCut {o : SegOutcome} (ho : o ≠ .arrived) (c : ChangeCause) {s : State} (h : Unsent s) :
    HandsOff s (powerCut o c s) := by
  have hd : HandsOff s (changePowerLost c (dropDrives s)) :=
    HandsOff.trans (t := dropDrives s) ⟨rfl, rfl, rfl, fun _ h => h⟩ (handsOff_changePowerLost c _)
  have rule := stopRule_handsOff
  exact rule.andThen (rule.andThen hd h (rule.endAtOnce ho)) h rule.finishChange

/-- The station as a duplicate number is found at `sof`: OFFLINE, its slots empty, before the drives go off. -/
def offlineBegun (sof : Tick) (s : State) : State := { s with
  line := { s.line with
    lastSof := sof, acked := false, state := .offline, strapFault := true, muteTimer := none, idleAt := none }
  station := { s.station with mode := .offline } }

def unplugged (sof : Tick) (s : State) : State := { emptySlots (offlineBegun sof s) with gate := .disabled }

theorem duplicateFound_eq (sof : Tick) (s : State) :
    duplicateFound sof s = restartNow (powerCut .drivesOff .drivesOff (unplugged sof s)) := rfl

theorem unplugged_eq (sof : Tick) (s : State) : unplugged sof s = { offlineBegun sof s with
    gate := .disabled
    slots := Slots.empty
    line := { (offlineBegun sof s).line with attempt := none }
    capture := { s.capture with points := s.capture.points.map PointRecord.unoffer, requests := [] }
    zones := { s.zones with claim := emptiedClaim s.zones.claim }
    motion := { s.motion with queue := (unplugged sof s).motion.queue }
    notices := (returnNotice s).notices } := by
  have hn : (returnNotice (offlineBegun sof s)).notices = (returnNotice s).notices :=
    returnNotice_notices rfl rfl
  rw [← hn]
  exact congrArg (fun u : State => { u with gate := .disabled }) (emptySlots_eq (offlineBegun sof s))

theorem unsent_unplugged (sof : Tick) (s : State) : Unsent (unplugged sof s) := by
  obtain ⟨hj, hc⟩ := unsent_emptySlots (s := offlineBegun sof s) rfl
  exact ⟨hj, hc⟩

theorem queueUnclaimed_unplugged (sof : Tick) (s : State) : QueueUnclaimed s (unplugged sof s) :=
  queueUnclaimed_emptySlots (offlineBegun sof s)

/-- The station OFFLINE, before a pending restart. -/
def offline (sof : Tick) (s : State) : State := powerCut .drivesOff .drivesOff (unplugged sof s)

theorem handsOff_offline (sof : Tick) (s : State) : HandsOff (unplugged sof s) (offline sof s) :=
  handsOff_powerCut (by decide) _ (unsent_unplugged sof s)

theorem motionOnly_offline (sof : Tick) (s : State) : MotionOnly (dropDrives (unplugged sof s)) (offline sof s) :=
  motionOnly_powerCut _ _ _

theorem offline_station (sof : Tick) (s : State) :
    (offline sof s).station = { s.station with mode := .offline } := by
  rw [(motionOnly_offline sof s).station, dropDrives_station, unplugged_eq]
  rfl

theorem offline_line (sof : Tick) (s : State) : (offline sof s).line =
    { (offlineBegun sof s).line with attempt := none } := by
  rw [(handsOff_offline sof s).line, unplugged_eq]

theorem restarted_duplicateFound {sof : Tick} {s : State} (hr : s.inReset = false) :
    Restarted (offline sof s) (finish (duplicateFound sof s)) := by
  refine restarted_finish ?_ ((handsOff_offline sof s).unsent (unsent_unplugged sof s)).unjoined
  rw [(motionOnly_offline sof s).inReset, dropDrives_inReset, unplugged_eq]
  exact hr

theorem offline_driveOut {sof : Tick} {s : State} {i : Fin 4} (hi : s.live i = true) :
    ((offline sof s).axis i).driveOut = 0 := by
  have hl : (unplugged sof s).live i = true := by rw [unplugged_eq]; exact hi
  rw [State.axis, (motionOnly_offline sof s).axes]
  exact (dropDrives_driveOut _ i).trans (if_pos hl)

/-- The change in progress as OFFLINE ends it, a waiting notice back in its latch (R144, R177). -/
theorem powerLost_offline {sof : Tick} {s : State} (ha : s.probes.change.active = true) :
    PowerLost .drivesOff (returnNotice s) (offline sof s) := by
  have hu := unplugged_eq sof s
  have hpower : PowerLost .drivesOff (unplugged sof s) (offline sof s) :=
    powerLost_powerCut (by rw [hu]; exact ha) rfl rfl rfl
  refine hpower.congr_permit ?_ ?_ ?_
  · rw [hu, returnNotice_eq]
    rfl
  · rw [hu, returnNotice_eq]
  · rw [hu]

theorem offline_probes {sof : Tick} {s : State} (ha : s.probes.change.active = false)
    (hroom : ∀ seg rest, s.motion.queue = seg :: rest → seg.issuer = .room) : (offline sof s).probes = s.probes := by
  have hp : (unplugged sof s).probes = s.probes := by rw [unplugged_eq]; rfl
  have ha' : (unplugged sof s).probes.change.active = false := by rw [hp, ha]
  have hroom' : ∀ seg rest, (unplugged sof s).motion.queue = seg :: rest → seg.issuer = .room := by
    intro seg rest hseg
    cases hq : s.motion.queue with
    | nil => rw [(queueUnclaimed_unplugged sof s).nil hq] at hseg; cases hseg
    | cons x xs =>
      have hx := hroom x xs hq
      rcases (queueUnclaimed_unplugged sof s).cons hq with h | h <;> rw [h] at hseg <;> cases hseg
      · exact hx
      · rw [unclaimed_issuer, hx]
  have hdrop := headDropped_endAtOnce (o := .drivesOff) (s := dropDrives (unplugged sof s))
    ⟨⟨rfl, rfl, rfl, rfl, rfl⟩, rfl, rfl, rfl, rfl, rfl⟩ hroom' ha'
  rw [offline, powerCut_inactive ha' hroom', hdrop.probes]
  exact hp

/-! ### Bits that are no frame taken (R150, R151, R161) -/

theorem followsFrames_advance {t : Tick} {s : State} :
    followsFrames (advance t s) = true ↔ s.line.state ≠ .offline ∧ s.line.attempt = none := by
  have hs := advance_lineState_iff (t := t) (s := s) (x := .offline) rfl
  simp only [followsFrames, Bool.and_eq_true, bne_iff_ne, ne_eq, hs, Option.isNone_iff_eq_none, advance_attempt]

theorem startsFrame_advance {sof t : Tick} {s : State} : startsFrame sof (advance t s) = true ↔
    ∀ d, s.line.idleAt = some d → d ≤ (advance t s).uptime - (t - sof).toNat := by
  have hi : (advance t s).line.idleAt = s.line.idleAt := by simp
  have hm : (advance t s).momentOf sof = (advance t s).uptime - (t - sof).toNat := by
    rw [State.momentOf, advance_tick]
  rw [startsFrame, hi, hm]
  cases s.line.idleAt with
  | none => exact ⟨fun _ d hd => (nomatch hd), fun _ => rfl⟩
  | some d =>
    refine decide_eq_true_iff.trans ⟨fun h d' hd => ?_, fun h => h d rfl⟩
    cases hd
    exact h

/-- The line after bits that no frame is taken from, at the tick `t` (R151). -/
def quieted (bits : List Bool) (t : Tick) (s : State) : State := { advance t s with
  line := { (advance t s).line with
    quiet := (bits.reverse.takeWhile fun b => b).length
    state := if joined s = true then .receiving else s.line.state
    idleAt := some ((advance t s).uptime + bitTicks s * (11 - (bits.reverse.takeWhile fun b => b).length) -
      (if s.line.fast = true then 3 else 6)) } }

theorem quietRestart_advance (bits : List Bool) (t : Tick) (s : State) :
    quietRestart bits (advance t s) = quieted bits t s := by
  have hidle (n : Nat) : idleAfter (advance t s) n =
      (advance t s).uptime + bitTicks s * n - (if s.line.fast = true then 3 else 6) := by
    rw [idleAfter, advance_bitTicks, readLead]
    simp
  have hstate : (if joined (advance t s) = true then LineState.receiving else (advance t s).line.state) =
      if joined s = true then .receiving else s.line.state := by
    rw [advance_joined]
    split
    · rfl
    · exact Line.progress_state_of_not_joined _ _ (Bool.eq_false_iff.mpr (by assumption))
  unfold quietRestart mapLine quieted
  dsimp only
  rw [hidle, hstate]
  rfl

theorem frameErred_advance (bits : List Bool) (e : RxError) (sof t : Tick) (s : State) :
    frameErred bits e sof (advance t s) = { quieted bits t s with line := { (quieted bits t s).line with
      lastSof := sof, acked := (joined s || s.line.state == .listenAnnouncing) && e == .format } } := by
  have hack : (acknowledges (advance t s) && erredAfterCheck e) =
      ((joined s || s.line.state == .listenAnnouncing) && e == .format) := by
    have hstate : ((advance t s).line.state == .listenAnnouncing) = (s.line.state == .listenAnnouncing) := by
      rw [Bool.eq_iff_iff, beq_iff_eq, beq_iff_eq]
      exact advance_lineState_iff rfl
    rw [acknowledges, advance_joined, hstate]
    cases e <;> rfl
  rw [← quietRestart_advance, ← hack]
  rfl

/-- Bits of a receive error from a start of frame. -/
theorem frameBits_error {bits : List Bool} {sof : Tick} {e : RxError} {s : State} (h : receiveBits bits = .error e)
    (he : e ≠ .cutShort) : frameBits bits sof s =
      if checkedSender bits = some s.line.number then duplicateFound sof s else frameErred bits e sof s := by
  unfold frameBits
  rw [h]
  cases e with
  | cutShort => exact absurd rfl he
  | stuff | length | check | format => rfl

/-- Settles O50: bits that no frame is taken from by `frameErred` and `quietRestart`, a duplicate number by the entry
into OFFLINE. -/
theorem receiveErrorsAndDuplicatesAreFound : Obligations.ReceiveErrorsAndDuplicatesAreFound := by
  have hnumber (t : Tick) (s : State) : (advance t s).line.number = s.line.number := advance_lineNumber t s
  have hbits {bits : List Bool} {sof t : Tick} {s u : State} (hr : s.inReset = false)
      (hf : followsFrames (advance t s) = true)
      (hu : (if startsFrame sof (advance t s) = true then frameBits bits sof (advance t s)
        else strayBits bits (advance t s)) = u) :
      exec (.frameReceiveError bits sof t) s = .next (finish u) := by
    refine next_timed hr ?_
    rw [hf, ← hu]
    rfl
  refine ⟨fun bits sof t s hr ho ha => ?_, fun bits sof t s hr h => ?_, fun cmd sof t s hr ho ha hcmd => ?_,
    fun sof t s hr h => ?_⟩
  · intro a quiet starts followed
    have hf := followsFrames_advance (t := t).mpr ⟨ho, ha⟩
    refine ⟨fun e hs he hcut hsender => hbits hr hf ?_, fun hs hdom => hbits hr hf ?_, fun hs hdom => hbits hr hf ?_⟩
    · rw [if_pos (startsFrame_advance.mpr hs), frameBits_error he hcut, hnumber, if_neg hsender]
      exact frameErred_advance bits e sof t s
    · rw [if_neg (mt startsFrame_advance.mp hs), strayBits, if_neg]
      · exact quietRestart_advance bits t s
      · rw [List.all_eq_true]
        exact fun hall => by cases hall _ hdom
    · rw [if_neg (mt startsFrame_advance.mp hs), strayBits, if_pos]
      rw [List.all_eq_true]
      intro b hb
      cases b with
      | true => rfl
      | false => exact absurd hb hdom
  · by_cases hf : followsFrames (advance t s) = true
    · obtain ⟨ho, ha⟩ := followsFrames_advance.mp hf
      obtain ⟨hs, hok⟩ := (h.resolve_left ho).resolve_left (not_not_intro ha)
      refine hbits hr hf ?_
      rw [if_pos (startsFrame_advance.mpr hs), frameBits]
      rcases hok with hc | ⟨f, hc⟩ <;> rw [hc]
    · refine next_timed hr ?_
      rw [Bool.not_eq_true] at hf
      rw [hf]
      rfl
  · have hf := followsFrames_advance (t := t).mpr ⟨ho, ha⟩
    have hexec : exec cmd s = .next (finish (duplicateFound sof (advance t s))) := by
      rcases hcmd with rfl | ⟨bits, e, rfl, hs, he, hcut, hsender⟩
      · refine next_timed hr ?_
        rw [if_pos hf]
      · refine hbits hr hf ?_
        rw [if_pos (startsFrame_advance.mpr hs), frameBits_error he hcut, hnumber, if_pos hsender]
    have hR := restarted_duplicateFound (sof := sof) (s := advance t s) hr
    obtain ⟨hnil, hinactive⟩ := idle_powerCut (o := .drivesOff) (by decide) .drivesOff (unplugged sof (advance t s))
    have hpend : (offline sof (advance t s)).station.restartPending = s.station.restartPending := by
      rw [offline_station]
      rfl
    have hgate : (offline sof (advance t s)).gate = .disabled := (motionOnly_offline _ _).gate
    have hslots : (offline sof (advance t s)).slots = Slots.empty := by
      rw [(handsOff_offline _ _).slots, unplugged_eq]
    have hline := hR.line
    rw [offline_line] at hline
    refine ⟨_, hexec, ?_, ?_, ?_, fun i hi => ?_, hR.queue_nil hnil, ?_, hR.gate.trans hgate, ?_, ?_, ?_, ?_, ?_, ?_,
      ?_, ?_, ?_, ?_, fun hp hact => ?_, fun hp hact hroom => ?_⟩
    · rw [hR.station, offline_station]
    · rw [hline]; rfl
    · rw [ampOn, hR.gate, hgate]
      simp
    · rcases hR.driveOut i with h | h
      · exact h
      · rw [h]
        exact offline_driveOut hi
    · rw [hR.change]
      exact hinactive
    · exact occupied_of_empty (hR.slots.trans hslots)
    · rw [hline]; rfl
    · exact hR.acked (by rw [offline_line]; rfl)
    · exact hR.inReset.trans hpend
    · rw [hR.strapFault, offline_line, hpend]
      rfl
    · rw [hR.station, offline_station]; rfl
    · rw [hR.station, offline_station]; rfl
    · rw [hline]
      exact Line.progress_failures _ _
    · rw [hline]
      exact Line.progress_mutes _ _
    · rw [hR.zones, (handsOff_offline _ _).zones, unplugged_eq]
      rfl
    · rw [hR.runs (hpend.trans hp)]
      have hlost := powerLost_offline (sof := sof) (s := advance t s) hact
      refine (hlost.congr_permit (s := returnNotice s) ?_ ?_ (returnNotice_notices rfl rfl)).setQueue _
      · rw [returnNotice_eq, returnNotice_eq s]
        rfl
      · rw [returnNotice_eq, returnNotice_eq s]
        rfl
    · rw [hR.runs (hpend.trans hp)]
      exact offline_probes (s := advance t s) hact hroom
  · refine next_timed hr (if_neg fun hf => ?_)
    obtain ⟨ho, ha⟩ := followsFrames_advance.mp hf
    exact h.elim ho fun hne => hne ha

end Sys2Proof.Machine

/-! Attempts that succeed, and what the end of a step loads: settling O49. -/

namespace Sys2Proof.Machine

/-! ### A success of each slot (R156, R174, R175) -/

/-- The state whose attempt has succeeded at the tick `t`, before its owner learns it. -/
def attemptWon (t : Tick) (s : State) : State := { advance t s with
  line := { (advance t s).line with
    attempt := none, failures := 0, state := .sending, quiet := 7
    idleAt := some ((advance t s).uptime + bitTicks s * 4 - (if s.line.fast = true then 3 else 6)) } }

theorem idleAfter_advance (t : Tick) (s : State) (n : Nat) :
    idleAfter (advance t s) n = (advance t s).uptime + bitTicks s * n - (if s.line.fast = true then 3 else 6) := by
  rw [idleAfter, advance_bitTicks, readLead]
  simp

theorem next_success {t : Tick} {s u : State} {x : Attempt} (hr : s.inReset = false) (hx : s.line.attempt = some x)
    (ht : x.tagSent < (advance t s).uptime) (hu : slotSent x.slot (attemptWon t s) = u) :
    exec (.attemptSuccess t) s = .next (finish u) := by
  refine next_timed hr ?_
  rw [withAttempt_some ((advance_attempt t s).trans hx), if_pos (decide_eq_true ht), ← hu, succeedAttempt,
    idleAfter_advance]
  rfl

theorem attemptWon_number (t : Tick) (s : State) : (attemptWon t s).line.number = s.line.number :=
  advance_lineNumber t s

theorem ownZones_attemptWon (t : Tick) (s : State) : ownZones (attemptWon t s) = ownZones s := by
  have h : heldBySelf (attemptWon t s) = heldBySelf s := by
    unfold heldBySelf
    rw [attemptWon_number]
  rw [ownZones, h]
  rfl

theorem touchSent_some {s : State} {f : TouchFrame} (h : s.slots.touch = some f) : touchSent s = { s with
    slots := { s.slots with touch := none }
    capture := { s.capture with points := s.capture.points.map fun r =>
      if r.number = f.point ∧ r.state = .awaiting then { r with announced := true } else r } } := by
  simp only [touchSent, h]
  rfl

/-- The sent objection in the own view (R94). -/
theorem ownObjectEntry_named (self c now : Nat) (h : Option Hold) : ∃ since,
    ownObjectEntry self c now true h = some { holder := self, standing := .firm, since := since } ∧
      ∀ x, h = some x → x.holder = self → (x.holder ≠ c ∨ x.standing = .firm) → since = x.since := by
  unfold ownObjectEntry
  cases h with
  | none => exact ⟨now, rfl, fun x hx => nomatch hx⟩
  | some x =>
    by_cases hc : x.holder = c ∧ x.standing = .tentative
    · refine ⟨now, by simp only [if_pos hc]; rfl, fun y hy _ hor => ?_⟩
      cases hy
      rcases hor with h | h
      · exact absurd hc.1 h
      · rw [hc.2] at h; cases h
    · by_cases hs : x.holder = self
      · refine ⟨x.since, by simp only [if_neg hc, if_pos hs, if_true]; rw [hs], fun y hy _ _ => ?_⟩
        cases hy
        rfl
      · refine ⟨now, by simp only [if_neg hc, if_neg hs, if_true], fun y hy hy' => ?_⟩
        cases hy
        exact absurd hy' hs

theorem applyOwnObject_get (x : ObjectFrame) (s : State) (z : Fin 16) : (applyOwnObject x s).zones.view.get z =
    ownObjectEntry s.line.number x.claimant s.uptime (ZoneSet.has x.zones z) (s.zones.view.get z) := by
  rw [applyOwnObject, mapView]
  exact tab16_get _ z

/-- The state whose objection `f` in slot `i` has been sent, before auto-release. -/
def objectApplied (i : Fin 3) (f : ObjectFrame) (s : State) : State := applyOwnObject f
  (mapSlots (fun y => { y with objects := y.objects.set i.val (y.objects.get i).afterSuccess }) s)

theorem objectSent_some {i : Fin 3} {f : ObjectFrame} {s : State} (h : (s.slots.objects.get i).frame = some f) :
    objectSent i s =
      if f.zones &&& ~~~ownZones s = 0 then objectApplied i f s else autoRelease (objectApplied i f s) := by
  simp only [objectSent, h]
  rfl

theorem claimSent_queued {s : State} {zones : ZoneSet} {e : Bool} (h : s.zones.claim = .queued zones e) :
    claimSent s = { s with zones := { s.zones with
      claim := .window zones s.uptime
      view := tab16 fun z =>
        if ZoneSet.has zones z = true ∧ s.zones.view.get z = none then
          some { holder := s.line.number, standing := .tentative, since := s.uptime }
        else s.zones.view.get z } } := by
  simp only [claimSent, h, setClaim, mapView, Bool.and_eq_true, Option.isNone_iff_eq_none]

theorem pointSent_offered {s : State} {r : PointRecord} {rest : List PointRecord} (hp : s.capture.points = r :: rest)
    (hr : r.state = .offered) : pointSent s = { s with
      slots := { s.slots with point := none }, capture := { s.capture with points := rest } } := by
  simp only [pointSent, mapPoints, mapCapture, mapSlots, hp, if_pos hr]

theorem replySent_some {i : Fin 2} {f : ReplyFrame} {s : State} (h : s.slots.replies.get i = some f) :
    replySent i s = if f.kind = 17 ∧ f.code = .done ∧ s.station.restartPending = true then
      beginReset false { s with slots := { s.slots with replies := s.slots.replies.set i.val none } }
    else { s with slots := { s.slots with replies := s.slots.replies.set i.val none } } := by
  simp only [replySent, h]
  by_cases hf : f.kind = 17 ∧ f.code = .done
  · rw [if_pos hf, restartNow]
    by_cases hp : s.station.restartPending = true
    · rw [if_pos (show (mapSlots _ s).station.restartPending = true from hp), if_pos ⟨hf.1, hf.2, hp⟩]
      rfl
    · rw [if_neg (show ¬(mapSlots _ s).station.restartPending = true from hp), if_neg fun h => hp h.2.2]
      rfl
  · rw [if_neg hf, if_neg fun h => hf ⟨h.1, h.2.1⟩]
    rfl

theorem statusSent_some {f : StatusFrame} {s : State} (h : s.slots.status = some f) : statusSent s = { s with
    slots := { s.slots with status := none }
    overrun := s.overrun && !(f.sect == 0 && f.index == 0 && !s.overrunSince) } := by
  simp only [statusSent, h]
  by_cases hf : f.sect = 0 ∧ f.index = 0 ∧ s.overrunSince = false
  · rw [if_pos hf]
    obtain ⟨h1, h2, h3⟩ := hf
    simp [h1, h2, h3, mapSlots]
  · have hkeep : (f.sect == 0 && f.index == 0 && !s.overrunSince) = false := by
      rw [Bool.eq_false_iff]
      intro hb
      simp only [Bool.and_eq_true, beq_iff_eq, Bool.not_eq_true'] at hb
      exact hf ⟨hb.1.1, hb.1.2, hb.2⟩
    rw [if_neg hf, hkeep, Bool.not_false, Bool.and_true]
    rfl

end Sys2Proof.Machine

namespace Sys2Proof.Machine

/-! ### Stops of a station that holds no zone -/

/-- From `s` to `t` the view, the number and the HELLO slot are as they were, and no window is begun. -/
structure BedKept (s t : State) : Prop where
  view : t.zones.view = s.zones.view
  number : t.line.number = s.line.number
  hello : t.slots.hello = s.slots.hello
  window : (∀ z b, s.zones.claim ≠ .window z b) → ∀ z b, t.zones.claim ≠ .window z b

theorem BedKept.refl (s : State) : BedKept s s := ⟨rfl, rfl, rfl, id⟩

theorem BedKept.trans {s t u : State} (h : BedKept s t) (k : BedKept t u) : BedKept s u :=
  ⟨k.view.trans h.view, k.number.trans h.number, k.hello.trans h.hello, fun hs => k.window (h.window hs)⟩

theorem bedKept_endedClaim (s : State) : BedKept s (endedClaim s) := by
  refine ⟨by rw [endedClaim_eq], by rw [endedClaim_eq], by rw [endedClaim_eq], fun hs z b => ?_⟩
  rw [show (endedClaim s).zones.claim = (headGone [] s).zones.claim from rfl, headGone_claim]
  cases hc : s.zones.claim with
  | queued x o =>
    cases o with
    | false => dsimp only; split <;> exact nofun
    | true => exact nofun
  | none => exact nofun
  | window x b' => exact absurd hc (hs x b')

theorem autoRelease_bare {s : State} (h : firmZones s = 0) : autoRelease s = s := by
  rw [autoRelease_ite, h]
  exact if_pos (.inl (by simp))

theorem stopRule_bedKept : StopRule (fun s => firmZones s = 0) BedKept where
  refl := BedKept.refl
  trans := BedKept.trans
  keeps h hs := (firmZones_congr h.view h.number).trans hs
  latch _ s := ⟨rfl, rfl, rfl, id⟩
  queue _ s := ⟨rfl, rfl, rfl, id⟩
  change _ s := ⟨rfl, rfl, rfl, id⟩
  fails c n s := by
    have h := rackOnly_failTaken c n s
    exact ⟨by rw [h.zones], by rw [h.line], by rw [h.slots], fun hs => by rw [h.zones]; exact hs⟩
  claim s _ := bedKept_endedClaim s
  release s h := by rw [autoRelease_bare h]; exact .refl s

/-! ### The HELLO sent (R103, R160) -/

/-- What a HELLO sent makes of the own claim and of a head that waited for its window. -/
def failedClaim : Claim → Claim
  | .window _ _ => .none
  | c => c

def failedQueue : Claim → List Segment → List Segment
  | .window _ _, q => unclaimedQueue q
  | _, q => q

theorem failWindow_fields (s : State) : failWindow s = { s with
    zones := { s.zones with claim := failedClaim s.zones.claim }
    motion := { s.motion with queue := failedQueue s.zones.claim s.motion.queue } } := by
  rw [failWindow_eq]
  cases hc : s.zones.claim with
  | window x b => rfl
  | none => simp only [failedClaim, failedQueue, ← hc]
  | queued x b => simp only [failedClaim, failedQueue, ← hc]

/-- The episode time of LINE REJOINED (R160; log entry 46). -/
def muteTime (s : State) (now : Nat) : Nat :=
  match s.line.muteStart with
  | some d => min 65535 ((now - d) / 10000)
  | none => 0

/-- The station as it has joined, with the parts of other units given. -/
def joinedWith (t : Tick) (s : State) (view : Vector (Option Hold) 16) (c : Claim) (q : List Segment)
    (ns : Vector Latch 9) : State := { attemptWon t s with
  line := { (attemptWon t s).line with mutes := 0, muteStart := none }
  slots := { s.slots with hello := false }
  zones := { s.zones with claim := c, view := view }
  motion := { s.motion with queue := q }
  notices := ns }

/-- The view without the station's own holds (R103). -/
def viewWithout (n : Nat) (view : Vector (Option Hold) 16) : Vector (Option Hold) 16 :=
  tab16 fun z => match view.get z with
    | some h => if h.holder = n then none else some h
    | none => none

/-- The notices with LINE REJOINED latched after a MUTE (R160). -/
def rejoinedNotices (now : Nat) (s : State) : Vector Latch 9 :=
  if s.line.mutes = 0 then s.notices
  else s.notices.set 8 ((s.notices.get 8).event (.lineRejoined s.line.mutes (muteTime s now)))

/-- The station as it has joined (R103, R160). -/
def helloJoined (t : Tick) (s : State) : State :=
  joinedWith t s (viewWithout s.line.number s.zones.view) (failedClaim s.zones.claim)
    (failedQueue s.zones.claim s.motion.queue) (rejoinedNotices (advance t s).uptime s)

/-- The own holdings gone and the window failed (R103). -/
theorem helloFreed_eq (t : Tick) (s : State) :
    failWindow (freeHeldBy s.line.number allZones (mapSlots (fun x => { x with hello := false }) (attemptWon t s))) =
      { attemptWon t s with
        slots := { s.slots with hello := false }
        zones := { s.zones with
          claim := failedClaim s.zones.claim, view := viewWithout s.line.number s.zones.view }
        motion := { s.motion with queue := failedQueue s.zones.claim s.motion.queue } } := by
  rw [failWindow_fields, freeHeldBy_all]
  rfl

theorem helloSent_attemptWon (t : Tick) (s : State) :
    helloSent (attemptWon t s) = zonesLost (ownZones s) (helloJoined t s) := by
  have hmutes : (attemptWon t s).line.mutes = s.line.mutes := Line.progress_mutes _ _
  have hms : muteTime (attemptWon t s) (advance t s).uptime = muteTime s (advance t s).uptime := by
    unfold muteTime
    rw [show (attemptWon t s).line.muteStart = s.line.muteStart from Line.progress_muteStart _ _]
  let freed := failWindow (freeHeldBy (attemptWon t s).line.number allZones
    (mapSlots (fun x => { x with hello := false }) (attemptWon t s)))
  change zonesLost (ownZones (attemptWon t s)) (mapLine (fun l => { l with mutes := 0, muteStart := none })
    (if (attemptWon t s).line.mutes = 0 then freed else latchNotice
      (.lineRejoined (attemptWon t s).line.mutes (muteTime (attemptWon t s) (advance t s).uptime)) freed)) = _
  have hfreed : freed = _ := (congrArg (fun n => failWindow (freeHeldBy n allZones _))
    (attemptWon_number t s)).trans (helloFreed_eq t s)
  rw [ownZones_attemptWon, hmutes, hms, hfreed]
  refine congrArg (zonesLost (ownZones s)) ?_
  unfold helloJoined rejoinedNotices
  by_cases h : s.line.mutes = 0
  · rw [if_pos h, if_pos h]
    rfl
  · rw [if_neg h, if_neg h]
    rfl

theorem firmZones_helloJoined (t : Tick) (s : State) : firmZones (helloJoined t s) = 0 := by
  refine ZoneSet.eq_zero_iff.mpr fun z => ?_
  rw [firmZones, viewZones, zoneSet_has, helloJoined, joinedWith, viewWithout]
  dsimp only
  rw [tab16_get, Bool.eq_false_iff]
  cases s.zones.view.get z with
  | none => exact nofun
  | some h =>
    dsimp only
    by_cases hh : h.holder = s.line.number
    · rw [if_pos hh]
      exact nofun
    · rw [if_neg hh, Ne, firmToSelf_some]
      exact fun hf => hh (hf.1.trans (attemptWon_number t s))

theorem helloJoined_queue (t : Tick) (s : State) : QueueUnclaimed s (helloJoined t s) := by
  show failedQueue s.zones.claim s.motion.queue = _ ∨ failedQueue s.zones.claim s.motion.queue = _
  cases s.zones.claim with
  | window x b => exact .inr rfl
  | none => exact .inl rfl
  | queued x b => exact .inl rfl

theorem helloJoined_probes (t : Tick) (s : State) : (helloJoined t s).probes = s.probes := rfl

/-- What a HELLO sent latches is LINE REJOINED alone (R160). -/
theorem helloJoined_get (t : Tick) (s : State) {k : Fin 9} (hk : k ≠ 8) :
    (helloJoined t s).notices.get k = s.notices.get k := by
  show (rejoinedNotices _ s).get k = _
  unfold rejoinedNotices
  split
  · rfl
  · exact (vector_get_set s.notices 8 k _).trans (if_neg hk)

theorem bedKept_hello (t : Tick) (s : State) :
    BedKept (helloJoined t s) (zonesLost (ownZones s) (helloJoined t s)) :=
  stopRule_bedKept.zonesLost _ _ (firmZones_helloJoined t s)

end Sys2Proof.Machine

namespace Sys2Proof.Machine

/-! ### The slots loaded at the end of a step (R116, R123, R179) -/

theorem loadNotice_first {s : State} {k : Fin 9} {n : Notice} (hj : joined s = true) (hs : s.slots.notice = none)
    (hk : (s.notices.get k).pending = true) (hlt : ∀ j, j < k → (s.notices.get j).pending = false)
    (hd : (s.notices.get k).detail = some n) : loadNotice s = { s with
      notices := s.notices.set k.val { pending := false, count := 0, detail := none }
      slots := { s.slots with notice := some { notice := n, count := (s.notices.get k).count } } } := by
  have hsplit : ∀ k : Fin 9, latchIds = latchIds.take k.val ++ k :: latchIds.drop (k.val + 1) := by decide
  have hbefore : ∀ k : Fin 9, ∀ j ∈ latchIds.take k.val, j < k := by decide
  have hfind : latchIds.find? (fun i => (s.notices.get i).pending) = some k :=
    List.find?_eq_some_iff_append.mpr ⟨hk, _, _, hsplit k, fun j hj => by rw [hlt j (hbefore k j hj)]; rfl⟩
  simp only [loadNotice, hj, hs, Option.isNone_none, Bool.and_self, if_true, hfind, hd]
  rfl

theorem loadTouch_first {s : State} {pre post : List PointRecord} {r : PointRecord} (hj : joined s = true)
    (hs : s.slots.touch = none) (hp : s.capture.points = pre ++ r :: post)
    (hpre : ∀ x ∈ pre, x.state = .awaiting → x.announced = true) (hr : r.state = .awaiting)
    (ha : r.announced = false) : loadTouch s = { s with slots := { s.slots with
      touch := some { point := r.number, probe := r.probe, captureTick := r.captureTick } } } := by
  have hfind : s.capture.points.find? (fun r => r.state == .awaiting && !r.announced) = some r := by
    refine List.find?_eq_some_iff_append.mpr ⟨by simp [hr, ha], pre, post, hp, fun x hx => ?_⟩
    by_cases hw : x.state = .awaiting
    · simp [hpre x hx hw]
    · simp [hw]
  simp only [loadTouch, hj, hs, Option.isNone_none, Bool.and_self, if_true, hfind]

theorem loadPoint_first {s : State} {r : PointRecord} {rest : List PointRecord} (hj : joined s = true)
    (hs : s.slots.point = none) (hp : s.capture.points = r :: rest) (hr : r.state = .ready) : loadPoint s = { s with
      capture := { s.capture with points := { r with state := .offered } :: rest }
      slots := { s.slots with point := some r.frame } } := by
  simp only [loadPoint, hj, hs, Option.isNone_none, Bool.and_self, if_true, hp, if_pos hr]
  rfl

theorem loadTouch_idle {s : State} (h : joined s = false ∨ s.slots.touch ≠ none ∨
    ∀ x ∈ s.capture.points, x.state = .awaiting → x.announced = true) : loadTouch s = s := by
  unfold loadTouch
  split
  · rename_i hl
    rw [Bool.and_eq_true, Option.isNone_iff_eq_none] at hl
    have hall := (h.resolve_left (by rw [hl.1]; decide)).resolve_left (not_not_intro hl.2)
    have hfind : s.capture.points.find? (fun r => r.state == .awaiting && !r.announced) = none := by
      refine List.find?_eq_none.mpr fun x hx => ?_
      by_cases hw : x.state = .awaiting
      · simp [hall x hx hw]
      · simp [hw]
    rw [hfind]
  · rfl

theorem loadPoint_idle {s : State} (h : joined s = false ∨ s.slots.point ≠ none ∨
    ∀ r rest, s.capture.points = r :: rest → r.state ≠ .ready) : loadPoint s = s := by
  unfold loadPoint
  split
  · rename_i hl
    rw [Bool.and_eq_true, Option.isNone_iff_eq_none] at hl
    have hall := (h.resolve_left (by rw [hl.1]; decide)).resolve_left (not_not_intro hl.2)
    cases hp : s.capture.points with
    | nil => rfl
    | cons r rest => exact if_neg (hall r rest hp)
  · rfl

theorem loadNotice_idle {s : State} (h : joined s = false ∨ s.slots.notice ≠ none ∨
    ∀ k, (s.notices.get k).pending = false) : loadNotice s = s := by
  unfold loadNotice
  split
  · rename_i hl
    rw [Bool.and_eq_true, Option.isNone_iff_eq_none] at hl
    have hall := (h.resolve_left (by rw [hl.1]; decide)).resolve_left (not_not_intro hl.2)
    have hfind : latchIds.find? (fun i => (s.notices.get i).pending) = none :=
      List.find?_eq_none.mpr fun k _ => by rw [hall k]; decide
    rw [hfind]
  · rfl

/-! ### Heads that lose a zone with a HELLO (R73; log entry 25) -/

theorem ZoneSet.ne_zero_iff {x : ZoneSet} : x ≠ 0 ↔ ∃ z, ZoneSet.has x z = true := by
  rw [Ne, ZoneSet.eq_zero_iff, not_forall]
  exact exists_congr fun z => by rw [Bool.not_eq_false]

/-- A segment needs a zone that the station holds. -/
theorem needs_own_iff {s : State} {seg : Segment} : seg.needed.getD 0 &&& ownZones s ≠ 0 ↔
    ∃ z h, ZoneSet.has (seg.needed.getD 0) z = true ∧ s.zones.view.get z = some h ∧ h.holder = s.line.number := by
  rw [ZoneSet.ne_zero_iff]
  refine exists_congr fun z => ?_
  rw [ZoneSet.has_and, Bool.and_eq_true, has_ownZones]
  exact ⟨fun ⟨hn, h, hv, ho⟩ => ⟨h, hn, hv, ho⟩, fun ⟨h, hn, hv, ho⟩ => ⟨hn, h, hv, ho⟩⟩

theorem zonesLost_hello_kept {t : Tick} {s : State}
    (h : ∀ seg rest, s.motion.queue = seg :: rest →
      (seg.state ≠ .moving ∧ seg.state ≠ .stopping) ∨ seg.needed.getD 0 &&& ownZones s = 0) :
    zonesLost (ownZones s) (helloJoined t s) = helloJoined t s := by
  refine zonesLost_kept fun seg' rest' hq' => ?_
  cases hq : s.motion.queue with
  | nil =>
    rw [(helloJoined_queue t s).nil hq] at hq'
    cases hq'
  | cons seg rest =>
    rcases (helloJoined_queue t s).cons hq with he | he
    · rw [he, List.cons.injEq] at hq'
      rw [← hq'.1]
      exact h seg rest hq
    · rw [he, List.cons.injEq] at hq'
      rw [← hq'.1]
      exact (h seg rest hq).imp (fun hne => unclaimed_still hne) (by rw [unclaimed_needed]; exact id)

theorem zonesLost_hello_stops {t : Tick} {s : State} {seg : Segment} {rest : List Segment}
    (hq : s.motion.queue = seg :: rest) (hs : seg.state = .moving ∨ seg.state = .stopping)
    (hn : seg.needed.getD 0 &&& ownZones s ≠ 0) : (helloJoined t s).motion.queue = seg :: rest ∧
      zonesLost (ownZones s) (helloJoined t s) = controlledStop .conflict (helloJoined t s) := by
  have hqueue := (helloJoined_queue t s).cons_of_ne hq (by rcases hs with h | h <;> rw [h] <;> decide)
  exact ⟨hqueue, zonesLost_stops hqueue hs hn⟩

end Sys2Proof.Machine

namespace Sys2Proof.Machine

/-- What the own objection leaves of the view and its slot (R94, R175). -/
theorem objectApplied_view {t : Tick} {i : Fin 3} {f : ObjectFrame} {s : State} (z : Fin 16) :
    (ZoneSet.has f.zones z = true →
      ∃ since, (objectApplied i f (attemptWon t s)).zones.view.get z =
          some { holder := s.line.number, standing := .firm, since := since } ∧
        ∀ h, s.zones.view.get z = some h → h.holder = s.line.number →
          (h.holder ≠ f.claimant ∨ h.standing = .firm) → since = h.since) ∧
    (ZoneSet.has f.zones z = false → (objectApplied i f (attemptWon t s)).zones.view.get z =
      match s.zones.view.get z with
      | some h => if h.holder = f.claimant ∧ h.standing = .tentative then none else some h
      | none => none) := by
  have hget : (objectApplied i f (attemptWon t s)).zones.view.get z = ownObjectEntry s.line.number f.claimant
      (advance t s).uptime (ZoneSet.has f.zones z) (s.zones.view.get z) := by
    rw [← attemptWon_number t s]
    exact applyOwnObject_get f _ z
  refine ⟨fun hz => ?_, fun hz => ?_⟩
  · rw [hget, hz]
    exact ownObjectEntry_named _ _ _ _
  · rw [hget, hz]
    cases s.zones.view.get z <;> rfl

/-- Settles O49: the success of each slot by what its owner does, that of a HELLO by the zones it frees, and the end
of a step by the slots it loads. -/
theorem successfulAttemptsInformTheirOwner : Obligations.SuccessfulAttemptsInformTheirOwner := by
  refine ⟨fun t s x hr hx hlt => ?_, fun s k n hj hs hk hall hd => loadNotice_first hj hs hk hall hd,
    fun s => ⟨fun hr => if_pos hr, fun hr => if_neg (by rw [hr]; decide)⟩,
    fun s pre post r hj hs hp hpre hr ha => loadTouch_first hj hs hp hpre hr ha,
    fun s r rest hj hs hp hr => loadPoint_first hj hs hp hr,
    fun s => ⟨loadTouch_idle, loadPoint_idle, loadNotice_idle⟩⟩
  intro a b ends
  have hends {u : State} (hu : slotSent x.slot (attemptWon t s) = u) : ends u := next_success hr hx hlt hu
  refine ⟨fun f hs hf => hends ?_, fun i f hs hf => ?_, fun hs => hends ?_, fun zones e hs hc => hends ?_,
    fun i hs => hends ?_, fun r rest hs hp hst => hends ?_, fun i f hs hf => ?_, fun hs => hends ?_,
    fun f hs hf => hends ?_, fun hs => hends ?_, fun hs => ?_⟩
  · rw [hs]
    exact touchSent_some hf
  · refine ⟨objectApplied i f (attemptWon t s), fun z => objectApplied_view z, ?_, rfl, hends ?_⟩
    · exact (vector_get_set s.slots.objects i i _).trans (if_pos rfl)
    · rw [hs, ← ownZones_attemptWon t s]
      exact objectSent_some hf
  · rw [hs]
    rfl
  · rw [hs]
    refine (claimSent_queued (s := mapSlots (fun x => { x with claim := none }) (attemptWon t s)) hc).trans ?_
    rw [show (mapSlots (fun x => { x with claim := none }) (attemptWon t s)).line.number = s.line.number from
      attemptWon_number t s]
    rfl
  · rw [hs]
    rfl
  · rw [hs]
    exact pointSent_offered hp hst
  · intro c
    refine ⟨fun hn => hends ?_, fun hk hc hp => hends ?_⟩
    · rw [hs]
      exact (replySent_some (s := attemptWon t s) hf).trans (if_neg hn)
    · rw [hs]
      exact (replySent_some (s := attemptWon t s) hf).trans (if_pos ⟨hk, hc, hp⟩)
  · rw [hs]
    rfl
  · rw [hs]
    exact statusSent_some hf
  · rw [hs]
    rfl
  · intro joins loses
    have hjoins : joins = helloJoined t s := by
      have hclaim : (match s.zones.claim with
          | .window _ _ => .none
          | c => c) = failedClaim s.zones.claim := by cases s.zones.claim <;> rfl
      have hqueue : (match s.zones.claim, s.motion.queue with
          | .window _ _, seg :: rest => (if seg.state = .claiming then { seg with state := .waiting } else seg) :: rest
          | _, q => q) = failedQueue s.zones.claim s.motion.queue := by
        cases s.zones.claim <;> cases s.motion.queue <;> rfl
      have h := congrArg₂ (fun c q => joinedWith t s (viewWithout s.line.number s.zones.view) c q
        (rejoinedNotices a.uptime s)) hclaim hqueue
      exact h
    rw [hjoins]
    have hsent : ends (zonesLost (ownZones s) (helloJoined t s)) := hends (by rw [hs]; exact helloSent_attemptWon t s)
    have hbed := bedKept_hello t s
    refine ⟨fun hkept => ?_, _, hsent, motionOnly_zonesLost _ _, hbed.hello, hbed.view, hbed.window ?_,
      noticesKept_zonesLost _ _ 8 (by decide) (by decide) (by decide), fun seg rest hq hl => ?_⟩
    · rw [zonesLost_hello_kept fun seg rest hq => (hkept seg rest hq).imp_right fun hl => ?_] at hsent
      · exact hsent
      · exact not_not.mp (mt needs_own_iff.mp hl)
    · show ∀ z b, failedClaim s.zones.claim ≠ .window z b
      cases s.zones.claim <;> exact nofun
    · have hn := needs_own_iff.mpr hl
      refine ⟨fun hst => ?_, fun hsh => ?_, fun hmv hsl => ⟨fun hi => ?_, fun hi ha hres => ?_⟩⟩
      · obtain ⟨hqueue, hstop⟩ := zonesLost_hello_stops (t := t) hq (.inr hst) hn
        rw [hstop, controlledStop_stopping (by decide) hqueue hst, autoRelease_motion, autoRelease_probes]
        exact ⟨rfl, rfl⟩
      · obtain ⟨hqueue, hstop⟩ := zonesLost_hello_stops (t := t) hq (.inl hsh.1) hn
        rw [hstop, controlledStop_shedding (by decide) hqueue hsh, autoRelease_motion, autoRelease_probes]
        exact ⟨rfl, rfl⟩
      · obtain ⟨hqueue, hstop⟩ := zonesLost_hello_stops (t := t) hq (.inl hmv) hn
        rw [hstop, controlledStop_speedless (by decide) hqueue hsl, endAtOnce_segmentEnd hqueue hi]
        exact ⟨endAtOnce_empty (by decide) _, event_detail _ _⟩
      · obtain ⟨hqueue, hstop⟩ := zonesLost_hello_stops (t := t) hq (.inl hmv) hn
        rw [hstop, controlledStop_speedless (by decide) hqueue hsl]
        exact phaseFailed_endAtOnce rfl hqueue hi ha hres rfl rfl (helloJoined_get t s (by decide))
          (helloJoined_get t s (by decide))

end Sys2Proof.Machine

/-! The servo sample step by step (R14): what each step reads and changes. -/

namespace Sys2Proof.Machine

/-! ### The segment over a period (R69, R70) -/

/-- A period changes of a segment its progress, its speed, its arrival and whether it decelerates. -/
theorem stepSegment_eq (s : State) (seg : Segment) : stepSegment s seg = { seg with
    decelerating := (stepSegment s seg).decelerating
    traj := { seg.traj with
      s := (stepSegment s seg).traj.s
      u := (stepSegment s seg).traj.u
      arrived := (stepSegment s seg).traj.arrived
      settle := (stepSegment s seg).traj.settle } } := by
  unfold stepSegment
  dsimp only
  split
  · rfl
  · split
    · rfl
    · split
      · split
        · split <;> rfl
        · rfl
      · have hstep : ∀ a : Nat, (seg.traj.step a).1 =
            { seg.traj with s := (seg.traj.step a).1.s, u := (seg.traj.step a).1.u } := by
          intro a
          unfold Trajectory.step
          dsimp only
          split <;> rfl
        split
        · rw [hstep]
        · rw [hstep]
  · rfl

@[simp] theorem stepSegment_kind (s : State) (seg : Segment) : (stepSegment s seg).kind = seg.kind := by
  rw [stepSegment_eq]
@[simp] theorem stepSegment_state (s : State) (seg : Segment) : (stepSegment s seg).state = seg.state := by
  rw [stepSegment_eq]
@[simp] theorem stepSegment_number (s : State) (seg : Segment) : (stepSegment s seg).number = seg.number := by
  rw [stepSegment_eq]
@[simp] theorem stepSegment_issuer (s : State) (seg : Segment) : (stepSegment s seg).issuer = seg.issuer := by
  rw [stepSegment_eq]
@[simp] theorem stepSegment_axis (s : State) (seg : Segment) : (stepSegment s seg).axis = seg.axis := by
  rw [stepSegment_eq]
@[simp] theorem stepSegment_outcome (s : State) (seg : Segment) : (stepSegment s seg).outcome = seg.outcome := by
  rw [stepSegment_eq]
@[simp] theorem stepSegment_flushed (s : State) (seg : Segment) : (stepSegment s seg).flushed = seg.flushed := by
  rw [stepSegment_eq]
@[simp] theorem stepSegment_lineEnd (s : State) (seg : Segment) : (stepSegment s seg).lineEnd = seg.lineEnd := by
  rw [stepSegment_eq]
  rfl
@[simp] theorem stepSegment_start (s : State) (seg : Segment) : (stepSegment s seg).traj.start = seg.traj.start := by
  rw [stepSegment_eq]
@[simp] theorem stepSegment_traj_marked (s : State) (seg : Segment) :
    (stepSegment s seg).traj.marked = seg.traj.marked := by rw [stepSegment_eq]

theorem stepSegment_congr {s u : State} (hs : u.station = s.station) (hu : u.uptime = s.uptime) (seg : Segment) :
    stepSegment u seg = stepSegment s seg := by
  unfold stepSegment
  rw [hs, hu]

/-! ### The sample up to its demands (R12, R14) -/

/-- From `s` to `u` a servo sample at `t` has changed the axes, the queue, the pending requests and their answers. -/
def SampleOnly (t : Tick) (s u : State) : Prop := u = { advance t s with
  axes := u.axes
  motion := { s.motion with queue := u.motion.queue }
  capture := { s.capture with requests := u.capture.requests }
  slots := { s.slots with companions := u.slots.companions } }

theorem sampleOnly_settlePending {t : Tick} {s u : State} (q : Request) (h : SampleOnly t s u) :
    SampleOnly t s (settlePending q u) := by
  rw [SampleOnly] at h ⊢
  cases hs : settle u q.instant with
  | wait => rwa [settlePending_wait hs]
  | answer st v =>
    rw [settlePending_answer hs]
    unfold placeAnswer
    split
    · rw [h]
      rfl
    · rw [h]
      rfl

theorem sampleOnly_settleAll {t : Tick} {s u : State} (h : SampleOnly t s u) : SampleOnly t s (settleAll u) := by
  have hfold (l : List Request) {w : State} (hw : SampleOnly t s w) :
      SampleOnly t s (l.foldl (fun s q => settlePending q s) w) := by
    induction l generalizing w with
    | nil => exact hw
    | cons q l ih => exact ih (sampleOnly_settlePending q hw)
  exact hfold _ h

theorem SampleOnly.mapAxes {t : Tick} {s u : State} (h : SampleOnly t s u) (f : Fin 4 → Axis → Axis) :
    SampleOnly t s (u.mapAxes f) := by
  rw [SampleOnly] at h ⊢
  rw [h]
  rfl

theorem SampleOnly.setQueue {t : Tick} {s u : State} (h : SampleOnly t s u) (q : List Segment) :
    SampleOnly t s (setQueue q u) := by
  rw [SampleOnly] at h ⊢
  rw [h]
  rfl

theorem sampleOnly_sampleRings (t : Tick) (s : State) : SampleOnly t s (sampleRings (advance t s)) :=
  SampleOnly.mapAxes (u := advance t s) rfl _


theorem answersOnly_settleAll (u : State) : AnswersOnly u (settleAll u) := by
  have hfold (l : List Request) {w : State} (hw : AnswersOnly u w) :
      AnswersOnly u (l.foldl (fun s q => settlePending q s) w) := by
    induction l generalizing w with
    | nil => exact hw
    | cons q l ih => exact ih (answersOnly_settlePending q hw)
  exact hfold _ rfl

/-- Steps 1 and 2: the rings have the sample, and the pending requests are settled. -/
def ringsSampled (t : Tick) (s : State) : State := settleAll (sampleRings (advance t s))

theorem sampleOnly_ringsSampled (t : Tick) (s : State) : SampleOnly t s (ringsSampled t s) :=
  sampleOnly_settleAll (sampleOnly_sampleRings t s)

theorem ringsSampled_axes (t : Tick) (s : State) : (ringsSampled t s).axes =
    tab4 fun i => if s.live i = true then appendSample t (s.axis i) else s.axis i := by
  have h := answersOnly_settleAll (sampleRings (advance t s))
  rw [AnswersOnly] at h
  rw [ringsSampled, h, sampleRings_eq]

theorem ringsSampled_axis (t : Tick) (s : State) (i : Fin 4) : (ringsSampled t s).axis i =
    if s.live i = true then appendSample t (s.axis i) else s.axis i := by
  rw [State.axis, ringsSampled_axes, tab4_get]

theorem ringsSampled_motion (t : Tick) (s : State) : (ringsSampled t s).motion = s.motion := by
  have h := answersOnly_settleAll (sampleRings (advance t s))
  rw [AnswersOnly] at h
  rw [ringsSampled, h, sampleRings_eq]
  rfl

theorem ampOn_of_sampleOnly {t : Tick} {s u : State} (h : SampleOnly t s u) : ampOn u = ampOn s := by
  rw [SampleOnly] at h
  rw [h]
  exact advance_ampOn t s

theorem live_of_sampleOnly {t : Tick} {s u : State} (h : SampleOnly t s u) (i : Fin 4) : u.live i = s.live i := by
  rw [SampleOnly] at h
  rw [h]
  rfl

theorem appendSample_fields (t : Tick) (a : Axis) : appendSample t a = { a with ring := (appendSample t a).ring } := rfl

/-- The head's segment once the period has moved it. -/
def driven (t : Tick) (s : State) (seg : Segment) : Segment :=
  if ampOn s = true ∧ seg.driving = true then stepSegment (advance t s) seg else seg

/-- The queue that a servo sample leaves before any segment ends. -/
def drivenQueue (t : Tick) (s : State) : List Segment :=
  match s.motion.queue with
  | [] => []
  | seg :: rest => driven t s seg :: rest

/-- The demand of axis `i` after a servo sample (R12, R14). -/
def newDemand (t : Tick) (s : State) (i : Fin 4) : Int :=
  if ampOn s = true then
    match s.motion.queue with
    | [] => (s.axis i).demand
    | seg :: _ => if seg.driving = true then
        fit32 (advance t s).freeIx (pathDemand s (stepSegment (advance t s) seg) i) else (s.axis i).demand
  else (s.axis i).position

/-- The axis `i` of a live channel after the sample is in its ring and its demand taken. -/
def sampledAxis (t : Tick) (s : State) (i : Fin 4) : Axis :=
  { appendSample t (s.axis i) with demand := newDemand t s i }

theorem takeDemands_off {s : State} (h : ampOn s = false) :
    takeDemands s = s.mapAxes fun i a => if s.live i then { a with demand := a.position } else a := by
  simp [takeDemands, h]

theorem takeDemands_still {s : State} (h : ampOn s = true)
    (hq : ∀ seg rest, s.motion.queue = seg :: rest → seg.driving = false) : takeDemands s = s := by
  unfold takeDemands
  rw [if_pos h]
  split
  · rfl
  · rename_i seg rest hs
    exact if_neg (by rw [hq seg rest hs]; decide)

theorem takeDemands_driving {s : State} {seg : Segment} {rest : List Segment} (h : ampOn s = true)
    (hq : s.motion.queue = seg :: rest) (hd : seg.driving = true) : takeDemands s =
      (setQueue (stepSegment s seg :: rest) s).mapAxes fun i a =>
        if s.live i then { a with demand := fit32 s.freeIx (pathDemand s (stepSegment s seg) i) } else a := by
  simp only [takeDemands, h, hq, hd, if_true]

theorem sampleOnly_takeDemands {t : Tick} {s u : State} (h : SampleOnly t s u) : SampleOnly t s (takeDemands u) := by
  cases ha : ampOn u with
  | false =>
    rw [takeDemands_off ha]
    exact h.mapAxes _
  | true =>
    unfold takeDemands
    rw [if_pos ha]
    split
    · exact h
    · dsimp only
      split
      · exact (h.setQueue _).mapAxes _
      · exact h

theorem sampleOnly_sampled (t : Tick) (s : State) : SampleOnly t s (sampled t s) :=
  sampleOnly_takeDemands (sampleOnly_ringsSampled t s)

/-- The path demand reads of an axis only the direction of its search. -/
theorem pathDemand_congr {s u : State} {i : Fin 4} (h : (u.axis i).record = (s.axis i).record) (seg : Segment) :
    pathDemand u seg i = pathDemand s seg i := by
  unfold pathDemand
  rw [h]

theorem ringsSampled_record (t : Tick) (s : State) (i : Fin 4) :
    ((ringsSampled t s).axis i).record = (s.axis i).record := by
  rw [ringsSampled_axis]
  split <;> rfl

/-- With the amplifiers off the demands take the positions and the queue stays. -/
theorem sampled_off {t : Tick} {s : State} (ha : ampOn s = false) : (sampled t s).motion.queue = drivenQueue t s ∧
    ∀ i, (sampled t s).axis i = if s.live i = true then sampledAxis t s i else s.axis i := by
  have hS := sampleOnly_ringsSampled t s
  rw [show sampled t s = takeDemands (ringsSampled t s) from rfl, takeDemands_off ((ampOn_of_sampleOnly hS).trans ha)]
  refine ⟨?_, fun i => ?_⟩
  · rw [State.mapAxes_motion, ringsSampled_motion]
    simp only [drivenQueue, driven, ha, Bool.false_eq_true, false_and, if_false]
    cases s.motion.queue <;> rfl
  · rw [State.axis_mapAxes, live_of_sampleOnly hS, ringsSampled_axis, sampledAxis, newDemand, ha]
    by_cases hl : s.live i = true
    · rw [if_pos hl, if_pos hl, if_pos hl]
      rfl
    · rw [if_neg hl, if_neg hl, if_neg hl]

/-- A head that moves or stops gives the demands. -/
theorem sampled_driving {t : Tick} {s : State} {seg : Segment} {rest : List Segment} (ha : ampOn s = true)
    (hs : s.motion.queue = seg :: rest) (hd : seg.driving = true) :
    (sampled t s).motion.queue = drivenQueue t s ∧
    ∀ i, (sampled t s).axis i = if s.live i = true then sampledAxis t s i else s.axis i := by
  have hS := sampleOnly_ringsSampled t s
  have hfields : (ringsSampled t s).station = (advance t s).station ∧
      (ringsSampled t s).uptime = (advance t s).uptime ∧ (ringsSampled t s).freeIx = (advance t s).freeIx := by
    rw [SampleOnly] at hS
    rw [hS]
    exact ⟨rfl, rfl, rfl⟩
  obtain ⟨hst, hup, hfree⟩ := hfields
  rw [show sampled t s = takeDemands (ringsSampled t s) from rfl,
    takeDemands_driving ((ampOn_of_sampleOnly hS).trans ha) (by rw [ringsSampled_motion, hs]) hd,
    stepSegment_congr hst hup]
  refine ⟨?_, fun i => ?_⟩
  · simp only [drivenQueue, hs, driven, ha, hd, and_self, if_true]
    rfl
  · rw [State.axis_mapAxes, live_of_sampleOnly hS,
      show ∀ q u, (setQueue q u).axis i = u.axis i from fun _ _ => rfl, ringsSampled_axis,
      pathDemand_congr (ringsSampled_record t s i), hfree]
    simp only [sampledAxis, newDemand, ha, hs, hd, if_true]
    by_cases hl : s.live i = true
    · rw [if_pos hl, if_pos hl, if_pos hl]
    · rw [if_neg hl, if_neg hl, if_neg hl]

/-- Without such a head the demands hold. -/
theorem sampled_still {t : Tick} {s : State} (ha : ampOn s = true)
    (hstill : ∀ seg rest, s.motion.queue = seg :: rest → seg.driving = false) :
    (sampled t s).motion.queue = drivenQueue t s ∧
    ∀ i, (sampled t s).axis i = if s.live i = true then sampledAxis t s i else s.axis i := by
  have hS := sampleOnly_ringsSampled t s
  rw [show sampled t s = takeDemands (ringsSampled t s) from rfl, takeDemands_still
    ((ampOn_of_sampleOnly hS).trans ha) fun seg rest hs => hstill seg rest (by rw [← hs, ringsSampled_motion])]
  refine ⟨?_, fun i => ?_⟩
  · rw [ringsSampled_motion]
    unfold drivenQueue driven
    cases hs : s.motion.queue with
    | nil => rfl
    | cons seg rest => simp [hstill seg rest hs]
  · rw [ringsSampled_axis, sampledAxis, newDemand, ha]
    cases hs : s.motion.queue with
    | nil => rfl
    | cons seg rest => simp [hstill seg rest hs, appendSample]

/-- The sample up to its demands, whatever drives. -/
theorem sampled_fields (t : Tick) (s : State) : (sampled t s).motion.queue = drivenQueue t s ∧
    ∀ i, (sampled t s).axis i = if s.live i = true then sampledAxis t s i else s.axis i := by
  cases ha : ampOn s with
  | false => exact sampled_off ha
  | true =>
    by_cases hd : ∃ seg rest, s.motion.queue = seg :: rest ∧ seg.driving = true
    · obtain ⟨seg, rest, hs, hd⟩ := hd
      exact sampled_driving ha hs hd
    · refine sampled_still ha fun seg rest hs => ?_
      rw [Bool.eq_false_iff]
      exact fun h => hd ⟨seg, rest, hs, h⟩

theorem sampled_queue (t : Tick) (s : State) : (sampled t s).motion.queue = drivenQueue t s := (sampled_fields t s).1

theorem sampled_axis (t : Tick) (s : State) (i : Fin 4) :
    (sampled t s).axis i = if s.live i = true then sampledAxis t s i else s.axis i := (sampled_fields t s).2 i

end Sys2Proof.Machine

/-! A rack segment that stops with the outcome ARRIVED: refuting O10. -/

namespace Sys2Proof.Machine

theorem finish_queue_nil {s : State} (h : s.motion.queue = []) : (finish s).motion.queue = [] := by
  have he : evaluateHead s = s := evaluateHead_idle fun seg rest hs => by rw [h] at hs; cases hs
  unfold finish
  split
  · exact h
  · rw [loadNotice_eq, loadPoint_eq, loadTouch_eq, he]
    exact h

/-- A RACK-TRAVEL of a change that stops, at rest, with the outcome ARRIVED. -/
def stoppedArrived : Segment :=
  { newSegment State.reset .probeUnit .rackTravel 0 (Vector.replicate 4 0) none 0 with
    state := .stopping, outcome := some .arrived }

/-- TRAVEL-DROP of a change to port 0, whose open input is active, with `stoppedArrived` as its segment. -/
def lidAlreadyOpen : State := { State.reset with
  pins := { Pins.atReset with ports := Vector.replicate 8 { openIn := true, closedIn := false, present := false } }
  station := { State.reset.station with mode := .run }
  motion := { State.reset.motion with queue := [stoppedArrived] }
  probes := { State.reset.probes with change := { Change.idle none with
    active := true, target := 11, oldId := 7, drop := some 0, pick := some 5, phase := some .travelDrop } } }

/-- The queue that a servo sample leaves. -/
def queueAfterSample (t : Tick) (s : State) : List Segment :=
  match exec (.servoSample t) s with
  | .next u => u.motion.queue
  | _ => []

/-- The segment ends ARRIVED, OPEN-DROP begins with its lid OPEN, and INSERT issues its segment at once. -/
theorem queueAfterSample_lidAlreadyOpen :
    (queueAfterSample 2500 lidAlreadyOpen).map (fun x => (x.kind, x.state)) = [(.rackInsert, .waiting)] := by decide

theorem soundSample_lidAlreadyOpen : SoundSample 2500 lidAlreadyOpen := by
  unfold SoundSample
  decide

/-- Refutes O10: its clause on a STOPPING segment of a change leaves the segment's outcome open. With ARRIVED and the
drop port's lid OPEN already, the segment's end begins OPEN-DROP and then INSERT, whose segment joins the queue in the
same sample. -/
theorem not_settleTimeoutEndsTheHeadUnsettled : ¬ Obligations.SettleTimeoutEndsTheHeadUnsettled := by
  intro h
  obtain ⟨-, -, -, hrack, -⟩ := h
  obtain ⟨v, hexec, hempty, -⟩ := (hrack 2500 lidAlreadyOpen stoppedArrived rfl rfl rfl rfl).2 (by decide)
    soundSample_lidAlreadyOpen rfl (.inl rfl)
  have hqueue : queueAfterSample 2500 lidAlreadyOpen = [] := by
    rw [queueAfterSample, hexec]
    exact finish_queue_nil hempty
  have hissued := queueAfterSample_lidAlreadyOpen
  rw [hqueue] at hissued
  cases hissued

end Sys2Proof.Machine

/-! The motion faults that a servo sample finds, and the drives it sends: settling O8. -/

namespace Sys2Proof.Machine

/-! ### The faults found (R10, R11, R18) -/

theorem demands_ringsSampled (t : Tick) (s : State) : demands (ringsSampled t s) = demands s := by
  have h (i : Fin 4) : ((ringsSampled t s).axis i).demand = (s.axis i).demand := by
    rw [ringsSampled_axis]
    split <;> rfl
  simp only [demands, h]

theorem demands_get (s : State) (i : Fin 4) : (demands s).get i = (s.axis i).demand := by
  rw [demands, tab4_get]

/-- The motion faults that the servo sample at `t` finds. -/
def foundFaults (t : Tick) (s : State) : List (Fin 4 × FaultCause) := periodFaults (demands s) (sampled t s)

theorem servo_advance (t : Tick) (s : State) : servo (advance t s) =
    endOfPeriod (sendDrives (demands s) (raiseFaults (foundFaults t s) (sampled t s))) := by
  rw [foundFaults, ← demands_ringsSampled t s]
  rfl

/-- Channel `i` finds in `u` a fault of cause `c`, `p` being its demand of the period before. -/
def Finds (u : State) (p : Int) (i : Fin 4) (c : FaultCause) : Prop :=
  match c with
  | .following => (u.axis i).record.setUp = true ∧ (u.axis i).record.followLimit < (u.axis i).error.natAbs
  | .endMax => (u.pins.channels.get i).atMax = true ∧ p < (u.axis i).demand
  | .endMin => (u.pins.channels.get i).atMin = true ∧ (u.axis i).demand < p
  | .notFound => searchRanOut u i = true
  | .encoder | .overrange => False

theorem mem_sampleFaults {u : State} {p : Int} {i j : Fin 4} {c : FaultCause} :
    (j, c) ∈ sampleFaults u p i ↔ j = i ∧ Finds u p i c := by
  have hite {b : Bool} {d : FaultCause} :
      (j, c) ∈ (if b = true then [(i, d)] else []) ↔ b = true ∧ j = i ∧ c = d := by
    cases b <;> simp
  unfold sampleFaults
  dsimp only
  rw [List.mem_append, List.mem_append, List.mem_append, hite, hite, hite, hite]
  cases c <;> simp [Finds, and_comm]

/-- The place of a fault among those of a sample: by channel, and in a channel in the order of log entry 13. -/
def faultPlace (f : Fin 4 × FaultCause) : Nat :=
  f.1.val * 6 + [FaultCause.following, .endMax, .endMin, .notFound].idxOf f.2

theorem sampleFaults_sorted (u : State) (p : Int) (i : Fin 4) :
    (sampleFaults u p i).Pairwise fun x y => faultPlace x < faultPlace y := by
  have hsub : (sampleFaults u p i).Sublist
      ([(i, .following)] ++ [(i, .endMax)] ++ [(i, .endMin)] ++ [(i, .notFound)]) := by
    have hite (b : Bool) (d : FaultCause) :
        (if b = true then [(i, d)] else []).Sublist [(i, d)] := by cases b <;> simp
    exact (((hite _ _).append (hite _ _)).append (hite _ _)).append (hite _ _)
  refine List.Pairwise.sublist hsub ?_
  have h : [(i, FaultCause.following), (i, .endMax), (i, .endMin), (i, .notFound)].map faultPlace =
      [i.val * 6, i.val * 6 + 1, i.val * 6 + 2, i.val * 6 + 3] := rfl
  refine List.pairwise_map.mp ?_
  show List.Pairwise (· < ·) ([(i, FaultCause.following), (i, .endMax), (i, .endMin), (i, .notFound)].map faultPlace)
  rw [h]
  simp

theorem foundFaults_off {t : Tick} {s : State} (ha : ampOn s = false) : foundFaults t s = [] := by
  rw [foundFaults, periodFaults, ampOn_of_sampleOnly (sampleOnly_sampled t s), ha]
  rfl

theorem foundFaults_on {t : Tick} {s : State} (ha : ampOn s = true) : foundFaults t s =
    (sampled t s).liveAxes.flatMap fun i => sampleFaults (sampled t s) (s.axis i).demand i := by
  rw [foundFaults, periodFaults, ampOn_of_sampleOnly (sampleOnly_sampled t s), ha, if_pos rfl]
  simp only [demands_get]

theorem mem_foundFaults {t : Tick} {s : State} (ha : ampOn s = true) {i : Fin 4} {c : FaultCause} :
    (i, c) ∈ foundFaults t s ↔ s.live i = true ∧ Finds (sampled t s) (s.axis i).demand i c := by
  rw [foundFaults_on ha, List.mem_flatMap]
  constructor
  · rintro ⟨j, hj, hm⟩
    obtain ⟨rfl, hf⟩ := mem_sampleFaults.mp hm
    rw [mem_liveAxes, live_of_sampleOnly (sampleOnly_sampled t s)] at hj
    exact ⟨hj, hf⟩
  · rintro ⟨hl, hf⟩
    refine ⟨i, ?_, mem_sampleFaults.mpr ⟨rfl, hf⟩⟩
    rw [mem_liveAxes, live_of_sampleOnly (sampleOnly_sampled t s)]
    exact hl

theorem liveAxes_sorted (s : State) : s.liveAxes.Pairwise (· < ·) :=
  List.Pairwise.filter _ (by decide : axisIds.Pairwise (· < ·))

theorem foundFaults_sorted {t : Tick} {s : State} (ha : ampOn s = true) :
    (foundFaults t s).Pairwise fun x y => faultPlace x < faultPlace y := by
  rw [foundFaults_on ha, List.pairwise_flatMap]
  refine ⟨fun i _ => sampleFaults_sorted _ _ i, (liveAxes_sorted _).imp fun {i j} hij x hx y hy => ?_⟩
  obtain ⟨i', c⟩ := x
  obtain ⟨j', d⟩ := y
  obtain ⟨rfl, -⟩ := mem_sampleFaults.mp hx
  obtain ⟨rfl, -⟩ := mem_sampleFaults.mp hy
  have hc : [FaultCause.following, .endMax, .endMin, .notFound].idxOf c ≤ 4 := List.idxOf_le_length
  have hlt : i'.val < j'.val := hij
  simp only [faultPlace]
  omega

end Sys2Proof.Machine

namespace Sys2Proof.Machine

/-! ### Faults that take effect one after the other (R9, R14) -/

/-- The state that a motion fault leaves: idle, faulted, its drives dropped. -/
structure Stopped (s : State) : Prop where
  queue : s.motion.queue = []
  inactive : s.probes.change.active = false
  faultPending : s.faultPending = true
  gate : s.gate = .faulted
  driveEnable : s.pins.driveEnable = true
  dropped : dropDrives s = s

theorem axes_ext {u v : State} (h : ∀ i, u.axis i = v.axis i) : u.axes = v.axes := vector_ext_get h

theorem dropDrives_axes_congr {s u : State} (hn : u.axisCount = s.axisCount) (ha : u.axes = s.axes) :
    (dropDrives u).axes = (dropDrives s).axes := by
  have hlive : u.live = s.live := by
    funext i
    simp only [State.live, hn]
  simp only [dropDrives, State.mapAxes, ha, hlive]

theorem stopped_motionFault {s : State} (hp : s.pins.driveEnable = true) (i : Fin 4) (c : FaultCause) :
    Stopped (motionFault i c s) := by
  rw [motionFault_eq]
  generalize hu : ({ s with faultPending := true, gate := if s.pins.driveEnable then .faulted else s.gate } : State) = u
  have hgate : u.gate = .faulted := by rw [← hu]; exact if_pos hp
  have hpending : u.faultPending = true := by rw [← hu]
  have hpins : u.pins.driveEnable = true := by rw [← hu]; exact hp
  obtain ⟨hq, ha⟩ := idle_powerCut (o := .motionFault) (by decide) .motionFault u
  have honly := motionOnly_powerCut .motionFault .motionFault u
  refine ⟨hq, ha, honly.faultPending.trans hpending, honly.gate.trans hgate, ?_, ?_⟩
  · exact (congrArg (fun p : Pins => p.driveEnable) honly.pins).trans hpins
  · have hd : (dropDrives (powerCut .motionFault .motionFault u)).axes =
        (powerCut .motionFault .motionFault u).axes := by
      refine axes_ext fun k => ?_
      have hlive : (powerCut .motionFault .motionFault u).live k = u.live k := by
        simp only [State.live, honly.axisCount, dropDrives_axisCount]
      rw [dropDrives_axis, powerCut_axis, hlive, dropDrives_axis]
      cases u.live k <;> rfl
    exact congrArg (fun ax => latchNotice _ { powerCut .motionFault .motionFault u with axes := ax }) hd

theorem motionFault_stopped {s : State} (h : Stopped s) (i : Fin 4) (c : FaultCause) :
    motionFault i c s = latchNotice (.motionFault i c) s := by
  have hs : ({ s with faultPending := true, gate := if s.pins.driveEnable then .faulted else s.gate } : State) = s := by
    rw [h.driveEnable, if_pos rfl, ← h.gate, ← h.faultPending]
  rw [motionFault_eq, hs, powerCut, h.dropped, changePowerLost_inactive h.inactive, endAtOnce_nil h.queue,
    finishChange_of_inactive h.inactive]

theorem Stopped.latch {s : State} (h : Stopped s) (n : Notice) : Stopped (latchNotice n s) :=
  ⟨h.queue, h.inactive, h.faultPending, h.gate, h.driveEnable, congrArg (latchNotice n) h.dropped⟩

/-- Further faults only latch themselves. -/
theorem raiseFaults_stopped (fs : List (Fin 4 × FaultCause)) {s : State} (h : Stopped s) :
    Stopped (raiseFaults fs s) ∧
    raiseFaults fs s = { s with notices := (raiseFaults fs s).notices } ∧
    (raiseFaults fs s).notices.get 1 = fs.foldl (fun l f => l.event (.motionFault f.1 f.2)) (s.notices.get 1) ∧
    ∀ k, k ≠ 1 → (raiseFaults fs s).notices.get k = s.notices.get k := by
  induction fs generalizing s with
  | nil => exact ⟨h, rfl, rfl, fun k _ => rfl⟩
  | cons f fs ih =>
    have hf : raiseFaults (f :: fs) s = raiseFaults fs (latchNotice (.motionFault f.1 f.2) s) := by
      rw [← motionFault_stopped h]
      rfl
    obtain ⟨hst, hkept, hone, hother⟩ := ih (h.latch (.motionFault f.1 f.2))
    rw [hf]
    refine ⟨hst, hkept, ?_, fun k hk => ?_⟩
    · rw [hone, latchNotice_at (n := .motionFault f.1 f.2) (k := 1) rfl]
      rfl
    · rw [hother k hk, latchNotice_other (n := .motionFault f.1 f.2) hk.symm]

/-- What the faults of a sample make of the state `s` in which they are found. -/
structure Faulted (fs : List (Fin 4 × FaultCause)) (s v : State) : Prop extends Stopped v where
  axes : ∀ k, v.axis k = (dropDrives s).axis k
  only : MotionOnly (dropDrives s) { v with faultPending := s.faultPending, gate := s.gate }
  latched : v.notices.get 1 = fs.foldl (fun l f => l.event (.motionFault f.1 f.2)) (s.notices.get 1)
  ended : ∀ seg rest, s.motion.queue = seg :: rest → seg.issuer = .room → v.notices.get 6 =
    (s.notices.get 6).event (.segmentEnd seg.number .motionFault (min 7 (seg.flushed + rest.length)))

theorem faulted_raiseFaults {s : State} (hp : s.pins.driveEnable = true) {fs : List (Fin 4 × FaultCause)}
    (hfs : fs ≠ []) : Faulted fs s (raiseFaults fs s) := by
  cases fs with
  | nil => exact absurd rfl hfs
  | cons f fs =>
    have hstop := stopped_motionFault hp f.1 f.2
    have hu := motionFault_eq f.1 f.2 s
    generalize hcut : powerCut .motionFault .motionFault
      { s with faultPending := true, gate := if s.pins.driveEnable then .faulted else s.gate } = w at hu
    have honly := motionOnly_powerCut .motionFault .motionFault
      { s with faultPending := true, gate := if s.pins.driveEnable then .faulted else s.gate }
    have hnotices := noticesKept_powerCut (o := .motionFault) (by decide) .motionFault
      { s with faultPending := true, gate := if s.pins.driveEnable then .faulted else s.gate }
    rw [hcut] at honly hnotices
    obtain ⟨hst, hkept, hone, hother⟩ := raiseFaults_stopped fs hstop
    rw [show raiseFaults (f :: fs) s = raiseFaults fs (motionFault f.1 f.2 s) from rfl]
    refine { hst with axes := fun k => ?_, only := ?_, latched := ?_, ended := fun seg rest hq hi => ?_ }
    · rw [hkept, hu, State.axis]
      show w.axes.get k = _
      rw [honly.axes]
      rfl
    · rw [hkept, hu]
      exact { honly with faultPending := rfl, gate := rfl }
    · rw [hone, hu, latchNotice_at (n := .motionFault f.1 f.2) (k := 1) rfl,
        hnotices 1 (by decide) (by decide) (by decide)]
      rfl
    · rw [hother 6 (by decide), hu, latchNotice_other (n := .motionFault f.1 f.2) (show (1 : Fin 9) ≠ 6 by decide),
        ← hcut]
      exact powerCut_segmentEnd hq hi

end Sys2Proof.Machine

namespace Sys2Proof.Machine

/-! ### The servo sample as a whole (R13, R14) -/

theorem driveEnable_of_ampOn {s : State} (h : ampOn s = true) : s.pins.driveEnable = true := by
  simp only [ampOn, Bool.and_eq_true] at h
  exact h.1.1.2

theorem ampOn_of_stopped {s : State} (h : Stopped s) : ampOn s = false := by
  simp [ampOn, h.gate]

theorem Stopped.axis {s : State} (h : Stopped s) (k : Fin 4) : s.axis k =
    if s.live k then { s.axis k with demand := (s.axis k).position, driveOut := 0, followErr := 0 } else s.axis k := by
  rw [← dropDrives_axis, h.dropped]

theorem sendDrives_stopped {s : State} (h : Stopped s) (p : Vector Int 4) : sendDrives p s = s := by
  have haxes : (sendDrives p s).axes = s.axes := by
    refine axes_ext fun k => ?_
    rw [sendDrives, State.axis_mapAxes, ampOn_of_stopped h]
    have hk := h.axis k
    cases hl : s.live k with
    | false => rfl
    | true =>
      rw [hl, if_pos rfl] at hk
      rw [hk]
      rfl
  exact congrArg (fun ax => { s with axes := ax }) haxes

/-- Where faults are found they are all that follows the demands. -/
theorem servo_faulty {t : Tick} {s : State} (h : foundFaults t s ≠ []) :
    servo (advance t s) = raiseFaults (foundFaults t s) (sampled t s) ∧
      Faulted (foundFaults t s) (sampled t s) (servo (advance t s)) := by
  have ha : ampOn s = true := by
    rw [← Bool.not_eq_false]
    exact fun hoff => h (foundFaults_off hoff)
  have hpins : (sampled t s).pins.driveEnable = true :=
    driveEnable_of_ampOn ((ampOn_of_sampleOnly (sampleOnly_sampled t s)).trans ha)
  have hf := faulted_raiseFaults hpins h
  have heq : servo (advance t s) = raiseFaults (foundFaults t s) (sampled t s) := by
    rw [servo_advance, sendDrives_stopped hf.toStopped, endOfPeriod, hf.queue]
  exact ⟨heq, heq ▸ hf⟩

/-- The state of a sample without faults before a segment ends. -/
def drivesSent (t : Tick) (s : State) : State := sendDrives (demands s) (sampled t s)

theorem servo_sound {t : Tick} {s : State} (h : foundFaults t s = []) :
    servo (advance t s) = endOfPeriod (drivesSent t s) := by
  rw [servo_advance, h]
  rfl

theorem sampleOnly_drivesSent (t : Tick) (s : State) : SampleOnly t s (drivesSent t s) := by
  unfold drivesSent sendDrives
  exact (sampleOnly_sampled t s).mapAxes _

theorem drivesSent_queue (t : Tick) (s : State) : (drivesSent t s).motion.queue = drivenQueue t s := sampled_queue t s

/-- A live channel once its drive demand is sent (R11, R13). -/
def sentAxis (t : Tick) (s : State) (i : Fin 4) : Axis :=
  if ampOn s = true then { sampledAxis t s i with
    followErr := (sampledAxis t s i).error, driveOut := driveDemand (s.axis i).demand (sampledAxis t s i) }
  else { sampledAxis t s i with followErr := 0, driveOut := 0 }

theorem drivesSent_axis (t : Tick) (s : State) (i : Fin 4) :
    (drivesSent t s).axis i = if s.live i = true then sentAxis t s i else s.axis i := by
  rw [drivesSent, sendDrives, State.axis_mapAxes, live_of_sampleOnly (sampleOnly_sampled t s),
    ampOn_of_sampleOnly (sampleOnly_sampled t s), sampled_axis, demands_get, sentAxis]
  cases s.live i with
  | false => rfl
  | true => rfl

theorem servo_axis {t : Tick} {s : State} (h : foundFaults t s = []) (i : Fin 4) :
    (servo (advance t s)).axis i = if s.live i = true then sentAxis t s i else s.axis i := by
  rw [servo_sound h, State.axis, (motionOnly_endOfPeriod _).axes]
  exact drivesSent_axis t s i

theorem servo_ampOn {t : Tick} {s : State} (h : foundFaults t s = []) : ampOn (servo (advance t s)) = ampOn s := by
  rw [servo_sound h, (motionOnly_endOfPeriod _).ampOn, ampOn_of_sampleOnly (sampleOnly_drivesSent t s)]

/-- A live channel of a faulty sample: its sample in the ring and its drive dropped. -/
theorem servo_axis_faulty {t : Tick} {s : State} (h : foundFaults t s ≠ []) (i : Fin 4) :
    (servo (advance t s)).axis i = if s.live i = true then
      { sampledAxis t s i with demand := (s.axis i).position, driveOut := 0, followErr := 0 } else s.axis i := by
  rw [(servo_faulty h).2.axes, dropDrives_axis, live_of_sampleOnly (sampleOnly_sampled t s), sampled_axis]
  cases s.live i with
  | false => rfl
  | true => rfl

/-- What a servo sample leaves as it was. -/
theorem servo_kept (t : Tick) (s : State) : let v := servo (advance t s)
    v.latch = s.latch ∧ v.pins = s.pins ∧ v.thermal = s.thermal ∧ v.station = s.station ∧ v.axisCount = s.axisCount ∧
      v.pending = s.pending := by
  intro v
  by_cases h : foundFaults t s = []
  · have hm : MotionOnly (drivesSent t s) v := by
      show MotionOnly _ (servo (advance t s))
      rw [servo_sound h]
      exact motionOnly_endOfPeriod _
    have hS := sampleOnly_drivesSent t s
    rw [SampleOnly] at hS
    rw [hS] at hm
    exact ⟨hm.latch, hm.pins, hm.thermal, hm.station, hm.axisCount, hm.pending⟩
  · have hm := (servo_faulty h).2.only
    have hS := sampleOnly_sampled t s
    rw [SampleOnly] at hS
    rw [hS] at hm
    exact ⟨hm.latch, hm.pins, hm.thermal, hm.station, hm.axisCount, hm.pending⟩

/-! ### Settling O8 -/

/-- A live channel after a servo sample. -/
theorem servo_live {t : Tick} {s : State} {i : Fin 4} (hi : s.live i = true) :
    let v := servo (advance t s)
    v.axis i = { appendSample t (s.axis i) with
      demand := (v.axis i).demand, followErr := (v.axis i).followErr, driveOut := (v.axis i).driveOut } ∧
    (ampOn v = true →
      (v.axis i).followErr = (v.axis i).demand - (s.axis i).position ∧
      (v.axis i).driveOut = max (-32767) (min 32767
        (4 * ((v.axis i).demand - (s.axis i).demand) + roundDiv ((v.axis i).demand - (s.axis i).position) 64)) ∧
      ((s.axis i).record.setUp = true →
        ((v.axis i).demand - (s.axis i).position).natAbs ≤ (s.axis i).record.followLimit)) ∧
    (ampOn v = false →
      (v.axis i).demand = (s.axis i).position ∧ (v.axis i).driveOut = 0 ∧ (v.axis i).followErr = 0) := by
  intro v
  by_cases hf : foundFaults t s = []
  · have hv : v.axis i = sentAxis t s i := (servo_axis hf i).trans (if_pos hi)
    have hamp : ampOn v = ampOn s := servo_ampOn hf
    rw [hv, hamp, sentAxis]
    cases ha : ampOn s with
    | true =>
      refine ⟨rfl, fun _ => ⟨rfl, rfl, fun hset => ?_⟩, nofun⟩
      have hno : ¬ Finds (sampled t s) (s.axis i).demand i .following := fun h => by
        have hm := (mem_foundFaults ha).mpr ⟨hi, h⟩
        rw [hf] at hm
        cases hm
      rw [Finds, sampled_axis, if_pos hi] at hno
      exact Nat.le_of_not_lt fun hlt => hno ⟨hset, hlt⟩
    | false =>
      refine ⟨rfl, nofun, fun _ => ⟨?_, rfl, rfl⟩⟩
      show newDemand t s i = _
      rw [newDemand, ha]
      rfl
  · have hv : v.axis i = _ := (servo_axis_faulty hf i).trans (if_pos hi)
    have hamp : ampOn v = false := ampOn_of_stopped (servo_faulty hf).2.toStopped
    rw [hv, hamp]
    exact ⟨rfl, nofun, fun _ => ⟨rfl, rfl, rfl⟩⟩

theorem servo_inert {t : Tick} {s : State} {i : Fin 4} (hi : s.live i = false) :
    (servo (advance t s)).axis i = s.axis i := by
  by_cases hf : foundFaults t s = []
  · rw [servo_axis hf, hi]
    rfl
  · rw [servo_axis_faulty hf, hi]
    rfl

/-- The search that runs out in the sample is the one whose segment has travelled too far (R18). -/
theorem searchRanOut_sampled {t : Tick} {s : State} (ha : ampOn s = true) (i : Fin 4) :
    searchRanOut (sampled t s) i = true ↔ ∃ seg rest, s.motion.queue = seg :: rest ∧ seg.kind = .reference ∧
      seg.axis = i ∧ seg.state = .moving ∧ seg.traj.marked = false ∧
      2147483647 < roundDiv (stepSegment (advance t s) seg).traj.s 65536 := by
  unfold searchRanOut
  rw [sampled_queue, drivenQueue]
  cases hq : s.motion.queue with
  | nil => exact ⟨nofun, fun ⟨_, _, h, _⟩ => nomatch h⟩
  | cons seg rest =>
    dsimp only
    by_cases hm : seg.state = .moving
    · have hd : driven t s seg = stepSegment (advance t s) seg := if_pos ⟨ha, by simp [Segment.driving, hm]⟩
      rw [hd]
      simp only [stepSegment_kind, stepSegment_state, stepSegment_traj_marked, stepSegment_axis, Bool.and_eq_true,
        beq_iff_eq, Bool.not_eq_true', decide_eq_true_eq]
      constructor
      · rintro ⟨⟨⟨⟨hk, hst⟩, hmk⟩, hax⟩, hlt⟩
        exact ⟨seg, rest, rfl, hk, hax, hst, hmk, hlt⟩
      · rintro ⟨seg', rest', hs, hk, hax, hst, hmk, hlt⟩
        cases hs
        exact ⟨⟨⟨⟨hk, hst⟩, hmk⟩, hax⟩, hlt⟩
    · have hst : (driven t s seg).state = seg.state := by
        unfold driven
        split
        · exact stepSegment_state _ _
        · rfl
      constructor
      · intro h
        simp only [hst, Bool.and_eq_true, beq_iff_eq] at h
        exact absurd h.1.1.1.2 hm
      · rintro ⟨seg', rest', hs, -, -, hst', -⟩
        cases hs
        exact absurd hst' hm

theorem sampled_notices (t : Tick) (s : State) : (sampled t s).notices = s.notices := by
  have hS := sampleOnly_sampled t s
  rw [SampleOnly] at hS
  rw [hS]
  rfl

theorem driven_fields (t : Tick) (s : State) (seg : Segment) : (driven t s seg).number = seg.number ∧
    (driven t s seg).issuer = seg.issuer ∧ (driven t s seg).flushed = seg.flushed := by
  unfold driven
  split
  · exact ⟨stepSegment_number _ _, stepSegment_issuer _ _, stepSegment_flushed _ _⟩
  · exact ⟨rfl, rfl, rfl⟩

/-- Settles O8: the sample of a live channel by `servo_live`, the faults it finds by `mem_foundFaults`, and what they
leave by `Faulted`. -/
theorem servoSampleFillsRingsAndDrives : Obligations.ServoSampleFillsRingsAndDrives := by
  refine ⟨fun t s hr => ⟨_, next_timed hr rfl, fun i hi => ?_, fun i hi => ?_, ?_⟩, fun t s hr => ?_⟩
  · obtain ⟨haxis, hon, hoff⟩ := servo_live (t := t) hi
    have hax : (finish (servo (advance t s))).axis i = (servo (advance t s)).axis i := by
      rw [State.axis, finish_axes]
      rfl
    rw [finish_ampOn, hax]
    refine ⟨?_, ?_, ?_, ?_, ?_, hon, hoff⟩ <;> rw [haxis] <;> rfl
  · rw [State.axis, finish_axes]
    exact servo_inert hi
  · obtain ⟨hlatch, hpins, hthermal, hstation, hcount, hpend⟩ := servo_kept t s
    rw [finish_latch, finish_pins, finish_thermal, finish_station, finish_axisCount, finish_pending]
    exact ⟨hlatch, hpins, hthermal, hstation, hcount, hpend⟩
  · intro a demand ranOut finds fs order
    refine ⟨fun ha => foundFaults_off ha, fun ha => ?_⟩
    have hdemand (i : Fin 4) : newDemand t s i = demand i := by
      rw [newDemand, if_pos ha]
      show _ = (match s.motion.queue with
        | [] => (s.axis i).demand
        | seg :: _ => if seg.state = SegState.moving ∨ seg.state = SegState.stopping then
            fit32 a.freeIx (pathDemand s (stepSegment a seg) i) else (s.axis i).demand)
      cases s.motion.queue with
      | nil => rfl
      | cons seg rest => simp only [Segment.driving, Bool.or_eq_true, beq_iff_eq]; rfl
    have hsampled (i : Fin 4) (hi : s.live i = true) : (sampled t s).axis i = { appendSample t (s.axis i) with
        demand := demand i } := by
      rw [sampled_axis, if_pos hi, sampledAxis, hdemand]
    have hpins : (sampled t s).pins = s.pins := by
      have hS := sampleOnly_sampled t s
      rw [SampleOnly] at hS
      rw [hS]
      rfl
    have hfinds (i : Fin 4) (hi : s.live i = true) (c : FaultCause) :
        Finds (sampled t s) (s.axis i).demand i c ↔ finds i c := by
      cases c with
      | notFound => exact searchRanOut_sampled ha i
      | encoder | overrange => exact Iff.rfl
      | following => exact iff_of_eq (congrArg (fun x : Axis =>
          x.record.setUp = true ∧ x.record.followLimit < x.error.natAbs) (hsampled i hi))
      | endMax => exact iff_of_eq (congrArg₂ (fun (p : Pins) (x : Axis) =>
          (p.channels.get i).atMax = true ∧ (s.axis i).demand < x.demand) hpins (hsampled i hi))
      | endMin => exact iff_of_eq (congrArg₂ (fun (p : Pins) (x : Axis) =>
          (p.channels.get i).atMin = true ∧ x.demand < (s.axis i).demand) hpins (hsampled i hi))
    refine ⟨fun i hi => by rw [hsampled i hi], fun i c => (mem_foundFaults ha).trans
      (and_congr_right fun hi => hfinds i hi c), foundFaults_sorted ha, fun hne => ?_⟩
    obtain ⟨-, hf⟩ := servo_faulty (t := t) hne
    refine ⟨_, next_timed hr rfl, hf.faultPending, hf.gate, ampOn_of_stopped hf.toStopped, hf.queue, hf.inactive,
      fun i hi => ?_, ?_, fun seg rest hq hi => ?_⟩
    · rw [servo_axis_faulty hne, if_pos hi]
      exact ⟨rfl, rfl⟩
    · rw [hf.latched, sampled_notices]
      rfl
    · have hq' : (sampled t s).motion.queue = driven t s seg :: rest := by rw [sampled_queue, drivenQueue, hq]
      obtain ⟨hn, hi', hfl⟩ := driven_fields t s seg
      rw [hf.ended _ rest hq' (hi'.trans hi), hn, hfl]
      exact event_detail _ _

end Sys2Proof.Machine

/-! The phases of a probe change, one by one (R135 to R139): what begins a phase, what it issues, what ends it. -/

namespace Sys2Proof.Machine

/-! ### Rack segments (R134) -/

/-- The insert target of a port, on an approach axis (R130). -/
def insertPoint (s : State) (p : Fin 8) (k : Fin 3) : Int := (s.probes.ports.get p).approach.get k +
  (if approachIx? s (s.probes.ports.get p).insertAxis = some k then (s.probes.ports.get p).insertDepth else 0)

/-- Phase `ph` runs in `v` with one segment, issued on the ground of `s`. -/
def Issued (s v : State) (ph : Phase) (kind : SegKind) (pt : Fin 3 → Int) (speed : Nat) : Prop :=
  v.probes.change.phase = some ph ∧ v.probes.change.active = true ∧ v.probes.change.result = none ∧
    ∃ seg, v.motion.queue = [seg] ∧ seg.kind = kind ∧ seg.issuer = .probeUnit ∧ seg.state = .waiting ∧
      seg.number = s.motion.counter ∧ seg.speed = speed ∧ seg.searchEnd = none ∧
      ∀ i, seg.targets.get i = match approachIx? s i with
        | some k => pt k
        | none => (s.axis i).demand

/-- What a rack segment is made from stands in `u` as in `s`. -/
structure Ground (s u : State) : Prop where
  axes : u.axes = s.axes
  axisCount : u.axisCount = s.axisCount
  motion : u.motion = s.motion
  station : u.station = s.station
  ports : u.probes.ports = s.probes.ports
  change : u.probes.change = s.probes.change

theorem Ground.approachIx? {s u : State} (h : Ground s u) : approachIx? u = approachIx? s := funext fun i => by
  simp only [Machine.approachIx?, approachAxes_congr h.axes h.axisCount]

/-- A change in progress that has taken no outcome, with no segment of its own under way. -/
structure Between (s : State) : Prop where
  active : s.probes.change.active = true
  undecided : s.probes.change.result = none
  queue : s.motion.queue = []

theorem Ground.between {s u : State} (hg : Ground s u) (h : Between s) : Between u :=
  ⟨by rw [hg.change, h.active], by rw [hg.change, h.undecided], by rw [hg.motion, h.queue]⟩

theorem issueRack_issued {s u : State} {ph : Phase} {kind : SegKind} {v : Vector Int 3} {pt : Fin 3 → Int}
    {speed : Nat} (hb : Between s) (hg : Ground s u) (hv : ∀ k, v.get k = pt k) :
    Issued s (issueRack kind v speed (enterPhase ph none u)) ph kind pt speed := by
  have hq : (enterPhase ph none u).motion.queue = [] := by
    rw [enterPhase_motion, hg.motion, hb.queue]
  have hchange : (issueRack kind v speed (enterPhase ph none u)).probes.change =
      { s.probes.change with phase := some ph, timer := none, segArrived := false, readBegun := false } := by
    rw [issueRack, enqueue_probes, enterPhase_probes, hg.change]
    rfl
  refine ⟨by rw [hchange], by rw [hchange]; exact hb.active, by rw [hchange]; exact hb.undecided, _,
    by rw [issueRack, enqueue_empty hq], rfl, rfl, rfl, congrArg Sequencer.counter hg.motion, rfl, rfl, fun i => ?_⟩
  have hpoint : (rackTargets (enterPhase ph none u) v).get i = (rackTargets s v).get i :=
    congrArg (fun w : Vector Int 4 => w.get i) (rackTargets_congr hg.axes hg.axisCount v)
  refine hpoint.trans ((rackTargets_get s v i).trans ?_)
  cases Machine.approachIx? s i with
  | none => rfl
  | some k => exact hv k

theorem issueInsert_issued {s u : State} {ph : Phase} {p : Fin 8} (hb : Between s) (hg : Ground s u) :
    Issued s (issueInsert (some p) (enterPhase ph none u)) ph .rackInsert (insertPoint s p) s.station.probeCap := by
  have hcap : (enterPhase ph none u).station.probeCap = s.station.probeCap := by rw [enterPhase_station, hg.station]
  rw [← hcap]
  refine issueRack_issued hb hg fun k => ?_
  have hix : Machine.approachIx? (enterPhase ph none u) = Machine.approachIx? s := hg.approachIx?
  rw [insertTarget_get, hix, enterPhase_probes, insertPoint, ← hg.ports]

theorem issueBack_issued {s u : State} {ph : Phase} {p : Fin 8} (hb : Between s) (hg : Ground s u) :
    Issued s (issueBack (some p) (enterPhase ph none u)) ph .rackInsert (s.probes.ports.get p).approach.get
      s.station.probeCap := by
  have hcap : (enterPhase ph none u).station.probeCap = s.station.probeCap := by rw [enterPhase_station, hg.station]
  rw [← hcap]
  refine issueRack_issued hb hg fun k => ?_
  rw [enterPhase_probes, ← hg.ports]

theorem issueTravel_issued {s u : State} {ph : Phase} {p : Fin 8} (hb : Between s) (hg : Ground s u) :
    Issued s (issueTravel (some p) (enterPhase ph none u)) ph .rackTravel (s.probes.ports.get p).approach.get
      (travelSpeed s) := by
  have hspeed : travelSpeed (enterPhase ph none u) = travelSpeed s := travelSpeed_congr hg.axes hg.axisCount
  rw [← hspeed]
  refine issueRack_issued hb hg fun k => ?_
  rw [enterPhase_probes, ← hg.ports]

theorem issueInsert_table (ph : Phase) (p : Option (Fin 8)) (u : State) :
    (issueInsert p (enterPhase ph none u)).probes.table = u.probes.table :=
  (congrArg ProbeUnit.table (issueInsert_probes p (enterPhase ph none u))).trans rfl

theorem issueBack_table (ph : Phase) (p : Option (Fin 8)) (u : State) :
    (issueBack p (enterPhase ph none u)).probes.table = u.probes.table :=
  (congrArg ProbeUnit.table (issueBack_probes p (enterPhase ph none u))).trans rfl

theorem issueTravel_table (ph : Phase) (p : Option (Fin 8)) (u : State) :
    (issueTravel p (enterPhase ph none u)).probes.table = u.probes.table :=
  (congrArg ProbeUnit.table (issueTravel_probes p (enterPhase ph none u))).trans rfl

/-! ### The inputs that end a phase (R135 to R139) -/

section
variable {s : State} (ha : s.probes.change.active = true) (hr : s.probes.change.result = none)
include ha hr

theorem inputsChanged_openDrop {d : Fin 8} (hph : s.probes.change.phase = some .openDrop)
    (hd : s.probes.change.drop = some d) (hl : lidState s d = .opened) :
    inputsChanged s = issueInsert (some d) (enterPhase .insert none s) := by
  simp [inputsChanged, ha, hr, hph, hd, lidIs, hl, beginInsert]

theorem inputsChanged_unlock {d : Fin 8} (hph : s.probes.change.phase = some .unlock)
    (hd : s.probes.change.drop = some d) (hl : lockState s = .unlocked) :
    inputsChanged s = issueBack (some d) (enterPhase .detach none s) := by
  simp [inputsChanged, ha, hr, hph, hd, hl, beginDetach]

theorem inputsChanged_closeDrop {d q : Fin 8} (hph : s.probes.change.phase = some .closeDrop)
    (hd : s.probes.change.drop = some d) (hk : s.probes.change.pick = some q) (hl : lidState s d = .closed) :
    inputsChanged s = issueTravel (some q) (enterPhase .travelPick none s) := by
  simp [inputsChanged, ha, hr, hph, hd, hk, lidIs, hl, beginTravelPick]

theorem inputsChanged_openPick {q : Fin 8} (hph : s.probes.change.phase = some .openPick)
    (hk : s.probes.change.pick = some q) (hl : lidState s q = .opened) (hlock : lockState s = .unlocked) :
    inputsChanged s = issueInsert (some q) (enterPhase .engage none s) := by
  simp [inputsChanged, ha, hr, hph, hk, lidIs, hl, hlock, beginEngage]

theorem inputsChanged_lock (hph : s.probes.change.phase = some .lock) (hl : lockState s = .locked) :
    inputsChanged s = lockEnded s := by
  simp [inputsChanged, ha, hr, hph, hl]

theorem inputsChanged_closePick {q : Fin 8} (hph : s.probes.change.phase = some .closePick)
    (hk : s.probes.change.pick = some q) (hl : lidState s q = .closed) : inputsChanged s = closePickEnded s := by
  simp [inputsChanged, ha, hr, hph, hk, lidIs, hl]

end

/-- A lid without the head before it is an input like the others (R131). -/
theorem lidChanged_away {p : Fin 8} {a s : State} (h : headStands s.probes.change p = false) :
    lidChanged p a s = inputsChanged s := by
  simp [lidChanged, h]

/-- The state once the input levels are `x`. -/
def pinned (t : Tick) (s : State) (x : Pins) : State := { advance t s with pins := x }

/-- The level inputs of a lid, written. -/
def lidPins (p : Fin 8) (openIn closedIn : Bool) (x : Pins) : Pins :=
  mapPortPins p (fun y => { y with openIn := openIn, closedIn := closedIn }) x

theorem lidPins_get (p : Fin 8) (o c : Bool) (x : Pins) :
    (lidPins p o c x).ports.get p = { x.ports.get p with openIn := o, closedIn := c } := by
  simp [lidPins, mapPortPins, vector_get_set]

/-- A lid input that goes active, away from the head, is looked at by the phase that waits for it. -/
theorem exec_lid_away {t : Tick} {s : State} {p : Fin 8} {o c : Bool} (hr : s.inReset = false)
    (hne : (s.pins.ports.get p).openIn ≠ o ∨ (s.pins.ports.get p).closedIn ≠ c)
    (hh : headStands s.probes.change p = false) : exec (.lidStateInput p o c t) s =
      .next (finish (inputsChanged (pinned t s (lidPins p o c s.pins)))) := by
  refine next_input_edge hr (fun h => ?_) (lidChanged_away hh)
  have hget := lidPins_get p o c s.pins
  rw [show lidPins p o c s.pins = s.pins from h] at hget
  rcases hne with hne | hne
  · exact hne (congrArg PortPins.openIn hget)
  · exact hne (congrArg PortPins.closedIn hget)

/-- The level inputs of the lock, written. -/
def lockPins (locked unlocked : Bool) (x : Pins) : Pins := { x with locked := locked, unlocked := unlocked }

/-- A change of the lock inputs is looked at by the phase that waits for it. -/
theorem exec_lock {t : Tick} {s : State} {l u : Bool} (hr : s.inReset = false)
    (hne : ¬(s.pins.locked = l ∧ s.pins.unlocked = u)) : exec (.lockStateInput l u t) s =
      .next (finish (inputsChanged (pinned t s (lockPins l u s.pins)))) :=
  next_input_edge hr
    (fun h => hne ⟨(congrArg Pins.locked h).symm, (congrArg Pins.unlocked h).symm⟩) rfl

theorem ground_pinned (t : Tick) (s : State) (x : Pins) : Ground s (pinned t s x) :=
  ⟨rfl, rfl, rfl, rfl, rfl, rfl⟩

theorem lidState_pinned (t : Tick) (s : State) (p : Fin 8) (o c : Bool) :
    lidState (pinned t s (lidPins p o c s.pins)) p =
      if (s.probes.ports.get p).lidOpen = true then (if o = true then .opened else .opening)
      else if c = true then .closed else .closing := by
  have hget : (lidPins p o c s.pins).ports.get p = { s.pins.ports.get p with openIn := o, closedIn := c } :=
    lidPins_get p o c s.pins
  simp only [lidState, pinned, hget]
  rfl

end Sys2Proof.Machine

namespace Sys2Proof.Machine

/-! ### A phase that decides by a read (R136, R139) -/

/-- The change that ran in `s` has ended in `v` with outcome `r` (R146). -/
def Ends (s v : State) (r : ChangeResult) : Prop :=
  v.motion.queue = [] ∧ v.probes.change = Change.idle (some r) ∧
    v.notices.get 4 = (s.notices.get 4).event (.probeChangeEnd s.probes.change.target r)

/-- Every record of the non-zero id `id` is at `l` in `v`, and the others are as in `s`. -/
def Located (s v : State) (id : Nat) (l : Location) : Prop := ∀ i, v.probes.table.get i =
  if id ≠ 0 ∧ (s.probes.table.get i).id = id then { s.probes.table.get i with location := l }
  else s.probes.table.get i

theorem failEnded_empty {cause : ChangeCause} {n : Nat} {s : State} (h : Between s) : failEnded cause n s =
    endChange (phaseResult .failed cause n s.probes.change) (failTaken cause n s) :=
  finishChange_empty (by rw [failTaken_queue, h.queue]) (by rw [failTaken_change]; exact h.active)
    (by rw [failTaken_change]; rfl)

/-- A phase without a segment fails on the ground of `s`. -/
theorem failEnded_ends {cause : ChangeCause} {n : Nat} {s u : State} (h : Between s) (hg : Ground s u)
    (hn : u.notices = s.notices) :
    Ends s (failEnded cause n u) (phaseResult .failed cause n s.probes.change) := by
  have hb : Between u := hg.between h
  rw [failEnded_empty hb, hg.change]
  refine ⟨by rw [endChange_motion, failTaken_queue, hb.queue], ?_, ?_⟩
  · rw [endChange_probes, failTaken_change, hg.change]
    rfl
  · rw [endChange_get, if_pos rfl, failTaken_get, if_neg (fun h5 => absurd h5.1 (by decide)), failTaken_change,
      hg.change, hn]
    rfl

theorem failEnded_probes {cause : ChangeCause} {n : Nat} {s : State} (h : Between s) :
    (failEnded cause n s).probes.table = (failTaken cause n s).probes.table ∧
    (failEnded cause n s).probes.ports = (failTaken cause n s).probes.ports ∧
    (failEnded cause n s).probes.identity = s.probes.identity ∧
    (failEnded cause n s).probes.unlockOut = s.probes.unlockOut := by
  rw [failEnded_empty h, endChange_probes]
  refine ⟨rfl, rfl, ?_, ?_⟩ <;> rw [failTaken_probes]

theorem failEnded_located {cause : ChangeCause} {n : Nat} {s : State} (h : Between s) :
    Located s (failEnded cause n s) (unsureId s.probes.change) .unknown := fun i => by
  rw [(failEnded_probes h).1, failTaken_table]

theorem failEnded_lids {cause : ChangeCause} {n : Nat} {s : State} (h : Between s) (p : Fin 8) :
    (failEnded cause n s).probes.ports.get p = { s.probes.ports.get p with
      lidOpen := (s.probes.ports.get p).lidOpen && (inCommit s || headStands s.probes.change p) } := by
  rw [(failEnded_probes h).2.1, failTaken_ports]

/-- In a commit stretch the lids stand. -/
theorem failEnded_ports {cause : ChangeCause} {n : Nat} {s : State} (h : Between s) (hc : inCommit s = true) :
    (failEnded cause n s).probes.ports = s.probes.ports := by
  refine vector_ext_get fun p => ?_
  rw [failEnded_lids h, hc, Bool.true_or, Bool.and_true]

theorem finishChange_identity (s : State) : (finishChange s).probes.identity = s.probes.identity := by
  rcases finishChange_cases s with h | ⟨r, -, -, -, h⟩
  · rw [h]
  · rw [h, endChange_probes]

/-- The outcome of a change that has done all its phases (R140). -/
def doneResult : ChangeResult := { outcome := .done, phase := 0, cause := .none, idRead := 0 }

theorem closePickEnded_eq {s : State} (h : Between s) :
    closePickEnded s = endChange doneResult (takeResult doneResult s) := finishChange_empty h.queue h.active rfl

/-- A stretch that ends with nothing deferred (R143). -/
theorem stretchEnded_next {proven : Bool} {next : State → State} {s : State} (hd : s.probes.change.deferred = .none)
    (he : s.probes.change.expiry = .none) : stretchEnded proven next s = next s := by
  rw [stretchEnded, if_pos hd, takeDeferredExpiry_none he]

/-- A stretch that ends with a cause deferred (R143). -/
theorem stretchEnded_aborts {proven : Bool} {next : State → State} {s : State}
    (hd : s.probes.change.deferred ≠ .none) : stretchEnded proven next s =
      finishChange (takeDeferredExpiry (abortTaken s.probes.change.deferred proven s)) := if_neg hd

/-- The state once a read of `id` has completed (R129). -/
def readDone (id : Byte) (t : Tick) (s : State) : State :=
  { advance t s with probes := { s.probes with identity := id.toNat, reading := false } }

theorem readComplete_reading {id : Byte} {t : Tick} {s : State} (h : s.probes.reading = true) :
    readComplete id (advance t s) = identityRead (readDone id t s) := if_pos h

theorem ground_readDone (id : Byte) (t : Tick) (s : State) : Ground s (readDone id t s) :=
  ⟨rfl, rfl, rfl, rfl, rfl, rfl⟩

theorem identityRead_unbegun {s : State} (h : s.probes.change.readBegun = false) : identityRead s = s := by
  simp [identityRead, h]

section
variable {s : State} (ha : s.probes.change.active = true) (hr : s.probes.change.result = none)
  (hbegun : s.probes.change.readBegun = true)
include ha hr hbegun

theorem identityRead_detach (hph : s.probes.change.phase = some .detach) : identityRead s = detachCheck s := by
  simp [identityRead, ha, hr, hbegun, hph]

theorem identityRead_identify (hph : s.probes.change.phase = some .identify) : identityRead s = identifyCheck s := by
  simp [identityRead, ha, hr, hbegun, hph]

end

/-! #### The end of DETACH (R136) -/

theorem detachCheck_read {s : State} (h : s.probes.identity ≠ 0) : detachCheck s = failEnded .dropFault 0 s := if_pos h

section
variable {s : State} {d : Fin 8} (h : s.probes.identity = 0) (hd : s.probes.change.drop = some d)
include h hd

theorem detachCheck_absent (hp : present s d = false) : detachCheck s = failEnded .presenceFault 0 s := by
  simp [detachCheck, h, hd, hp]

theorem detachCheck_present (hp : present s d = true) :
    detachCheck s = stretchEnded true beginCloseDrop (setLocation s.probes.change.oldId .inPort s) := by
  simp [detachCheck, h, hd, hp]

end

theorem beginCloseDrop_identity (s : State) : (beginCloseDrop s).probes.identity = s.probes.identity := by
  have hlid : ∀ p o, (commandLid p o s).probes.identity = s.probes.identity := fun p o => by
    cases p <;> rfl
  simp only [beginCloseDrop, beginTravelPick]
  split
  · rw [issueTravel_probes, enterPhase_probes, enterPhase_probes]
    exact hlid _ _
  · rw [enterPhase_probes]
    exact hlid _ _

/-- The read that ends DETACH leaves its identity, whatever it decides. -/
theorem detachCheck_identity {s : State} {d : Fin 8} (hb : Between s) (hd : s.probes.change.drop = some d)
    (he : s.probes.change.expiry = .none) : (detachCheck s).probes.identity = s.probes.identity := by
  have hset : (setLocation s.probes.change.oldId .inPort s).probes.identity = s.probes.identity := by
    rw [setLocation_probes]
  by_cases h : s.probes.identity = 0
  · cases hp : present s d with
    | false => rw [detachCheck_absent h hd hp, (failEnded_probes hb).2.2.1]
    | true =>
      rw [detachCheck_present h hd hp]
      by_cases hdef : s.probes.change.deferred = .none
      · rw [stretchEnded_next (by rw [setLocation_change, hdef]) (by rw [setLocation_change, he])]
        rw [beginCloseDrop_identity, hset]
      · rw [stretchEnded_aborts (by rw [setLocation_change]; exact hdef), finishChange_identity,
          takeDeferredExpiry_probes, abortTaken_probes]
        exact hset
  · rw [detachCheck_read h, (failEnded_probes hb).2.2.1]

/-- CLOSE-DROP begins with the lid not CLOSED yet (R137). -/
theorem beginCloseDrop_closing {s : State} {d : Fin 8} (hd : s.probes.change.drop = some d)
    (hin : (s.pins.ports.get d).closedIn = false) :
    beginCloseDrop s = enterPhase .closeDrop (some Config.lidTicks) (setLid d false s) := by
  have hlid : lidState (setLid d false s) d = .closing := by
    simp [lidState, setLid, vector_get_set, hin]
  have hlid' : lidIs (enterPhase .closeDrop (some Config.lidTicks) (setLid d false s)) (some d) .closed = false := by
    rw [lidIs, show lidState (enterPhase .closeDrop (some Config.lidTicks) (setLid d false s)) d =
      lidState (setLid d false s) d from rfl, hlid]
    rfl
  simp only [beginCloseDrop, hd, commandLid]
  rw [hlid', if_neg (by decide)]

/-! #### The end of IDENTIFY (R139) -/

theorem identifyCheck_target {s : State} (h : s.probes.identity = s.probes.change.target) :
    identifyCheck s = beginWithdraw (setLocation s.probes.change.target .onHead s) := if_pos h

theorem identifyCheck_none {s : State} (h : s.probes.identity ≠ s.probes.change.target) (h0 : s.probes.identity = 0) :
    identifyCheck s = failEnded .pickFault 0 s := (if_neg h).trans (if_pos h0)

theorem identifyCheck_wrong {s : State} (h : s.probes.identity ≠ s.probes.change.target)
    (h0 : s.probes.identity ≠ 0) : identifyCheck s =
      failEnded .wrongProbe s.probes.identity (setLocation s.probes.identity .onHead s) :=
  (if_neg h).trans (if_neg h0)

end Sys2Proof.Machine

namespace Sys2Proof.Machine

/-! ### The phases that end by an input (R135 to R140) -/

section
variable {t : Tick} {s : State} {q : Fin 8} (hr : s.inReset = false) (hb : Between s)
include hr hb

theorem openDrop_ends {d : Fin 8} {closed : Bool} (hph : s.probes.change.phase = some .openDrop)
    (hd : s.probes.change.drop = some d) (hlid : (s.probes.ports.get d).lidOpen = true)
    (hin : (s.pins.ports.get d).openIn = false) : ∃ v, exec (.lidStateInput d true closed t) s = .next (finish v) ∧
      Issued s v .insert .rackInsert (insertPoint s d) s.station.probeCap ∧ v.probes.table = s.probes.table := by
  have hg := ground_pinned t s (lidPins d true closed s.pins)
  refine ⟨_, exec_lid_away hr (.inl (by simp [hin])) (by simp [headStands, hph]), ?_⟩
  rw [inputsChanged_openDrop (s := pinned t s (lidPins d true closed s.pins))
    hb.active hb.undecided hph hd (by simp [lidState_pinned, hlid])]
  exact ⟨issueInsert_issued hb hg, issueInsert_table _ _ _⟩

theorem unlock_ends {d : Fin 8} (hph : s.probes.change.phase = some .unlock) (hd : s.probes.change.drop = some d)
    (hlock : lockState s ≠ .unlocked) : ∃ v, exec (.lockStateInput false true t) s = .next (finish v) ∧
      Issued s v .detach .rackInsert (s.probes.ports.get d).approach.get s.station.probeCap ∧
      v.probes.table = s.probes.table := by
  have hg := ground_pinned t s (lockPins false true s.pins)
  refine ⟨_, exec_lock hr fun h => hlock (by simp [lockState, h.1, h.2]), ?_⟩
  rw [inputsChanged_unlock (s := pinned t s (lockPins false true s.pins))
    hb.active hb.undecided hph hd rfl]
  exact ⟨issueBack_issued hb hg, issueBack_table _ _ _⟩

theorem closeDrop_ends {d : Fin 8} {opened : Bool} (hph : s.probes.change.phase = some .closeDrop)
    (hd : s.probes.change.drop = some d) (hk : s.probes.change.pick = some q)
    (hlid : (s.probes.ports.get d).lidOpen = false) (hin : (s.pins.ports.get d).closedIn = false) :
    ∃ v, exec (.lidStateInput d opened true t) s = .next (finish v) ∧
      Issued s v .travelPick .rackTravel (s.probes.ports.get q).approach.get (travelSpeed s) ∧
      v.probes.table = s.probes.table := by
  have hg := ground_pinned t s (lidPins d opened true s.pins)
  refine ⟨_, exec_lid_away hr (.inr (by simp [hin])) (by simp [headStands, hph]), ?_⟩
  rw [inputsChanged_closeDrop (s := pinned t s (lidPins d opened true s.pins))
    hb.active hb.undecided hph hd hk (by simp [lidState_pinned, hlid])]
  exact ⟨issueTravel_issued hb hg, issueTravel_table _ _ _⟩

theorem openPick_ends_by_lid {closed : Bool} (hph : s.probes.change.phase = some .openPick)
    (hk : s.probes.change.pick = some q) (hlid : (s.probes.ports.get q).lidOpen = true)
    (hin : (s.pins.ports.get q).openIn = false) (hlock : lockState s = .unlocked) :
    ∃ v, exec (.lidStateInput q true closed t) s = .next (finish v) ∧
      Issued s v .engage .rackInsert (insertPoint s q) s.station.probeCap ∧ v.probes.table = s.probes.table := by
  have hg := ground_pinned t s (lidPins q true closed s.pins)
  refine ⟨_, exec_lid_away hr (.inl (by simp [hin])) (by simp [headStands, hph]), ?_⟩
  rw [inputsChanged_openPick (s := pinned t s (lidPins q true closed s.pins))
    hb.active hb.undecided hph hk (by simp [lidState_pinned, hlid]) hlock]
  exact ⟨issueInsert_issued hb hg, issueInsert_table _ _ _⟩

theorem openPick_ends_by_lock (hph : s.probes.change.phase = some .openPick) (hk : s.probes.change.pick = some q)
    (hlid : lidState s q = .opened) (hlock : lockState s ≠ .unlocked) :
    ∃ v, exec (.lockStateInput false true t) s = .next (finish v) ∧
      Issued s v .engage .rackInsert (insertPoint s q) s.station.probeCap ∧ v.probes.table = s.probes.table := by
  have hg := ground_pinned t s (lockPins false true s.pins)
  refine ⟨_, exec_lock hr fun h => hlock (by simp [lockState, h.1, h.2]), ?_⟩
  rw [inputsChanged_openPick (s := pinned t s (lockPins false true s.pins))
    hb.active hb.undecided hph hk hlid rfl]
  exact ⟨issueInsert_issued hb hg, issueInsert_table _ _ _⟩

theorem lock_ends (hph : s.probes.change.phase = some .lock) (hlock : lockState s ≠ .locked)
    (hdef : s.probes.change.deferred = .none) (he : s.probes.change.expiry = .none) :
    ∃ v, exec (.lockStateInput true false t) s = .next (finish v) ∧ v.probes.change.phase = some .identify ∧
      v.probes.change.timer = some ((advance t s).uptime + 1000000) ∧ v.probes.change.readBegun = false ∧
      v.motion = s.motion ∧ v.probes.table = s.probes.table := by
  refine ⟨_, exec_lock hr fun h => hlock (by simp [lockState, h.1, h.2]), ?_⟩
  rw [inputsChanged_lock (s := pinned t s (lockPins true false s.pins))
    hb.active hb.undecided hph rfl, lockEnded,
    stretchEnded_next (s := pinned t s (lockPins true false s.pins)) hdef he]
  exact ⟨rfl, rfl, rfl, rfl, rfl⟩

theorem closePick_ends {opened : Bool} (hph : s.probes.change.phase = some .closePick)
    (hk : s.probes.change.pick = some q) (hlid : (s.probes.ports.get q).lidOpen = false)
    (hin : (s.pins.ports.get q).closedIn = false) :
    ∃ v, exec (.lidStateInput q opened true t) s = .next (finish v) ∧
      Ends s v doneResult ∧ v.probes.table = s.probes.table := by
  refine ⟨_, exec_lid_away hr (.inr (by simp [hin])) (by simp [headStands, hph]), ?_⟩
  rw [inputsChanged_closePick (s := pinned t s (lidPins q opened true s.pins))
    hb.active hb.undecided hph hk (by simp [lidState_pinned, hlid]),
    closePickEnded_eq ((ground_pinned t s _).between hb)]
  refine ⟨⟨by rw [endChange_motion]; exact hb.queue, by rw [endChange_probes]; rfl, ?_⟩, by rw [endChange_probes]; rfl⟩
  rw [endChange_get, if_pos rfl]
  rfl

/-! ### The phases that end by a read (R136, R139) -/

omit hb in
theorem exec_read {id : Byte} (hread : s.probes.reading = true) : exec (.identityReadComplete id t) s =
    .next (finish (identityRead (readDone id t s))) :=
  next_timed hr (readComplete_reading hread)

theorem detach_ends {d : Fin 8} {id : Byte} (hph : s.probes.change.phase = some .detach)
    (hd : s.probes.change.drop = some d) (hread : s.probes.reading = true)
    (hbegun : s.probes.change.readBegun = true) (he : s.probes.change.expiry = .none) :
    ∃ v, exec (.identityReadComplete id t) s = .next (finish v) ∧ v.probes.identity = id.toNat ∧
      (id = 0 → present s d = true → s.probes.change.deferred = .none → (s.pins.ports.get d).closedIn = false →
        v.probes.change.phase = some .closeDrop ∧ (v.probes.ports.get d).lidOpen = false ∧
        v.probes.change.timer = some ((advance t s).uptime + 20000000) ∧
        Located s v s.probes.change.oldId .inPort) ∧
      (id = 0 → present s d = false →
        Ends s v { outcome := .failed, phase := 5, cause := .presenceFault, idRead := 0 } ∧
        Located s v s.probes.change.oldId .unknown ∧ v.probes.ports = s.probes.ports) ∧
      (id ≠ 0 → Ends s v { outcome := .failed, phase := 5, cause := .dropFault, idRead := 0 } ∧
        Located s v s.probes.change.oldId .unknown ∧ v.probes.ports = s.probes.ports) := by
  generalize hw : readDone id t s = w
  have hg : Ground s w := hw ▸ ground_readDone id t s
  have hbw : Between w := hg.between hb
  have hid : w.probes.identity = id.toNat := by rw [← hw]; rfl
  have htab : w.probes.table = s.probes.table := by rw [← hw]; rfl
  have hnot : w.notices = s.notices := by rw [← hw]; rfl
  have hpins : w.pins = s.pins := by rw [← hw]; rfl
  have hup : w.uptime = (advance t s).uptime := by rw [← hw]; rfl
  have hnum : s.probes.change.phaseNumber = 5 := by simp [Change.phaseNumber, hph, Phase.number]
  have hcommit : inCommit w = true := by
    simp [inCommit, hg.change, hb.active, hb.undecided, hph]
  have hunsure : unsureId w.probes.change = s.probes.change.oldId := by rw [hg.change, unsureId, hph]
  have hfail (cause : ChangeCause) : Ends s (failEnded cause 0 w)
        { outcome := .failed, phase := 5, cause := cause, idRead := 0 } ∧
      Located s (failEnded cause 0 w) s.probes.change.oldId .unknown ∧
      (failEnded cause 0 w).probes.ports = s.probes.ports := by
    refine ⟨hnum ▸ failEnded_ends hb hg hnot, fun i => ?_, by rw [failEnded_ports hbw hcommit, hg.ports]⟩
    rw [failEnded_located hbw i, hunsure, htab]
  have hdrop : w.probes.change.drop = some d := by rw [hg.change, hd]
  have hpresent : present w d = present s d := by rw [present, hpins]; rfl
  refine ⟨detachCheck w, ?_, ?_, fun h0 hp hdef hin => ?_, fun h0 hp => ?_, fun h0 => ?_⟩
  · rw [exec_read hr hread, hw, identityRead_detach hbw.active hbw.undecided (by rw [hg.change, hbegun])
      (by rw [hg.change, hph])]
  · rw [detachCheck_identity hbw hdrop (by rw [hg.change, he]), hid]
  · rw [detachCheck_present (by rw [hid, h0]; rfl) hdrop (by rw [hpresent, hp]),
      stretchEnded_next (by rw [setLocation_change, hg.change, hdef]) (by rw [setLocation_change, hg.change, he]),
      beginCloseDrop_closing (d := d) (by rw [setLocation_change, hdrop]) (by rw [setLocation_pins, hpins, hin])]
    refine ⟨rfl, ?_, ?_, fun i => ?_⟩
    · rw [enterPhase_probes]
      simp [setLid, vector_get_set]
    · rw [← hup]
      exact congrArg (fun n => some (n + 20000000)) (setLocation_uptime _ _ w)
    · rw [enterPhase_probes]
      refine (setLocation_table _ _ w i).trans ?_
      rw [hg.change, htab]
  · rw [detachCheck_absent (by rw [hid, h0]; rfl) hdrop (by rw [hpresent, hp])]
    exact hfail _
  · rw [detachCheck_read fun h => h0 (BitVec.eq_of_toNat_eq (hid.symm.trans h))]
    exact hfail _

end

end Sys2Proof.Machine

namespace Sys2Proof.Machine

/-! ### The end of IDENTIFY (R139) -/

theorem Ground.setLocation {s u : State} (h : Ground s u) (id : Nat) (l : Location) : Ground s (setLocation id l u) :=
  ⟨by rw [setLocation_axes, h.axes], by rw [setLocation_axisCount, h.axisCount], by rw [setLocation_motion, h.motion],
    by rw [setLocation_station, h.station], by rw [setLocation_probes, ← h.ports],
    by rw [setLocation_change, h.change]⟩

section
variable {s : State} {q : Fin 8} (hb : Between s) (hph : s.probes.change.phase = some .identify)
  (hk : s.probes.change.pick = some q)
include hb hph hk

/-- IDENTIFY fails on the ground of `s`: the lock and the lid of the pick port are left. -/
theorem identify_fails {u : State} (cause : ChangeCause) (n : Nat) (hg : Ground s u) (hn : u.notices = s.notices)
    (hl : u.probes.unlockOut = s.probes.unlockOut) :
    Ends s (failEnded cause n u) { outcome := .failed, phase := 11, cause := cause, idRead := n } ∧
    Located u (failEnded cause n u) s.probes.change.target .unknown ∧
    (failEnded cause n u).probes.unlockOut = s.probes.unlockOut ∧
    ∀ p, ((failEnded cause n u).probes.ports.get p).lidOpen = ((s.probes.ports.get p).lidOpen && p == q) := by
  have hbu : Between u := hg.between hb
  have hnum : s.probes.change.phaseNumber = 11 := by simp [Change.phaseNumber, hph, Phase.number]
  have hcommit : inCommit u = false := by simp [inCommit, hg.change, hph]
  have hunsure : unsureId u.probes.change = s.probes.change.target := by rw [hg.change, unsureId, hph]
  have hstands (p : Fin 8) : headStands s.probes.change p = (p == q) := by
    simp [headStands, hph, hk, Bool.beq_comm]
  refine ⟨hnum ▸ failEnded_ends hb hg hn, hunsure ▸ failEnded_located hbu,
    by rw [(failEnded_probes hbu).2.2.2, hl], fun p => ?_⟩
  rw [failEnded_lids hbu, hcommit, Bool.false_or, hg.change, hg.ports, hstands]

omit hph in
/-- The target is read: it is on the head, and WITHDRAW begins. -/
theorem identify_target {t : Tick} {id : Byte} (hid : id.toNat = s.probes.change.target) :
    (identifyCheck (readDone id t s)).probes.identity = id.toNat ∧
    Issued s (identifyCheck (readDone id t s)) .withdraw .rackInsert (s.probes.ports.get q).approach.get
      s.station.probeCap ∧
    Located s (identifyCheck (readDone id t s)) s.probes.change.target .onHead := by
  have hg := (ground_readDone id t s).setLocation s.probes.change.target .onHead
  rw [identifyCheck_target hid]
  generalize hu : setLocation (readDone id t s).probes.change.target .onHead (readDone id t s) = u
  have hu' : setLocation s.probes.change.target .onHead (readDone id t s) = u := hu
  rw [hu'] at hg
  have hprobes : (issueBack (some q) (enterPhase .withdraw none u)).probes =
      (enterPhase .withdraw none u).probes := issueBack_probes _ _
  rw [beginWithdraw, hg.change, hk]
  refine ⟨?_, issueBack_issued hb hg, fun i => ?_⟩
  · rw [hprobes, enterPhase_probes, ← hu, setLocation_probes]
    rfl
  · rw [issueBack_table, ← hu]
    exact setLocation_table _ _ _ i

/-- No probe is read. -/
theorem identify_none {t : Tick} {id : Byte} (hne : id.toNat ≠ s.probes.change.target) (h0 : id = 0) :
    Ends s (identifyCheck (readDone id t s))
      { outcome := .failed, phase := 11, cause := .pickFault, idRead := 0 } ∧
    Located s (identifyCheck (readDone id t s)) s.probes.change.target .unknown ∧
    (identifyCheck (readDone id t s)).probes.unlockOut = s.probes.unlockOut ∧
    (∀ p, ((identifyCheck (readDone id t s)).probes.ports.get p).lidOpen =
      ((s.probes.ports.get p).lidOpen && p == q)) ∧
    (identifyCheck (readDone id t s)).probes.identity = id.toNat := by
  have hg := ground_readDone id t s
  rw [identifyCheck_none hne (by subst h0; rfl)]
  obtain ⟨he, hl, hlock, hlids⟩ := identify_fails hb hph hk .pickFault 0 hg rfl rfl
  exact ⟨he, hl, hlock, hlids, (failEnded_probes (hg.between hb)).2.2.1⟩

/-- Another probe is read: it is the one on the head. -/
theorem identify_wrong {t : Tick} {id : Byte} (hne : id.toNat ≠ s.probes.change.target) (h0 : id ≠ 0)
    (htarget : s.probes.change.target ≠ 0) :
    Ends s (identifyCheck (readDone id t s))
      { outcome := .failed, phase := 11, cause := .wrongProbe, idRead := id.toNat } ∧
    (∀ i, (identifyCheck (readDone id t s)).probes.table.get i =
      if (s.probes.table.get i).id = id.toNat then { s.probes.table.get i with location := .onHead }
      else if (s.probes.table.get i).id = s.probes.change.target then
        { s.probes.table.get i with location := .unknown }
      else s.probes.table.get i) ∧
    (identifyCheck (readDone id t s)).probes.unlockOut = s.probes.unlockOut ∧
    (∀ p, ((identifyCheck (readDone id t s)).probes.ports.get p).lidOpen =
      ((s.probes.ports.get p).lidOpen && p == q)) ∧
    (identifyCheck (readDone id t s)).probes.identity = id.toNat := by
  have hid0 : id.toNat ≠ 0 := fun h => h0 (BitVec.eq_of_toNat_eq h)
  have hg := (ground_readDone id t s).setLocation id.toNat .onHead
  rw [identifyCheck_wrong hne hid0]
  have hn : (setLocation id.toNat .onHead (readDone id t s)).notices = s.notices := setLocation_notices _ _ _
  obtain ⟨he, hl, hlock, hlids⟩ := identify_fails hb hph hk .wrongProbe id.toNat hg hn
    (by rw [setLocation_probes]; rfl)
  refine ⟨he, fun i => (hl i).trans ?_, hlock, hlids, (failEnded_probes (hg.between hb)).2.2.1.trans ?_⟩
  · have hset := setLocation_table id.toNat .onHead (readDone id t s) i
    rw [setLocation_id, hset]
    change (if s.probes.change.target ≠ 0 ∧ (s.probes.table.get i).id = s.probes.change.target then _ else _) = _
    by_cases hi : (s.probes.table.get i).id = id.toNat
    · rw [if_neg fun h => hne (hi.symm.trans h.2), if_pos hi]
      exact if_pos ⟨hid0, hi⟩
    · rw [if_neg hi]
      by_cases ht : (s.probes.table.get i).id = s.probes.change.target
      · rw [if_pos ⟨htarget, ht⟩, if_pos ht, if_neg fun h => hi h.2]
        rfl
      · rw [if_neg fun h => ht h.2, if_neg ht, if_neg fun h => hi h.2]
        rfl
  · rw [setLocation_probes]
    rfl

theorem identify_ends {t : Tick} {id : Byte} (hr : s.inReset = false) (hread : s.probes.reading = true)
    (hbegun : s.probes.change.readBegun = true) (htarget : s.probes.change.target ≠ 0) :
    ∃ v, exec (.identityReadComplete id t) s = .next (finish v) ∧ v.probes.identity = id.toNat ∧
      (id.toNat = s.probes.change.target →
        Issued s v .withdraw .rackInsert (s.probes.ports.get q).approach.get s.station.probeCap ∧
        Located s v s.probes.change.target .onHead) ∧
      (id = 0 → Ends s v { outcome := .failed, phase := 11, cause := .pickFault, idRead := 0 } ∧
        Located s v s.probes.change.target .unknown) ∧
      (id ≠ 0 → id.toNat ≠ s.probes.change.target →
        Ends s v { outcome := .failed, phase := 11, cause := .wrongProbe, idRead := id.toNat } ∧
        ∀ i, v.probes.table.get i =
          if (s.probes.table.get i).id = id.toNat then { s.probes.table.get i with location := .onHead }
          else if (s.probes.table.get i).id = s.probes.change.target then
            { s.probes.table.get i with location := .unknown }
          else s.probes.table.get i) ∧
      (id.toNat ≠ s.probes.change.target → v.probes.unlockOut = s.probes.unlockOut ∧
        ∀ p, (v.probes.ports.get p).lidOpen = ((s.probes.ports.get p).lidOpen && p == q)) := by
  have hexec : exec (.identityReadComplete id t) s = .next (finish (identifyCheck (readDone id t s))) := by
    rw [exec_read hr hread, identityRead_identify (s := readDone id t s) hb.active hb.undecided hbegun hph]
  refine ⟨_, hexec, ?_⟩
  by_cases hgot : id.toNat = s.probes.change.target
  · have hne : id ≠ 0 := fun h0 => htarget (by rw [← hgot, h0]; rfl)
    obtain ⟨hi, hrest⟩ := identify_target hb hk (t := t) hgot
    exact ⟨hi, fun _ => hrest, fun h0 => absurd h0 hne, fun _ h => absurd hgot h, fun h => absurd hgot h⟩
  · by_cases h0 : id = 0
    · obtain ⟨he, hl, hlock, hlids, hi⟩ := identify_none hb hph hk (t := t) hgot h0
      exact ⟨hi, fun h => absurd h hgot, fun _ => ⟨he, hl⟩, fun h => absurd h0 h, fun _ => ⟨hlock, hlids⟩⟩
    · obtain ⟨he, htab, hlock, hlids, hi⟩ := identify_wrong hb hph hk (t := t) hgot h0 htarget
      exact ⟨hi, fun h => absurd h hgot, fun h => absurd h h0, fun _ _ => ⟨he, htab⟩, fun _ => ⟨hlock, hlids⟩⟩

end

end Sys2Proof.Machine

namespace Sys2Proof.Machine

/-! ### The phases that begin by a command (R135, R137, R138, R140) -/

theorem lidState_setLid (p : Fin 8) (o : Bool) (s : State) : lidState (setLid p o s) p =
    if o = true then (if (s.pins.ports.get p).openIn = true then .opened else .opening)
    else if (s.pins.ports.get p).closedIn = true then .closed else .closing := by
  simp only [lidState, setLid, vector_get_set]
  rfl

/-- OPEN-DROP begins with the lid not OPEN yet. -/
theorem beginOpenDrop_opening {s : State} {d : Fin 8} (hd : s.probes.change.drop = some d)
    (hin : (s.pins.ports.get d).openIn = false) :
    beginOpenDrop s = enterPhase .openDrop (some Config.lidTicks) (setLid d true s) := by
  have hlid : lidIs (enterPhase .openDrop (some Config.lidTicks) (setLid d true s)) (some d) .opened = false := by
    rw [lidIs, show lidState (enterPhase .openDrop (some Config.lidTicks) (setLid d true s)) d =
      lidState (setLid d true s) d from rfl, lidState_setLid, hin]
    rfl
  simp only [beginOpenDrop, hd, commandLid]
  rw [hlid, if_neg (by decide)]

theorem beginUnlock_locked {s : State} (h : lockState s ≠ .unlocked) :
    beginUnlock s = enterPhase .unlock (some Config.lockTicks) (setLock true s) := if_neg h

/-- OPEN-PICK begins with the lid not OPEN yet or the lock not UNLOCKED. -/
theorem beginOpenPick_waiting {s : State} {q : Fin 8} (hk : s.probes.change.pick = some q)
    (h : ¬((s.pins.ports.get q).openIn = true ∧ lockState s = .unlocked)) :
    beginOpenPick s = enterPhase .openPick (some Config.lidTicks) (setLid q true s) := by
  generalize hu : enterPhase .openPick (some Config.lidTicks) (setLid q true s) = u
  have hlid : lidState u q = lidState (setLid q true s) q := by rw [← hu]; rfl
  have hlock : lockState u = lockState s := by rw [← hu]; rfl
  have hwait : ¬((lidIs u (some q) .opened && lockState u == .unlocked) = true) := fun hw => h (by
    rw [Bool.and_eq_true, lidIs, hlid, lidState_setLid, hlock, if_pos rfl] at hw
    refine ⟨by_contra fun hin => ?_, eq_of_beq hw.2⟩
    rw [if_neg hin] at hw
    exact absurd hw.1 (by decide))
  simp only [beginOpenPick, hk, commandLid]
  rw [hu, if_neg hwait]

theorem beginLock_unlocked {s : State} (h : lockState s ≠ .locked) :
    beginLock s = enterPhase .lock (some Config.lockTicks) (setLock false s) := if_neg h

/-- CLOSE-PICK begins with the lid not CLOSED yet. -/
theorem beginClosePick_closing {s : State} {q : Fin 8} (hk : s.probes.change.pick = some q)
    (hin : (s.pins.ports.get q).closedIn = false) :
    beginClosePick s = enterPhase .closePick (some Config.lidTicks) (setLid q false s) := by
  have hlid : lidIs (enterPhase .closePick (some Config.lidTicks) (setLid q false s)) (some q) .closed = false := by
    rw [lidIs, show lidState (enterPhase .closePick (some Config.lidTicks) (setLid q false s)) q =
      lidState (setLid q false s) q from rfl, lidState_setLid, hin]
    rfl
  simp only [beginClosePick, hk, commandLid]
  rw [hlid, if_neg (by decide)]

/-! ### The records of the table stand as a segment arrives (R134) -/

theorem commandLid_table (p : Option (Fin 8)) (o : Bool) (s : State) :
    (commandLid p o s).probes.table = s.probes.table := by
  cases p <;> rfl

theorem beginOpenDrop_table (s : State) : (beginOpenDrop s).probes.table = s.probes.table := by
  unfold beginOpenDrop
  dsimp only
  split
  · exact (issueInsert_table _ _ _).trans (commandLid_table _ _ s)
  · exact commandLid_table _ _ s

theorem beginUnlock_table (s : State) : (beginUnlock s).probes.table = s.probes.table := by
  unfold beginUnlock
  dsimp only
  split
  · exact issueBack_table _ _ _
  · rfl

theorem beginOpenPick_table (s : State) : (beginOpenPick s).probes.table = s.probes.table := by
  unfold beginOpenPick
  dsimp only
  split
  · exact (issueInsert_table _ _ _).trans (commandLid_table _ _ s)
  · exact commandLid_table _ _ s

theorem beginLock_table {s : State} (hd : s.probes.change.deferred = .none) (he : s.probes.change.expiry = .none) :
    (beginLock s).probes.table = s.probes.table := by
  unfold beginLock
  dsimp only
  split
  · rw [lockEnded, stretchEnded_next (s := enterPhase .lock (some Config.lockTicks) (setLock false s)) hd he]
    rfl
  · rfl

theorem beginClosePick_table {s : State} (hb : Between s) : (beginClosePick s).probes.table = s.probes.table := by
  unfold beginClosePick
  dsimp only
  split
  · have hbu : Between (enterPhase .closePick (some Config.lidTicks) (commandLid s.probes.change.pick false s)) := by
      cases s.probes.change.pick <;> exact ⟨hb.active, hb.undecided, hb.queue⟩
    rw [closePickEnded_eq hbu, endChange_probes]
    exact commandLid_table _ _ s
  · exact commandLid_table _ _ s

/-- The change once its segment has arrived, before its phase looks at it. -/
def segArrives (s : State) : State := mapChange (fun c => { c with segArrived := true, readBegun := false }) s

theorem between_segArrives {s : State} (h : Between s) : Between (segArrives s) := ⟨h.active, h.undecided, h.queue⟩

section
variable {s : State}

theorem rackArrived_travelDrop (h : s.probes.change.phase = some .travelDrop) :
    rackArrived s = beginOpenDrop (segArrives s) := by simp [rackArrived, segArrives, mapChange, setChange, h]

theorem rackArrived_insert (h : s.probes.change.phase = some .insert) :
    rackArrived s = beginUnlock (segArrives s) := by simp [rackArrived, segArrives, mapChange, setChange, h]

theorem rackArrived_travelPick (h : s.probes.change.phase = some .travelPick) :
    rackArrived s = beginOpenPick (segArrives s) := by simp [rackArrived, segArrives, mapChange, setChange, h]

theorem rackArrived_engage (h : s.probes.change.phase = some .engage) :
    rackArrived s = beginLock (segArrives s) := by simp [rackArrived, segArrives, mapChange, setChange, h]

theorem rackArrived_withdraw {q : Fin 8} (h : s.probes.change.phase = some .withdraw)
    (hk : s.probes.change.pick = some q) : rackArrived s =
      if present s q = true then failEnded .presenceFault 0 (segArrives s) else beginClosePick (segArrives s) := by
  simp only [rackArrived, segArrives, mapChange, setChange, h, hk]
  rfl

/-- A phase that no segment ends waits on. -/
theorem rackArrived_waits (h1 : s.probes.change.phase ≠ some .travelDrop) (h2 : s.probes.change.phase ≠ some .insert)
    (h3 : s.probes.change.phase ≠ some .travelPick) (h4 : s.probes.change.phase ≠ some .engage)
    (h5 : s.probes.change.phase ≠ some .withdraw) : rackArrived s = segArrives s := by
  unfold rackArrived
  dsimp only
  split
  · exact absurd ‹_› h1
  · exact absurd ‹_› h2
  · exact absurd ‹_› h3
  · exact absurd ‹_› h4
  · exact absurd ‹_› h5
  · rfl

end

theorem rackArrived_table {s : State} {q : Fin 8} (hb : Between s) (hk : s.probes.change.pick = some q)
    (hd : s.probes.change.deferred = .none) (he : s.probes.change.expiry = .none) :
    (rackArrived s).probes.table = s.probes.table := by
  by_cases h1 : s.probes.change.phase = some .travelDrop
  · rw [rackArrived_travelDrop h1]
    exact beginOpenDrop_table _
  by_cases h2 : s.probes.change.phase = some .insert
  · rw [rackArrived_insert h2]
    exact beginUnlock_table _
  by_cases h3 : s.probes.change.phase = some .travelPick
  · rw [rackArrived_travelPick h3]
    exact beginOpenPick_table _
  by_cases h4 : s.probes.change.phase = some .engage
  · rw [rackArrived_engage h4]
    exact beginLock_table (s := segArrives s) hd he
  by_cases h5 : s.probes.change.phase = some .withdraw
  · rw [rackArrived_withdraw h5 hk]
    split
    · refine vector_ext_get fun i => (failEnded_located (between_segArrives hb) i).trans (if_neg fun h => h.1 ?_)
      change unsureId { s.probes.change with segArrived := true, readBegun := false } = 0
      simp only [unsureId, h5]
    · exact beginClosePick_table (between_segArrives hb)
  · rw [rackArrived_waits h1 h2 h3 h4 h5]
    rfl

end Sys2Proof.Machine

namespace Sys2Proof.Machine

/-! ### A servo sample in which a rack segment arrives (R71, R134) -/

theorem drivesSent_kept (t : Tick) (s : State) : (drivesSent t s).probes = s.probes ∧ (drivesSent t s).pins = s.pins ∧
    (drivesSent t s).uptime = (advance t s).uptime := by
  have h := sampleOnly_drivesSent t s
  rw [SampleOnly] at h
  rw [h]
  exact ⟨rfl, rfl, rfl⟩

/-- The settle condition reads demands, positions and records, which sending the drive demands keeps. -/
theorem inPosition_drivesSent (t : Tick) (s : State) (seg : Segment) :
    inPosition (drivesSent t s) seg = inPosition (sampled t s) seg := by
  have haxis (i : Fin 4) : ((drivesSent t s).axis i).error = ((sampled t s).axis i).error ∧
      ((drivesSent t s).axis i).record = ((sampled t s).axis i).record := by
    rw [drivesSent, sendDrives, State.axis_mapAxes]
    cases (sampled t s).live i with
    | false => exact ⟨rfl, rfl⟩
    | true => cases ampOn (sampled t s) <;> exact ⟨rfl, rfl⟩
  have hmoved : movedAxes (drivesSent t s) seg = movedAxes (sampled t s) seg := rfl
  simp only [inPosition, hmoved, haxis]

/-- The state in which the segment has left and the change learns that it has arrived. -/
def rackSegmentGone (t : Tick) (s : State) : State := headGone [] (drivesSent t s)

theorem rackSegmentGone_kept (t : Tick) (s : State) : (rackSegmentGone t s).motion.queue = [] ∧
    (rackSegmentGone t s).probes = s.probes ∧ (rackSegmentGone t s).pins = s.pins ∧
    (rackSegmentGone t s).uptime = (advance t s).uptime := by
  obtain ⟨hp, hpin, hup⟩ := drivesSent_kept t s
  exact ⟨headGone_queue _ _, (headGone_probes _ _).trans hp, (motionOnly_headGone [] _).pins.trans hpin,
    (motionOnly_headGone [] _).uptime.trans hup⟩

theorem servo_arrives {t : Tick} {s : State} {seg : Segment} (h : Arrives t s seg) (hq : s.motion.queue = [seg])
    (hi : seg.issuer = .probeUnit) (hr : s.probes.change.result = none) :
    servo (advance t s) = autoRelease (rackArrived (rackSegmentGone t s)) := by
  have hdriving : seg.driving = true := by simp [Segment.driving, h.moving]
  have hqueue : (drivesSent t s).motion.queue = [stepSegment (advance t s) seg] := by
    rw [drivesSent_queue, drivenQueue, hq]
    simp only [driven, h.powered, hdriving, and_self, if_true]
  have hnear : inPosition (drivesSent t s) (stepSegment (advance t s) seg) = true := by
    rw [inPosition_drivesSent, h.near]
  have hstate : (stepSegment (advance t s) seg).state = .moving := by rw [stepSegment_state, h.moving]
  have hkind : ¬(stepSegment (advance t s) seg).kind = .probe := by rw [stepSegment_kind]; exact h.kind
  have hissuer : (stepSegment (advance t s) seg).issuer = .probeUnit := by rw [stepSegment_issuer, hi]
  have hend : segmentEnds .arrived (stepSegment (advance t s) seg) (drivesSent t s) = drivesSent t s :=
    if_neg (by rw [hissuer]; decide)
  have hgone : removeHead .arrived (drivesSent t s) = rackSegmentGone t s := by
    rw [removeHead_last hqueue, hend]
    rfl
  have hresult : ¬((rackSegmentGone t s).probes.change.result.isSome = true) := by
    rw [(rackSegmentGone_kept t s).2.1, hr]
    decide
  rw [servo_sound h.sound, endOfPeriod, hqueue]
  dsimp only
  rw [hstate]
  dsimp only
  rw [if_pos h.arrived, if_neg hkind, if_pos hnear, endHead_eq hqueue, if_pos hissuer, hgone, afterRackEnd,
    if_neg hresult]

/-- Phase `ph` has begun in `v`, and waits `ticks` for its condition. -/
def Begun (t : Tick) (s v : State) (ph : Phase) (ticks : Nat) : Prop := v.motion.queue = [] ∧
  v.probes.change = { s.probes.change with
    phase := some ph, timer := some ((advance t s).uptime + ticks), segArrived := false, readBegun := false }

section
variable {t : Tick} {s : State}

/-- The ground on which the phase after a rack segment begins. -/
structure ArrivedIn (t : Tick) (s w : State) : Prop where
  queue : w.motion.queue = []
  change : w.probes.change = { s.probes.change with segArrived := true, readBegun := false }
  uptime : w.uptime = (advance t s).uptime

theorem arrivedIn_segArrives (t : Tick) (s : State) : ArrivedIn t s (segArrives (rackSegmentGone t s)) := by
  obtain ⟨hq, hp, -, hup⟩ := rackSegmentGone_kept t s
  exact ⟨hq, by rw [segArrives, mapChange, hp]; rfl, hup⟩

theorem ArrivedIn.begun {u w : State} {ph : Phase} {ticks : Nat} (h : ArrivedIn t s w)
    (hu : u = enterPhase ph (some ticks) w) : Begun t s u ph ticks := by
  rw [Begun, hu, enterPhase_probes, enterPhase_motion]
  refine ⟨h.queue, ?_⟩
  dsimp only
  rw [h.change, h.uptime]
  rfl

theorem ArrivedIn.setLid {w : State} (h : ArrivedIn t s w) (p : Fin 8) (o : Bool) : ArrivedIn t s (setLid p o w) :=
  ⟨h.queue, h.change, h.uptime⟩

theorem ArrivedIn.setLock {w : State} (h : ArrivedIn t s w) (o : Bool) : ArrivedIn t s (setLock o w) :=
  ⟨h.queue, h.change, h.uptime⟩

theorem setLid_lidOpen (p : Fin 8) (o : Bool) (w : State) : ((setLid p o w).probes.ports.get p).lidOpen = o := by
  simp [Machine.setLid, vector_get_set]

/-- The pins that a phase reads are those of the state before the sample. -/
theorem pins_segArrives (t : Tick) (s : State) : (segArrives (rackSegmentGone t s)).pins = s.pins :=
  (rackSegmentGone_kept t s).2.2.1

theorem lockState_segArrives (t : Tick) (s : State) : lockState (segArrives (rackSegmentGone t s)) = lockState s := by
  rw [lockState, lockState, pins_segArrives]

end

end Sys2Proof.Machine

namespace Sys2Proof.Machine

/-! ### What the arrival begins, phase by phase (R135 to R140) -/

section
variable {t : Tick} {s : State} {q : Fin 8}

theorem phase_segmentGone {ph : Phase} (h : s.probes.change.phase = some ph) :
    (rackSegmentGone t s).probes.change.phase = some ph := by rw [(rackSegmentGone_kept t s).2.1, h]

theorem travelDrop_arrives {d : Fin 8} (h : s.probes.change.phase = some .travelDrop)
    (hd : s.probes.change.drop = some d) (hin : (s.pins.ports.get d).openIn = false) :
    Begun t s (rackArrived (rackSegmentGone t s)) .openDrop 20000000 ∧
      ((rackArrived (rackSegmentGone t s)).probes.ports.get d).lidOpen = true := by
  have hA := arrivedIn_segArrives t s
  have hbegin := beginOpenDrop_opening (s := segArrives (rackSegmentGone t s)) (d := d) (by rw [hA.change, ← hd])
    (by rw [pins_segArrives, hin])
  rw [rackArrived_travelDrop (phase_segmentGone h)]
  exact ⟨(hA.setLid d true).begun hbegin, by rw [hbegin]; exact setLid_lidOpen d true _⟩

theorem insert_arrives (h : s.probes.change.phase = some .insert) (hlock : lockState s ≠ .unlocked) :
    Begun t s (rackArrived (rackSegmentGone t s)) .unlock 5000000 ∧
      (rackArrived (rackSegmentGone t s)).probes.unlockOut = true := by
  have hA := arrivedIn_segArrives t s
  have hbegin := beginUnlock_locked (s := segArrives (rackSegmentGone t s)) (by rwa [lockState_segArrives])
  rw [rackArrived_insert (phase_segmentGone h)]
  exact ⟨(hA.setLock true).begun hbegin, by rw [hbegin]; rfl⟩

theorem detach_arrives (h : s.probes.change.phase = some .detach) :
    (rackArrived (rackSegmentGone t s)).motion.queue = [] ∧ (rackArrived (rackSegmentGone t s)).probes.change =
      { s.probes.change with segArrived := true, readBegun := false } := by
  have hA := arrivedIn_segArrives t s
  have hph := phase_segmentGone (t := t) h
  rw [rackArrived_waits (by rw [hph]; decide) (by rw [hph]; decide) (by rw [hph]; decide) (by rw [hph]; decide)
    (by rw [hph]; decide)]
  exact ⟨hA.queue, hA.change⟩

theorem travelPick_arrives (h : s.probes.change.phase = some .travelPick) (hk : s.probes.change.pick = some q)
    (hwait : ¬((s.pins.ports.get q).openIn = true ∧ lockState s = .unlocked)) :
    Begun t s (rackArrived (rackSegmentGone t s)) .openPick 20000000 ∧
      ((rackArrived (rackSegmentGone t s)).probes.ports.get q).lidOpen = true := by
  have hA := arrivedIn_segArrives t s
  have hbegin := beginOpenPick_waiting (s := segArrives (rackSegmentGone t s)) (q := q) (by rw [hA.change, ← hk])
    (by rwa [pins_segArrives, lockState_segArrives])
  rw [rackArrived_travelPick (phase_segmentGone h)]
  exact ⟨(hA.setLid q true).begun hbegin, by rw [hbegin]; exact setLid_lidOpen q true _⟩

theorem engage_arrives (h : s.probes.change.phase = some .engage) (hlock : lockState s ≠ .locked) :
    Begun t s (rackArrived (rackSegmentGone t s)) .lock 5000000 ∧
      (rackArrived (rackSegmentGone t s)).probes.unlockOut = false := by
  have hA := arrivedIn_segArrives t s
  have hbegin := beginLock_unlocked (s := segArrives (rackSegmentGone t s)) (by rwa [lockState_segArrives])
  rw [rackArrived_engage (phase_segmentGone h)]
  exact ⟨(hA.setLock false).begun hbegin, by rw [hbegin]; rfl⟩

theorem withdraw_arrives (h : s.probes.change.phase = some .withdraw) (hk : s.probes.change.pick = some q) :
    rackArrived (rackSegmentGone t s) = if present s q = true then
      failEnded .presenceFault 0 (segArrives (rackSegmentGone t s))
      else beginClosePick (segArrives (rackSegmentGone t s)) := by
  have hpresent : present (rackSegmentGone t s) q = present s q := by
    rw [present, (rackSegmentGone_kept t s).2.2.1]
    rfl
  rw [rackArrived_withdraw (phase_segmentGone h) (by rw [(rackSegmentGone_kept t s).2.1, hk]), hpresent]

/-- The probe is still in the pick port. -/
theorem withdraw_arrives_present (h : s.probes.change.phase = some .withdraw) (hk : s.probes.change.pick = some q)
    (ha : s.probes.change.active = true) (hr : s.probes.change.result = none) (hp : present s q = true) :
    (rackArrived (rackSegmentGone t s)).motion.queue = [] ∧ (rackArrived (rackSegmentGone t s)).probes.change =
      Change.idle (some { outcome := .failed, phase := 12, cause := .presenceFault, idRead := 0 }) := by
  have hA := arrivedIn_segArrives t s
  have hb : Between (segArrives (rackSegmentGone t s)) :=
    ⟨by rw [hA.change]; exact ha, by rw [hA.change]; exact hr, hA.queue⟩
  rw [withdraw_arrives h hk, if_pos hp]
  obtain ⟨hq, hc, -⟩ := failEnded_ends (cause := .presenceFault) (n := 0) hb ⟨rfl, rfl, rfl, rfl, rfl, rfl⟩ rfl
  refine ⟨hq, hc.trans ?_⟩
  rw [hA.change]
  simp [phaseResult, Change.phaseNumber, h, Phase.number]

/-- The pick port is empty: the lid is closed. -/
theorem withdraw_arrives_absent (h : s.probes.change.phase = some .withdraw) (hk : s.probes.change.pick = some q)
    (hp : present s q = false) (hin : (s.pins.ports.get q).closedIn = false) :
    Begun t s (rackArrived (rackSegmentGone t s)) .closePick 20000000 ∧
      ((rackArrived (rackSegmentGone t s)).probes.ports.get q).lidOpen = false := by
  have hA := arrivedIn_segArrives t s
  have hbegin := beginClosePick_closing (s := segArrives (rackSegmentGone t s)) (q := q) (by rw [hA.change, ← hk])
    (by rw [pins_segArrives, hin])
  rw [withdraw_arrives h hk, if_neg (by simp [hp])]
  exact ⟨(hA.setLid q false).begun hbegin, by rw [hbegin]; exact setLid_lidOpen q false _⟩

end

/-- Settles O42: the input, the read or the arrival that a phase waits for, and the phase that follows or the end of
the change. -/
theorem changePhasesAdvanceOnTheirConditions : Obligations.ChangePhasesAdvanceOnTheirConditions := by
  refine ⟨fun t s q hr ha hres hq hk => ?_, fun t s seg q h hq hi ha hr hk he => ?_⟩
  · have hb : Between s := ⟨ha, hres, hq⟩
    exact ⟨fun d closed hph hd hlid hin => openDrop_ends hr hb hph hd hlid hin,
      fun d hph hd hlock => unlock_ends hr hb hph hd hlock,
      fun d opened hph hd hlid hin => closeDrop_ends hr hb hph hd hk hlid hin,
      fun closed hph hlid hin hlock => openPick_ends_by_lid hr hb hph hk hlid hin hlock,
      fun hph hlid hlock => openPick_ends_by_lock hr hb hph hk hlid hlock,
      fun hph hlock hdef he => lock_ends hr hb hph hlock hdef he,
      fun opened hph hlid hin => closePick_ends hr hb hph hk hlid hin,
      fun d id hph hd hread hbegun he => detach_ends hr hb hph hd hread hbegun he,
      fun id hph hread hbegun htarget _ => identify_ends hb hph hk hr hread hbegun htarget,
      fun id _ hread hbegun => next_timed hr ((readComplete_reading hread).trans (identityRead_unbegun hbegun))⟩
  · have hv : servo (advance t s) = autoRelease (rackArrived (rackSegmentGone t s)) := servo_arrives h hq hi hr
    have hgone := (rackSegmentGone_kept t s).2.1
    refine ⟨servo (advance t s), next_timed h.awake rfl, fun hdef => ?_, ?_⟩
    · have hb : Between (rackSegmentGone t s) :=
        ⟨by rw [hgone, ha], by rw [hgone, hr], (rackSegmentGone_kept t s).1⟩
      rw [hv, autoRelease_probes, rackArrived_table hb (by rw [hgone, hk]) (by rw [hgone, hdef]) (by rw [hgone, he]),
        hgone]
    · dsimp only
      rw [hv, autoRelease_motion, autoRelease_probes]
      exact ⟨fun d hph hd hin => travelDrop_arrives hph hd hin, fun hph hlock => insert_arrives hph hlock,
        fun hph => detach_arrives hph, fun hph hwait => travelPick_arrives hph hk hwait,
        fun hph hlock => engage_arrives hph hlock, fun hph hp => withdraw_arrives_present hph hk ha hr hp,
        fun hph hp hin => withdraw_arrives_absent hph hk hp hin⟩

end Sys2Proof.Machine

end
